-- ==== Sys2Proof/Word.lean ====
section
/-! DEFINITION. The word types of the hub and their plainest arithmetic. -/

namespace Sys2Proof

/-- One byte of a frame, a record or a domain entry. -/
abbrev Byte := BitVec 8

/-- A two's complement number of `w` bits read from its encoding. -/
def signed (w n : Nat) : Int :=
  if n < 2 ^ (w - 1) then (n : Int) else (n : Int) - (2 ^ w : Nat)

/-- The encoding of an integer as a two's complement number of `w` bits. -/
def unsigned (w : Nat) (i : Int) : Nat := (i % ((2 ^ w : Nat) : Int)).toNat

end Sys2Proof
end

