-- ==== Sys2Proof/Syntax.lean ====
section
/-! DEFINITION. The commands of the hub: one constructor for each row of spec/opcode_table.json, in the table's
order, with the operands the step takes from outside: the resource it concerns, the value written, the message
received or the reading measured. -/

namespace Sys2Proof

/-- What every SERVICE request carries (Table 15-1): its transaction number, whether it travels south (the response
goes the other way, R341), and whether a reserved header bit is set (R412). -/
structure Req where
  txn : BitVec 8
  south : Bool
  reservedSet : Bool
  deriving DecidableEq, Repr

/-- Table 12-1: the Leat ports. -/
inductive Port where
  | N | NX | S | SX | T
  deriving DecidableEq, Repr

/-- The port dies (R10). -/
inductive Die where
  | A | B
  deriving DecidableEq, Repr

/-- Payload of a SYNC frame (Table 02-3); the message kind is the command's. -/
structure TimingMsg where
  domain : BitVec 2
  notTraceable : Bool
  holdover : Bool
  exponent : BitVec 8
  seq : BitVec 16
  time : BitVec 96
  master : BitVec 64
  hops : BitVec 16
  deriving DecidableEq, Repr

/-- Port entries whose write is a port setting of R79 (0x2600.02 to 0x2600.07). -/
inductive PortSetting where
  | voltageSet | senseLimit | sense | currentLimit | currentSet | compliance
  deriving DecidableEq, Repr

/-- The IEPE settings of a channel (0x2400.0A, 0x2400.0B). -/
inductive IepeSetting where
  | current | highPass
  deriving DecidableEq, Repr

/-- The range settings of a channel (0x2400.02 to 0x2400.05). -/
inductive RangeSetting where
  | mode | fixed | widest | narrowest
  deriving DecidableEq, Repr

/-- The detector settings of a channel (0x2400.11, 0x2400.14). -/
inductive DetectorSetting where
  | openWire | excursion
  deriving DecidableEq, Repr

/-- Fields of a TRAIN set (Table 12-4). -/
structure TrainSet where
  hostKind : Bool
  maxRate : BitVec 2
  seen : Bool
  go : Bool
  chainEnd : Bool
  twinB : Bool
  resume : Bool
  testStart : Bool
  testAccept : Bool
  agreed : BitVec 2
  nextExpected : BitVec 16
  duration : BitVec 16
  deriving DecidableEq, Repr

/-- What the port's receiver reports with a run of TRAIN sets: how many arrived clean and how many with complement bytes
that do not match, the lock of each lane, and the skew (R323, R324, R327). -/
structure TrainRun where
  set : TrainSet
  count : Nat
  bad : BitVec 16
  lock0 : Bool
  lock1 : Bool
  skewPs : BitVec 32
  /-- IDLE sets arrived from the partner after the run (R327 step 5). -/
  idle : Bool
  deriving DecidableEq, Repr

/-- Why an UP port enters RETRAIN (R338). -/
inductive RetrainCause where
  | replays | lockLost | codeErrors
  deriving DecidableEq, Repr

/-- Payload of a CREDIT frame (Table 12-9). -/
structure CreditMsg where
  limit : BitVec 32
  mask : BitVec 8
  rewind : Bool
  queue : BitVec 3
  rewindTo : BitVec 32
  release : Vector (BitVec 32) 8
  deriving DecidableEq, Repr

/-- Payload of an ENUM ASSIGN frame (Table 12-10). -/
structure AssignMsg where
  ladder : Bool
  fromSouth : Bool
  dualHomed : Bool
  chain : BitVec 12
  position : BitVec 8
  deriving DecidableEq, Repr

/-- A field of an ACK or NAK as it arrives (Table 12-2), with the bytes that should be its complement. -/
structure Checked where
  value : BitVec 16
  inv : BitVec 16
  deriving DecidableEq, Repr

/-- A word found by the scrubber or by a read (R310, R311): where it lies and what could not be corrected. -/
inductive EccSite where
  /-- a data word of the held record -/
  | data
  /-- a word of the block header of the held record -/
  | header
  /-- both copies of a directory field of the held record -/
  | directory
  /-- one of the two copies of one of the seven directory fields of Table 11-1 -/
  | directoryCopy (field : Fin 7) (second : Bool)
  deriving DecidableEq, Repr

/-- What the transmitter's read of a record found (R310): words corrected, and a word that could not be. -/
structure MemRead where
  corrected : BitVec 32
  lost : Option EccSite
  deriving DecidableEq, Repr

/-- The port that reached a frame boundary, and what its transmitter's read of the Hopper found. -/
structure BoundaryRead where
  port : Port
  read : MemRead
  deriving DecidableEq, Repr

/-- Table 10-7: what decoding an image can find. -/
inductive DecodeError where
  | illegalCode | distance | length | header | check | endCheck
  deriving DecidableEq, Repr

/-- What the verify decoder reports of a block (R285, Table 10-7). -/
inductive Verify where
  | good | illegalCode | distance | length | header | mismatch
  deriving DecidableEq, Repr

/-- How a block was encoded: what the verify decoder reports, how often the staging buffer filled meanwhile (R284), and
whether a read won against its commit at depth 0 (R304). -/
structure Encoding where
  verify : Verify
  stalls : BitVec 16
  popWins : Bool
  deriving DecidableEq, Repr

/-- A level of a gate pin and the island ticks for which it has stood (R188). -/
structure GatePulse where
  level : Bool
  ticks : BitVec 16
  deriving DecidableEq, Repr

/-- An uncorrectable word in the held record of a queue (R311). -/
structure EccError where
  queue : Fin 8
  record : BitVec 32
  site : EccSite
  deriving DecidableEq, Repr

/-- An error found in one flash copy (R292): image type 1 to 6, copy A or B, Table 10-7 code, block number. -/
structure FlashError where
  type : Fin 7
  copyB : Bool
  code : DecodeError
  block : BitVec 16
  deriving DecidableEq, Repr

/-- How a write of flash ended (R427, R429): its result, 3 for a write error, and what the decoder found in the read-back
where the result is 2. -/
structure FlashEnd where
  code : Fin 4
  found : FlashError
  deriving DecidableEq, Repr

/-- Levels of the pins the safety functions sample at a tick (R379, R381, R392). -/
structure SafetyPins where
  sia : BitVec 16
  sib : BitVec 16
  tfa : BitVec 8
  tfb : BitVec 8
  deriving DecidableEq, Repr

/-- HEARTBEAT item (Table 13-3). -/
structure HeartbeatItem where
  role : BitVec 8
  status : BitVec 16
  digest : BitVec 32
  seq : BitVec 16
  /-- what pairing compares beside the digest (R362): product code and energy class of the partner, and whether it is in
  Idle -/
  product : BitVec 16
  energyClass : BitVec 8
  idle : Bool
  deriving DecidableEq, Repr

/-- COMMIT item (Table 13-3). -/
structure CommitItem where
  queue : Fin 8
  kind : BitVec 8
  length : BitVec 16
  record : BitVec 32
  check : BitVec 32
  deriving DecidableEq, Repr

/-- Wake sources of Dormant (R462). -/
inductive WakeSource where
  | wakeN | wakeTime | nSignal
  deriving DecidableEq, Repr

/-- TAP instructions, as far as R501 tells them apart. -/
inductive TapInstr where
  | bypass | idcode | other
  deriving DecidableEq, Repr

/-- Table 15-8: the long operations. -/
inductive LongOp where
  | persist | restoreDefaults | imageTest | imageInstall | planCheck | soundingSweep | laneTest | twinPair
  deriving DecidableEq, Repr

/-- The five core rails and three die temperatures that the hub measures every 1 ms (R446), in mV and 0.1 °C. -/
structure RailReading where
  vcInt : BitVec 16
  vcScr : BitVec 16
  vcHop : BitVec 16
  vcCtl : BitVec 16
  vddLt : BitVec 16
  tCore : BitVec 16
  tA : BitVec 16
  tB : BitVec 16
  deriving DecidableEq, Repr

/-- The demodulated estimate of one channel (R137), whose arithmetic the spec does not give: Z in mΩ, and whether the
standard error is too large or the estimate saturated. -/
structure SoundingEstimate where
  re : BitVec 32
  im : BitVec 32
  noisyError : Bool
  saturated : Bool
  deriving DecidableEq, Repr

/-- The commands. -/
inductive Instr where
  -- Governor
  | incrementWrite (r : Req) (d : Fin 4) (v : BitVec 64)
  | setTime (r : Req) (d : Fin 4) (v : BitVec 96)
  | offsetAdjust (r : Req) (d : Fin 4) (v : BitVec 64)
  | stepApply (d : Fin 4)
  | governorModeWrite (r : Req) (v : BitVec 8)
  | servoEnableWrite (r : Req) (v : BitVec 8)
  | masterAcknowledge (r : Req) (d : Fin 4) (v : BitVec 8)
  | sync (p : Port) (m : TimingMsg) (dly : Fin 163840)
  | delayReq (p : Port) (m : TimingMsg) (dly : Fin 163840)
  | delayResp (p : Port) (m : TimingMsg)
  | syncSend (d : Fin 4)
  | syncLoss (d : Fin 4)
  | ocxoRdyChange (level : Bool)
  | ppsPulse
  -- inputs and excitation
  | sensorModeWrite (r : Req) (c : Fin 512) (v : BitVec 8)
  | portModeWrite (r : Req) (g : Fin 128) (v : BitVec 8)
  | outputEnableWrite (r : Req) (g : Fin 128) (v : BitVec 8)
  | portSettingWrite (r : Req) (g : Fin 128) (e : PortSetting) (v : BitVec 16)
  | iepeSettingWrite (r : Req) (c : Fin 512) (e : IepeSetting) (v : BitVec 16)
  | dissipationBudgetWrite (r : Req) (v : BitVec 16)
  | budgetCheck (vexcA vexcB : BitVec 16)
  | dischargeComplete (g : Fin 128)
  | dischargeFail (g : Fin 128)
  | foldback (g : Fin 128)
  | foldbackRetry (g : Fin 128) (regulates : Bool)
  | senseFault (g : Fin 128)
  | iepeOpen (c : Fin 512) (bias : BitVec 16)
  | iepeShort (c : Fin 512) (bias : BitVec 16)
  | iepeRetry (c : Fin 512) (bias : BitVec 16)
  | rangeSettingWrite (r : Req) (c : Fin 512) (e : RangeSetting) (v : BitVec 8)
  | inputBiasWrite (r : Req) (c : Fin 512) (v : BitVec 8)
  | blankPin (k : Fin 4) (level : Bool)
  | blankHangExpiry (k : Fin 4)
  | blankWindowStart (w : Fin 8)
  | blankWindowEnd (w : Fin 8)
  | excitationSettleEnd (g : Fin 128)
  | sealRead (pins : BitVec 16)
  -- plan and conversion
  | planStart
  | rotationStart (g : Fin 128)
  | conversion (g : Fin 128) (second : Bool) (code : BitVec 18) (beyondRail : Bool)
  | evtQualify (k : Fin 4) (high : Bool) (width : BitVec 32)
  | burstStart (k : Fin 4)
  | burstEnd (g : Fin 128)
  | gapRecord (g : Fin 128)
  | groupStop (g : Fin 128)
  -- wire faults and Sounding
  | detectorSettingWrite (r : Req) (c : Fin 512) (e : DetectorSetting) (v : BitVec 8)
  | soundingSweep (r : Req) (args : List Byte)
  | soundingChannelDone (die : Die) (z : SoundingEstimate)
  | tonePeriodEnd (die : Die)
  -- Millstone
  | rawRecord (g : Fin 128)
  | coefficientsWrite (r : Req) (k : Fin 32) (taps : List Byte)
  | firSetClear (r : Req) (k : Fin 32) (v : BitVec 8)
  | coefficientBlockWrite (r : Req) (c : Fin 512) (bytes : List Byte)
  | dieSensorRead (die : Die) (reading : BitVec 32)
  -- Sail
  | sailEdge (n : Fin 8) (rising : Bool) (f : Fin 512)
  | armTimeout (n : Fin 8)
  | gateEvent (g : Fin 4) (level : GatePulse)
  | arm (r : Req) (n : Fin 8) (v : BitVec 8)
  | measureWindowEnd (n : Fin 8)
  | sailCalibration (n : Fin 8) (temperature : BitVec 16)
  | sailStartCalibrationDone (temperature : BitVec 16)
  | queuePop (r : Req) (n : Fin 8)
  | sailQueueMark (r : Req) (n : Fin 8) (v : BitVec 8)
  | sailQueueRewind (r : Req) (n : Fin 8) (v : BitVec 8)
  | sailQueueRelease (r : Req) (n : Fin 8) (v : BitVec 8)
  -- angle grids
  | toothTimeout (a : Fin 4)
  | standstill (a : Fin 4)
  | phaseFlip (r : Req) (a : Fin 4) (v : BitVec 8)
  | suspend (r : Req) (a : Fin 4) (v : BitVec 8)
  -- streams and the admission check
  | allocate (r : Req) (v : BitVec 8)
  | planCheck (r : Req) (args : List Byte)
  | planCheckComplete
  | paceMeasure (intake screed hopper : BitVec 16)
  -- Screed
  | blockEncode (st : Fin 16384) (verify : Encoding)
  | codeLengthsWrite (r : Req) (u : Fin 8) (bytes : List Byte)
  | userTableClear (r : Req) (u : Fin 8) (v : BitVec 8)
  -- Hopper
  | hopperMark (r : Req) (q : Fin 8) (v : BitVec 8)
  | hopperRewind (r : Req) (q : Fin 8) (v : BitVec 8)
  | rewindTo (r : Req) (q : Fin 8) (v : BitVec 32)
  | hopperRelease (r : Req) (q : Fin 8) (v : BitVec 8)
  | releaseThrough (r : Req) (q : Fin 8) (v : BitVec 32)
  | scrubPass (corrected uncorrectableFree : BitVec 32) (errors : List EccError)
  -- Leat and Weir
  | portEnableWrite (r : Req) (p : Port) (v : BitVec 8)
  | trainReceived (p : Port) (t : TrainRun)
  | rateFallback (p : Port)
  | laneTest (r : Req) (args : List Byte)
  | testAcceptTimeout (p : Port)
  | laneTestEnd (p : Port) (bits errors0 errors1 : BitVec 64) (lockLost : Bool)
  | frameReceived (p : Port) (bytes : List Byte) (codeError : Bool)
  | ack (p : Port) (seq window : Checked)
  | nak (p : Port) (seq window : Checked)
  | replayTimeout (p : Port)
  | retrain (p : Port) (cause : RetrainCause)
  | portDown (p : Port)
  | frameBoundary (p : BoundaryRead)
  | credit (m : CreditMsg)
  | assign (p : Port) (m : AssignMsg)
  | unplace (p : Port)
  | linkReset (broadcast : Bool)
  | pathLost (p : Port) (south : Bool)
  | pathRestored (p : Port) (south : Bool)
  -- twin operation
  | twinRaw (words : List (BitVec 64))
  | heartbeat (h : HeartbeatItem)
  | heartbeatSend
  | heartbeatSilence
  | commit (m : CommitItem)
  | confirm (q : Fin 8) (record : BitVec 32)
  | record (q : Fin 8) (bytes : List Byte)
  | twinCredit (m : CreditMsg)
  | drop (st : Fin 16384) (first : BitVec 32)
  | relinquish (cause : BitVec 8)
  | swapAt (t : BitVec 96)
  | swapInstant
  | twinRun (t : BitVec 96)
  | twinStop (target : BitVec 8)
  | pairBegin (total : BitVec 32) (queues : BitVec 16)
  | copy (q : Fin 8) (record : BitVec 32) (offset : BitVec 16) (bytes : List Byte)
  | pairEnd (points : Vector (BitVec 32) 8)
  | twinPair (r : Req) (args : List Byte)
  | roleSwap (r : Req)
  | roleForcedSwap (r : Req)
  | roleStepDown (r : Req)
  | roleWaitExpiry
  | partnerHeld
  | excitationDeferredEnable (g : Fin 128)
  | proofDue (hours : Unit)
  | resetPartner (r : Req) (v : BitVec 8)
  | twrstN
  -- safety functions and Scrim
  | safetyTick (pins : SafetyPins) (mismatch : Bool)
  | debounceAccept (k : Fin 16) (chB : Bool)
  | discrepancyFault (k : Fin 16)
  | readbackFault (n : Fin 8) (chB : Bool)
  | tickOverrun
  | testPulse (n : Fin 8) (chB : Bool)
  | inputAcknowledge (r : Req) (k : Fin 16) (v : BitVec 8)
  | tripAcknowledge (r : Req) (n : Fin 8) (v : BitVec 8)
  | comparatorStale (l : Fin 256)
  | comparatorInvalidHold (l : Fin 256)
  | scrimProduce (k : Fin 64)
  | scrimMessage (bytes : List Byte)
  | scrimWatchdog (k : Fin 64)
  | scrimReset (r : Req) (k : Fin 64) (v : BitVec 8)
  | connectionEnableWrite (r : Req) (k : Fin 64) (v : BitVec 8)
  -- object dictionary and long operations
  | read (r : Req) (idx : BitVec 16) (sub : BitVec 8)
  | write (r : Req) (idx : BitVec 16) (sub : BitVec 8) (total : BitVec 16) (last : Bool) (data : List Byte)
  | uploadSegment (r : Req) (idx : BitVec 16) (sub : BitVec 8) (toggle : Bool)
  | downloadSegment (r : Req) (idx : BitVec 16) (sub : BitVec 8) (toggle last : Bool) (data : List Byte)
  | domainStart (r : Req) (idx : BitVec 16) (sub : BitVec 8) (total : BitVec 32)
  | domainSegment (r : Req) (idx : BitVec 16) (sub : BitVec 8) (num : BitVec 16) (last : Bool) (data : List Byte)
  | domainEnd (r : Req) (idx : BitVec 16) (sub : BitVec 8) (crc : BitVec 32)
  | cancel (r : Req) (idx : BitVec 16) (sub : BitVec 8)
  | transferTimeout (txn : BitVec 8)
  | persist (r : Req) (args : List Byte)
  | persistDone (result : FlashEnd)
  | restoreDefaults (r : Req) (args : List Byte)
  | restoreDefaultsDone
  | imageTest (r : Req) (args : List Byte)
  | imageTestDone (errors : List FlashError)
  | imageInstall (r : Req) (args : List Byte)
  | imageInstallDone (result : FlashEnd)
  | longOperationCancel (r : Req) (op : LongOp) (v : BitVec 8)
  | cancellationDone (op : LongOp)
  | eventPop (r : Req)
  | eventLogMark (r : Req) (v : BitVec 8)
  | eventLogRewind (r : Req) (v : BitVec 8)
  | eventLogRelease (r : Req) (v : BitVec 8)
  -- start, resets and power states
  | powerOnReset
  | ocxoClkMissing
  | resetNLow
  | pinReset
  | pllLock
  | start (flashAnswers : Bool) (errors : List FlashError)
  | watchdogExpiry
  | watchdogWarning
  | warmReset (r : Req) (v : BitVec 8)
  | idleCommand (r : Req)
  | runCommand (r : Req)
  | stillCommand (r : Req)
  | dormantCommand (r : Req)
  | dormantWake (w : WakeSource)
  | railMeasure (m : RailReading)
  | portDieRailFault (die : Die)
  | portDieRailReturn (die : Die)
  | tapInstruction (t : TapInstr)
  | regulationHoldsAgain (g : Fin 128)
  | firstWindowStart (n : Fin 8)
  deriving DecidableEq, Repr

end Sys2Proof
end

