-- ==== Sys2Proof/Decode.lean ====
section
/-! DEFINITION. The command that a word spells by the command table's bits. No row of the table gives bits. -/

namespace Sys2Proof

/-- A word of a number of bits spells no command: the table gives no row any bits (DEDUCED, log entry 1). -/
def decodeTableWord (nbits w : Nat) : Option Instr :=
  match nbits, w with
  | _, _ => none

end Sys2Proof
end

