-- ==== Sys2Proof/Machine/Num.lean ====
section
/-! DEFINITION. Rounding, bit fields and byte order (R5, R151, R269). -/

namespace Sys2Proof.Machine

/-- R269 `rne(a, k)`: `a / k` to the nearest integer, a tie going to the even one. -/
def rne (a : Int) (k : Nat) : Int :=
  let q := a / (k : Int)
  let r := a - q * (k : Int)
  if 2 * r > (k : Int) ∨ (2 * r = (k : Int) ∧ q % 2 = 1) then q + 1 else q

/-- R151 `rhe(a, s)`: division by `2^s`, rounded convergently. -/
def rhe (a : Int) (s : Nat) : Int := rne a (2 ^ s)

/-- Rounding up of a quotient of naturals, `ceil(a / b)` of Table 00-4. -/
def ceilDiv (a b : Nat) : Nat := (a + b - 1) / b

/-- `ceil(log2 n)`: the smallest `b` with `2^b ≥ n` (R155, R156). -/
def ceilLog2 (n : Nat) : Nat := if n ≤ 1 then 0 else Nat.log2 (n - 1) + 1

/-- Bit `i` of a number. -/
def bit (n i : Nat) : Bool := n.testBit i

/-- The field `[lo + w - 1 : lo]` of a number. -/
def field (n lo w : Nat) : Nat := n / 2 ^ lo % 2 ^ w

/-- A number with bit `i` set to `b`. -/
def setBit (n i : Nat) (b : Bool) : Nat :=
  if n.testBit i = b then n else if b then n + 2 ^ i else n - 2 ^ i

/-- `clamp` of an integer between two bounds. -/
def clampI (lo hi x : Int) : Int := if x < lo then lo else if hi < x then hi else x

/-- A counter that saturates at 0xFFFFFFFF ("Saturates at 0xFFFFFFFF" of the tables). -/
def sat32 (n : Nat) : Nat := if n > 0xFFFFFFFF then 0xFFFFFFFF else n

/-- A 32-bit counter that wraps. -/
def wrap32 (n : Nat) : Nat := n % 2 ^ 32

/-- A 16-bit counter that wraps. -/
def wrap16 (n : Nat) : Nat := n % 2 ^ 16

/-- R5: `n` bytes of a number, most significant byte first. -/
def toBytes : Nat → Nat → List Byte
  | 0, _ => []
  | k + 1, v => BitVec.ofNat 8 (v / 256 ^ k) :: toBytes k v

/-- R5: the number that a string of bytes spells, most significant byte first. -/
def ofBytes (bs : List Byte) : Nat := bs.foldl (fun a b => a * 256 + b.toNat) 0

/-- `n` zero bytes. -/
def zeros (n : Nat) : List Byte := List.replicate n 0

/-- `w` bits of a number, most significant bit first. -/
def toBits : Nat → Nat → List Bool
  | 0, _ => []
  | k + 1, v => v.testBit k :: toBits k v

/-- The number that a string of bits spells, most significant bit first. -/
def ofBits (bs : List Bool) : Nat := bs.foldl (fun a b => a * 2 + b.toNat) 0

/-- Bits packed most significant bit first into whole bytes, unused bits 0 (R282). -/
def packBits (bs : List Bool) : List Byte :=
  let n := (bs.length + 7) / 8
  toBytes n (ofBits bs * 2 ^ (8 * n - bs.length))

/-- The bits of a string of bytes, most significant bit first. -/
def unpackBits (bs : List Byte) : List Bool := bs.flatMap (fun b => toBits 8 b.toNat)

/-- The largest of a list of naturals, 0 for none (the V-code rule of R14). -/
def maxNat (l : List Nat) : Nat := l.foldl Nat.max 0

/-- The sum of a list of naturals. -/
def sumNat (l : List Nat) : Nat := l.foldl (· + ·) 0

/-- The sum of a list of integers. -/
def sumInt (l : List Int) : Int := l.foldl (· + ·) 0

/-- Integer square root: the largest `r` with `r * r ≤ n`, by `fuel` halvings from bit `fuel - 1`. -/
def isqrtFrom : Nat → Nat → Nat → Nat
  | 0, _, r => r
  | k + 1, n, r => if (r + 2 ^ k) * (r + 2 ^ k) ≤ n then isqrtFrom k n (r + 2 ^ k) else isqrtFrom k n r

/-- Integer square root. -/
def isqrt (n : Nat) : Nat := isqrtFrom (Nat.log2 n / 2 + 1) n 0

/-- The square root of `n / d` rounded to the nearest integer; no tie can arise between integers
unless the quotient is exact at a half, where the even one is taken (R151). -/
def sqrtRound (n d : Nat) : Nat :=
  let r := isqrt (n / d)
  -- compare n / d with (r + 1/2)^2 = (2r + 1)^2 / 4
  if 4 * n > (2 * r + 1) * (2 * r + 1) * d ∨ (4 * n = (2 * r + 1) * (2 * r + 1) * d ∧ r % 2 = 1)
  then r + 1 else r

/-- Insertion of an integer into a sorted list. -/
def insertI (x : Int) : List Int → List Int
  | [] => [x]
  | y :: t => if x ≤ y then x :: y :: t else y :: insertI x t

/-- Insertion sort of integers. -/
def sortI (l : List Int) : List Int := l.foldr insertI []

end Sys2Proof.Machine
end

