-- ==== Sys2Proof/Machine/Crc.lean ====
section
/-! DEFINITION. CRC-32 and CRC-32C of Table 00-6 (R6), by the reflected algorithm. -/

namespace Sys2Proof.Machine

/-- One bit of the reflected algorithm with a polynomial already reversed. -/
def crcBit (poly c : Nat) : Nat := if c % 2 = 1 then (c / 2) ^^^ poly else c / 2

/-- One byte, least significant bit first. -/
def crcByte (poly c : Nat) (b : Byte) : Nat :=
  let x := c ^^^ b.toNat
  crcBit poly (crcBit poly (crcBit poly (crcBit poly (crcBit poly (crcBit poly (crcBit poly (crcBit poly x)))))))

/-- The register after a string of bytes, from the given initial value. -/
def crcRun (poly init : Nat) (bs : List Byte) : Nat := bs.foldl (crcByte poly) init

/-- 0x04C11DB7 of Table 00-6, reversed for the reflected algorithm. -/
def polyCrc32 : Nat := 0xEDB88320

/-- 0x1EDC6F41 of Table 00-6, reversed for the reflected algorithm. -/
def polyCrc32C : Nat := 0x82F63B78

/-- CRC-32 of R6 (Leat frame check, 0960 trailer). -/
def crc32 (bs : List Byte) : Nat := crcRun polyCrc32 0xFFFFFFFF bs ^^^ 0xFFFFFFFF

/-- CRC-32C of R6 with a seed loaded as it is in place of the initial value. -/
def crc32CSeed (seed : Nat) (bs : List Byte) : Nat := crcRun polyCrc32C seed bs ^^^ 0xFFFFFFFF

/-- CRC-32C of R6. -/
def crc32C (bs : List Byte) : Nat := crc32CSeed 0xFFFFFFFF bs

end Sys2Proof.Machine
end

