-- ==== Sys2Proof/Config.lean ====
section
/-! DEFINITION. What one hub fixes (its identity) and the values that the spec leaves open: constants without a body,
so that no proof can see what they are (DESIGN CHOICE, log entry 4). -/

namespace Sys2Proof.Config

/-- 0x3500.0A (Device identity), fixed in each hub. -/
opaque deviceIdentity : BitVec 64

/-- Size of the flash fitted, in KiB, as 0x1500.02 reports it when the flash answers. -/
opaque flashSize : BitVec 32

/-- An analogue reading that a dictionary read returns: output voltage, sense voltage, output current, IEPE bias. -/
opaque reading : Nat → BitVec 16

/-- Group delay that 0x2800.08 reports of a channel that no rotation converts: R162 gives it no raw period. -/
opaque idleGroupDelay : Nat → BitVec 64

/-- The running estimate of a sounded channel's impedance (R138), real part in mΩ: estimate number. -/
opaque toneReal : Nat → BitVec 32

/-- Its imaginary part in mΩ. -/
opaque toneImaginary : Nat → BitVec 32

/-- A conversion of converter 2k + 1 of an interleaved pair after the trim of offset and gain (R109), of which the spec
gives no numbers: number of the trim, and code as converted. -/
opaque trimmed : Nat → BitVec 18 → BitVec 18

/-- Whether a conversion 0 ns to 150 ns after a BLANK pin asserts is blanked (R87). -/
opaque blankedEarly : Nat → Bool

/-- A reference channel's value where it has no output at the instant (R172 gives none). -/
opaque referenceValue : Nat → BitVec 32

/-- Value of a gap filler (R17, R40 give none), as a Millstone word or a binary32 pattern. -/
opaque fillerValue : Nat → BitVec 32

/-- Range tag of a gap filler: 0 to 4, and 5 for tag 7. -/
opaque fillerTag : Nat → Fin 6

/-- A raw value that compensation takes outside the 26-bit common scale (R66, R147 state none). -/
opaque outOfScale : Nat → BitVec 26

/-- What stands in TIME96 for an instant before 0 or from 2^48 s on (R29 gives the format no such value), in fraction
units. -/
opaque timeOutside : Int → Nat

/-- Address at which the Hopper writes a record (R295 gives no rule for it): queue and position. -/
opaque recordAddress : Nat → Nat → BitVec 26

/-- The 8 check bits stored with a 64-bit word (R295 does not say which code they form). -/
opaque checkBits : BitVec 64 → BitVec 8

/-- Where the PRBS31 generator of a lane starts (R330 gives no start). -/
opaque prbsStart : Bool → BitVec 31

/-- How far a long operation has come when its progress or position is read (R253, R432), and where it stands. -/
opaque progress : Nat → BitVec 32

/-- First sequence of a wire-break event whose range is empty (R132, R315 give only the count). -/
opaque emptyRangeFirst : Nat → BitVec 32

end Sys2Proof.Config
end

