-- ==== Sys2Proof/Machine/Time.lean ====
section
/-! DEFINITION. TIME96 and the units of time (R29 to R31). An instant is an integer count of fraction units of
2^-16 ns; a domain's own time keeps the full 48-bit fraction, in units of 2^-48 ns. -/

namespace Sys2Proof.Machine

/-- Fraction units in one nanosecond. -/
def fuNs : Nat := 65536
/-- Fraction units in one second. -/
def fuSec : Nat := 1000000000 * 65536
/-- Fraction units in one 2.5 ns tick. -/
def fuTick : Nat := 163840
/-- Fraction units in one 200 ns slot. -/
def fuSlot : Nat := 200 * 65536
/-- Units of 2^-48 ns in one fraction unit. -/
def finePerFu : Nat := 2 ^ 32
/-- R31: the nominal increment of 2.5 ns, in units of 2^-48 ns. -/
def incNominal : Nat := 0x0002800000000000
/-- R31: the smallest increment accepted: 2.4995 ns, in units of 2^-48 ns, rounded up. -/
def incMin : Nat := (24995 * 2 ^ 48 + 9999) / 10000
/-- R31: the largest increment accepted: 2.5005 ns, in units of 2^-48 ns, rounded down. -/
def incMax : Nat := 25005 * 2 ^ 48 / 10000
/-- R29: the whole range of TIME96, in fraction units. -/
def fuWrap : Nat := 2 ^ 48 * fuSec

/-- R29: the TIME96 encoding of an instant. An instant outside the range of the format has none: what stands there is a
free value, with a nanoseconds field as R30 demands (DESIGN CHOICE, log entries 4 and 13). -/
def toTime96 (fu : Int) : Nat :=
  let u := if 0 ≤ fu ∧ fu < (fuWrap : Int) then fu.toNat else Config.timeOutside fu % fuWrap
  u / fuSec * 2 ^ 48 + u % fuSec / 65536 * 2 ^ 16 + u % 65536

/-- R29: the instant a TIME96 value names; the reserved bits are ignored on receipt. -/
def ofTime96 (t : Nat) : Int :=
  (t / 2 ^ 48 * fuSec + t / 2 ^ 16 % 2 ^ 30 * 65536 + t % 2 ^ 16 : Nat)

/-- R29: a TIME96 value with the reserved bits 0, as the hub sends it. -/
def clean96 (t : Nat) : Nat := t / 2 ^ 48 * 2 ^ 48 + t % 2 ^ 46

/-- R30: the nanoseconds field is below 1,000,000,000. -/
def time96Ok (t : Nat) : Bool := decide (t / 2 ^ 16 % 2 ^ 30 < 1000000000)

/-- The first whole second at or after an instant. -/
def nextSecond (t : Int) : Int := -((-t) / (fuSec : Int)) * (fuSec : Int)

/-- Fraction units in `n` milliseconds. -/
def fuMs (n : Nat) : Int := (n * (1000000 * 65536) : Nat)

/-- Fraction units in `n` microseconds. -/
def fuUs (n : Nat) : Int := (n * (1000 * 65536) : Nat)

end Sys2Proof.Machine
end

