-- ==== Sys2Proof/Machine/Codec.lean ====
section
/-! DEFINITION. Screed's coding (R268 to R282), the block layout (R262 to R266), the image layout and its decoder
(R288 to R292), and the 0960 words (R468 to R474). Pure functions of the block's outputs and settings. -/

namespace Sys2Proof.Machine

/-! ### Values, predictors and residues -/

/-- R268: the value of a Float32 pattern. -/
def floatKey (u : Nat) : Int := if u < 2 ^ 31 then (u : Int) else -1 - ((u % 2 ^ 31 : Nat) : Int)

/-- R268: the value that is coded; format 0 Fixed24, 1 Float32. -/
def codedValue (fmt word : Nat) : Int := if fmt = 0 then signed 24 (word / 256) else floatKey word

/-- R269: wrap to width w. -/
def wrapW (w : Nat) (a : Int) : Int := (a + (2 ^ (w - 1) : Nat)) % ((2 ^ w : Nat) : Int) - (2 ^ (w - 1) : Nat)

/-- A value of a list at a position, 0 beyond it. -/
def atI (l : List Int) (n : Nat) : Int := l.getD n 0

/-- What a reference holds at the block's outputs: one list for each reference, a value or nothing at each output. -/
abbrev Refs := List (List (Option Int))

/-- The sum and the count of what the references hold at output `n`. -/
def refSum3 (ys : Refs) (n : Nat) : Int × Nat :=
  ys.foldl (fun a y => match y.getD n none with | some v => (a.1 + v, a.2 + 1) | none => a) (0, 0)

/-- The sum and the count of their differences from output `n - 1`. -/
def refSum4 (ys : Refs) (n : Nat) : Int × Nat :=
  ys.foldl (fun a y => match y.getD n none, y.getD (n - 1) none with
    | some v, some u => (a.1 + (v - u), a.2 + 1)
    | _, _ => a) (0, 0)

/-- Table 10-4, P0 to P4. -/
def predictAt (p : Nat) (xs : List Int) (ys : Refs) (n : Nat) : Int :=
  let p1 := if n = 0 then 0 else atI xs (n - 1)
  let p3 := if (refSum3 ys n).2 = 0 then p1 else rne (refSum3 ys n).1 (refSum3 ys n).2
  match p with
  | 0 => 0
  | 1 => p1
  | 2 => if n = 0 then 0 else if n = 1 then atI xs 0 else 2 * atI xs (n - 1) - atI xs (n - 2)
  | 3 => p3
  | _ => if n = 0 ∨ (refSum4 ys n).2 = 0 then p3
         else atI xs (n - 1) + rne (refSum4 ys n).1 (refSum4 ys n).2

/-- R269: the residues of a block. -/
def residues (w p : Nat) (xs : List Int) (ys : Refs) : List Int :=
  (List.range xs.length).map (fun n => wrapW w (atI xs n - predictAt p xs ys n))

/-- R276: the mapping of a residue. -/
def zigzag (e : Int) : Nat := if 0 ≤ e then (2 * e).toNat else (-2 * e - 1).toNat

/-- The inverse mapping. -/
def unzigzag (z : Nat) : Int := if z % 2 = 0 then ((z / 2 : Nat) : Int) else -((z / 2 : Nat) : Int) - 1

/-- R276: bit length. -/
def bitLength (z : Nat) : Nat := if z = 0 then 0 else Nat.log2 z + 1

/-- R275: the cost of a candidate. -/
def cost (zs : List Nat) : Nat := sumNat (zs.map bitLength)

/-- R275: the candidate of lowest cost, the lower number on a tie. -/
def choose (w : Nat) (cands : List Nat) (xs : List Int) (ys : Refs) : Nat :=
  match cands with
  | [] => 0
  | c :: cs =>
    (cs.foldl (fun (a : Nat × Nat) p =>
      let k := cost ((residues w p xs ys).map zigzag)
      if k < a.2 then (p, k) else a) (c, cost ((residues w c xs ys).map zigzag))).1

/-! ### Match tokens (R281) -/

/-- A symbol to be sent. -/
inductive Token where
  | lit (z : Nat)
  | mat (d l : Nat)
  deriving DecidableEq, Repr

/-- Residues that agree between two positions, at most `fuel`. -/
def runLength (e : List Nat) (a b : Nat) : Nat → Nat
  | 0 => 0
  | k + 1 => if b < e.length ∧ e.getD a 0 = e.getD b 0 then runLength e (a + 1) (b + 1) k + 1 else 0

/-- R281: the longest match at position `n`, the smallest distance on a tie: distance and length. -/
def bestMatch (e : List Nat) (n : Nat) : Nat × Nat :=
  (List.range (min n 4096)).foldl (fun (a : Nat × Nat) i =>
    let l := runLength e (n - (i + 1)) n (min 258 (e.length - n))
    if l > a.2 then (i + 1, l) else a) (0, 0)

/-- The tokens from position `n`. -/
def tokensFrom (e : List Nat) : Nat → Nat → List Token
  | 0, _ => []
  | k + 1, n =>
    if n ≥ e.length then []
    else
      let m := bestMatch e n
      if m.2 ≥ 3 then .mat m.1 m.2 :: tokensFrom e k (n + m.2) else .lit (e.getD n 0) :: tokensFrom e k (n + 1)

/-- The tokens of a block. -/
def tokens (matches_ : Bool) (zs : List Nat) : List Token :=
  if matches_ then tokensFrom zs zs.length 0 else zs.map .lit

/-! ### Tables (R276 to R280) -/

/-- Symbol of a token: bucket, escape 32, match 31. -/
def symbol : Token → Nat
  | .lit z => if bitLength z > 30 then 32 else bitLength z
  | .mat _ _ => 31

/-- R278: the canonical code words, symbol by symbol: (length, code). -/
def canonical (lens : List Nat) : List (Nat × Nat) :=
  let step := fun (a : Nat × List (Nat × Nat × Nat)) len =>
    let b := (List.range 33).foldl (fun (b : Nat × List (Nat × Nat × Nat)) s =>
      if lens.getD s 0 = len + 1 then (b.1 + 1, (s, len + 1, b.1) :: b.2) else b) a
    (2 * b.1, b.2)
  let words := ((List.range 15).foldl step (0, [])).2
  (List.range 33).map (fun s => match words.find? (fun t => t.1 = s) with | some t => (t.2.1, t.2.2) | none => (0, 0))

/-- A node of R279: weight, lowest symbol, symbols below it. -/
abbrev Node := Nat × Nat × List Nat

/-- The order of keys: weight first, then symbol. -/
def nodeLt (a b : Node) : Bool := decide (a.1 < b.1) || (decide (a.1 = b.1) && decide (a.2.1 < b.2.1))

/-- Insertion by key. -/
def insertNode (x : Node) : List Node → List Node
  | [] => [x]
  | y :: t => if nodeLt x y then x :: y :: t else y :: insertNode x t

/-- R279: join the two smallest nodes until one is left, deepening the leaves below. -/
def joinNodes : Nat → List Node → List Nat → List Nat
  | k + 1, a :: b :: t, lens =>
    let syms := a.2.2 ++ b.2.2
    joinNodes k (insertNode (a.1 + b.1, min a.2.1 b.2.1, syms) t)
      ((List.range 33).map (fun s => lens.getD s 0 + if syms.contains s then 1 else 0))
  | _, _, lens => lens

/-- R279: the code lengths of a dynamic table. -/
def dynamicLengths (ts : List Token) : List Nat :=
  let count := fun s => (ts.filter (fun t => symbol t = s)).length
  let leaves := (List.range 33).filter (fun s => decide (0 < count s))
  match leaves with
  | [s] => (List.range 33).map (fun x => if x = s then 1 else 0)
  | _ => joinNodes 33 (leaves.foldl (fun l s => insertNode (count s, s, [s]) l) []) (List.replicate 33 0)

/-- R280: the 17 bytes of a table. -/
def tableBytes (lens : List Nat) : List Byte :=
  (List.range 17).map (fun i => BitVec.ofNat 8 (lens.getD (2 * i) 0 * 16 + lens.getD (2 * i + 1) 0))

/-- The 33 code lengths that 17 bytes carry. -/
def tableLengths (b : List Byte) : List Nat :=
  (b.flatMap (fun x => [x.toNat / 16, x.toNat % 16])).take 33

/-- The Kraft sum of a table, in units of 2^-15. -/
def kraft (lens : List Nat) : Nat := sumNat (lens.map (fun l => if l = 0 then 0 else 2 ^ (15 - l)))

/-- Bits of a token with its extra bits, under code lengths; none where its symbol has no code word. -/
def tokenBits (w : Nat) (cs : List (Nat × Nat)) (t : Token) : Option (List Bool) :=
  let c := cs.getD (symbol t) (0, 0)
  if c.1 = 0 then none
  else some (toBits c.1 c.2 ++ match t with
    | .mat d l => toBits 12 (d - 1) ++ toBits 8 (l - 3)
    | .lit z => if bitLength z > 30 then toBits w z else toBits (bitLength z - 1) (z % 2 ^ (bitLength z - 1)))

/-- R277: the Rice code word of a token. -/
def riceBits (w k : Nat) : Token → List Bool
  | .mat d l => List.replicate 25 true ++ toBits 12 (d - 1) ++ toBits 8 (l - 3)
  | .lit z =>
    if z / 2 ^ k < 24 then List.replicate (z / 2 ^ k) true ++ [false] ++ toBits k (z % 2 ^ k)
    else List.replicate 24 true ++ [false] ++ toBits w z

/-- Bits of every token under a table; none where one has no code word. -/
def tableSection (w : Nat) (lens : List Nat) (ts : List Token) : Option (List Bool) :=
  ts.foldr (fun t a => match tokenBits w (canonical lens) t, a with
    | some x, some y => some (x ++ y)
    | _, _ => none) (some [])

/-! ### Sections -/

/-- R265: the tag runs, each run as long as it can be: tag and length. -/
def tagRuns : List Nat → List (Nat × Nat)
  | [] => []
  | t :: ts => match tagRuns ts with
    | (u, n) :: r => if t = u ∧ n < 256 then (u, n + 1) :: r else (t, 1) :: (u, n) :: r
    | [] => [(t, 1)]

/-- The bytes of the tag runs. -/
def runBytes (rs : List (Nat × Nat)) : List Byte := rs.flatMap (fun r => toBytes 1 r.1 ++ toBytes 1 (r.2 - 1))

/-- Zero bytes that bring a length to a multiple of 8. -/
def padTo8 (b : List Byte) : List Byte := b ++ zeros (8 * ceilDiv b.length 8 - b.length)

/-- Fields of the header of Table 10-3 that a block's section lengths do not give. -/
structure Head where
  fmt : Nat
  kind : Nat
  stream : Nat
  first : Nat
  reason : Nat
  count : Nat
  gridTiming : Bool
  angle : Bool
  adaptive : Bool
  matches_ : Bool
  table : Nat
  instant : Nat
  spacing : Nat
  refs : List Nat
  deriving DecidableEq, Repr

/-- The 44 bytes of the header. -/
def headBytes (h : Head) (pred : Nat) (raw fault : Bool) (len runs : Nat) (refs : List Nat) : List Byte :=
  toBytes 1 1 ++ toBytes 1 (0x10 + h.fmt * 4 + h.kind) ++ toBytes 2 h.stream ++ toBytes 4 h.first ++
  toBytes 2 (h.reason * 512 + h.count) ++
  toBytes 1 ((if h.gridTiming then 32 else 0) + (if h.angle then 16 else 0) + (if h.adaptive then 8 else 0) + pred) ++
  toBytes 1 ((if h.matches_ && !raw then 128 else 0) + (if fault then 64 else 0) + (if raw then 32 else 0)
    + (if raw then 0 else h.table)) ++
  toBytes 12 h.instant ++ toBytes 8 h.spacing ++ toBytes 2 len ++ toBytes 2 runs ++ refs.flatMap (toBytes 2)

/-- The outputs of a block as a raw or a coded block takes them. -/
structure Body where
  words : List Nat
  tags : List Nat
  angles : List Byte
  deriving DecidableEq, Repr

/-- R264: a raw block. -/
def rawBlock (h : Head) (b : Body) (fault : Bool) : List Byte :=
  let vals := b.words.flatMap (toBytes (if h.fmt = 2 then 16 else 4)) ++
    (if h.fmt = 1 then b.tags.flatMap (toBytes 1) else []) ++ b.angles
  let len := 8 * ceilDiv (48 + vals.length) 8
  let body := headBytes h 0 true fault len 0 (List.replicate 4 0xFFFF) ++ vals ++ zeros (len - 48 - vals.length)
  body ++ toBytes 4 (crc32C body)

/-- R283 to R285: the coded form with a predictor already chosen; none where it does not shrink the block, or where
the user table has no code word for a symbol of the block. -/
def codedBlock (h : Head) (b : Body) (pred : Nat) (ys : Refs) (user : List Nat) (rawLen : Nat) : Option (List Byte) :=
  let w := if h.fmt = 0 then 24 else 32
  let ts := tokens h.matches_ ((residues w pred (b.words.map (codedValue h.fmt)) ys).map zigzag)
  let dyn := dynamicLengths ts
  let bits := if h.table < 16 then some (ts.flatMap (riceBits w h.table))
    else tableSection w (if h.table = 24 then dyn else user) ts
  match bits with
  | none => none
  | some bits =>
    let runs := tagRuns b.tags
    let sect := (if h.table = 24 then tableBytes dyn else []) ++ runBytes runs ++ b.angles ++ packBits bits
    let len := 8 * ceilDiv (48 + sect.length) 8
    if len ≥ rawLen then none
    else
      let body := headBytes h pred false false len runs.length
        (if pred ≥ 3 then h.refs else List.replicate 4 0xFFFF) ++ sect ++ zeros (len - 48 - sect.length)
      some (body ++ toBytes 4 (crc32C body))

/-! ### 0960 blocks (chapter 17) -/

/-- R468: the 16-bit word of a Fixed24 word, and whether it was set to +32,767. -/
def word16 (fixed : Nat) : Int × Bool :=
  let w := rhe (signed 24 (fixed / 256)) 8
  if w > 32767 then (32767, true) else (w, false)

/-- R473: the 32-bit timestamp of an instant. -/
def stamp32 (inst : Int) : Nat := (inst / 65536 % ((2 ^ 32 : Nat) : Int)).toNat

/-- R474: the trailer. -/
def trailer (ws : List Int) : Nat :=
  crc32 (ws.flatMap (fun w => let u := unsigned 16 w; [BitVec.ofNat 8 (u % 256), BitVec.ofNat 8 (u / 256)]))

/-- The validity mask of R471. -/
def maskBytes (vs : List Nat) : List Byte :=
  (List.range 16).map (fun i => BitVec.ofNat 8 (sumNat ((List.range 8).map
    (fun j => if vs.getD (8 * i + j) 0 = 0 then 0 else 2 ^ (7 - j)))))

/-- A 0960 block (R471, R472): stream, first sequence, words with their tag bytes, the instant of the first output,
the spacing in ns, Rice k, and whether the verify decoder found it bad. Answers the block and whether it is raw. -/
def block0960 (stream first : Nat) (ws : List Int) (vs : List Nat) (rng : Nat) (ts spacing k : Nat)
    (resync wrap fault : Bool) : List Byte × Bool :=
  let n := ws.length
  let rawLen := rawSize n
  let bits := packBits (((residues 16 1 ws []).map zigzag).flatMap (fun z => riceBits 16 k (.lit z)))
  let codedLen := 8 * ceilDiv (48 + bits.length) 8
  let raw := fault || decide (codedLen ≥ rawLen)
  let vals := if raw then ws.flatMap (fun w => toBytes 2 (unsigned 16 w)) else bits
  let len := if raw then rawLen else codedLen
  let tr := trailer ws
  let body := toBytes 1 2 ++
    toBytes 1 (0x10 + (if resync then 8 else 0) + (if wrap then 4 else 0) + (if raw then 2 else 0) + (if fault then 1 else 0)) ++
    toBytes 2 stream ++ toBytes 4 first ++ toBytes 2 n ++ toBytes 1 (if raw then 0 else k) ++
    toBytes 1 (rng * 8 + maxNat vs) ++ toBytes 4 ts ++ toBytes 4 spacing ++ toBytes 2 len ++ toBytes 2 0 ++
    maskBytes vs ++ vals ++ zeros (len - 48 - vals.length) ++
    (toBytes 4 tr).reverse
  (body ++ toBytes 4 (crc32C body), raw)
where
  /-- R475. -/
  rawSize (n : Nat) : Nat := 8 * ceilDiv (48 + 2 * n) 8

/-! ### Images (R288 to R292) -/

/-- Bits left to decode, or the code of Table 10-7 that stops the decoder. -/
abbrev Dec := List Int × List Bool

/-- A Rice residue or match: the residues so far (newest first) and the bits left; w = 32 (R277, R291). -/
def riceStep (k count : Nat) (d : Dec) : Nat ⊕ Dec :=
  let ones := (d.2.take 24).takeWhile id |>.length
  let rest := d.2.drop ones
  match rest with
  | [] => .inl 1
  | b :: r =>
    if ones < 24 then
      if r.length < k then .inl 1
      else
        let z := ones * 2 ^ k + ofBits (r.take k)
        if z ≥ 2 ^ 32 then .inl 1 else .inr (unzigzag z :: d.1, r.drop k)
    else if b = false then
      if r.length < 32 then .inl 1 else .inr (unzigzag (ofBits (r.take 32)) :: d.1, r.drop 32)
    else matchStep count d.1 r
where
  /-- The distance and length of a match token. -/
  matchStep (count : Nat) (es : List Int) (r : List Bool) : Nat ⊕ Dec :=
    if r.length < 20 then .inl 1
    else
      let dist := ofBits (r.take 12) + 1
      let len := ofBits ((r.drop 12).take 8) + 3
      if dist > es.length then .inl 2
      else if es.length + len > count then .inl 3
      else .inr ((List.range len).foldl (fun a _ => a.getD (dist - 1) 0 :: a) es, r.drop 20)

/-- A residue or match under a code table. -/
def tableStep (lens : List Nat) (count : Nat) (d : Dec) : Nat ⊕ Dec :=
  let cs := canonical lens
  match (List.range 33).find? (fun s =>
      let c := cs.getD s (0, 0)
      decide (0 < c.1) && decide (d.2.length ≥ c.1) && decide (ofBits (d.2.take c.1) = c.2)) with
  | none => .inl 1
  | some s =>
    let r := d.2.drop (cs.getD s (0, 0)).1
    if s = 31 then riceStep.matchStep count d.1 r
    else
      let n := if s = 32 then 32 else s - 1
      if r.length < n then .inl 1
      else
        let low := ofBits (r.take n)
        let z := if s = 32 then low else if s = 0 then 0 else 2 ^ (s - 1) + low
        .inr (unzigzag z :: d.1, r.drop n)

/-- Residues until the count is reached. -/
def decodeRun (table : Nat) (lens : List Nat) (count : Nat) : Nat → Dec → Nat ⊕ Dec
  | 0, d => .inr d
  | k + 1, d =>
    if d.1.length ≥ count then .inr d
    else match (if table < 16 then riceStep table count d else tableStep lens count d) with
      | .inl c => .inl c
      | .inr d' => decodeRun table lens count k d'

/-- Values of P0 or P1 from residues, oldest first. -/
def restore (w p : Nat) (es : List Int) : List Int :=
  (es.foldl (fun (a : List Int) e => wrapW w (e + if p = 0 then 0 else a.headD 0) :: a) []).reverse

/-- R289, R291: one image block: its words, or the code of Table 10-7. -/
def imageBlock (b : List Byte) (num offset : Nat) : Nat ⊕ List Nat :=
  let len := ofBytes ((b.drop 32).take 2)
  if b.length < 48 ∨ len < 48 ∨ len % 8 ≠ 0 ∨ len > b.length then .inl 4
  else
    let blk := b.take len
    if crc32C (blk.take (len - 4)) ≠ ofBytes (blk.drop (len - 4)) then .inl 5
    else
      let u := fun i n => ofBytes ((blk.drop i).take n)
      let count := u 8 2
      let pred := u 10 1
      let flags := u 11 1
      let raw := bit flags 5
      let table := flags % 32
      if u 0 1 ≠ 3 ∨ u 1 1 ≠ 0x10 ∨ u 2 2 ≠ num ∨ u 4 4 ≠ offset ∨ count = 0 ∨ count > 4096 ∨ pred > 1 ∨
          bit flags 6 ∨ (raw ∧ (flags ≠ 32 ∨ pred ≠ 0)) ∨ (15 < table ∧ table ≠ 24) ∨
          u 12 12 ≠ 0 ∨ u 24 8 ≠ 0 ∨ u 34 2 ≠ 0 ∨ u 36 8 ≠ 2 ^ 64 - 1 then .inl 4
      else
        let sect := (blk.take (len - 4)).drop 44
        if raw then
          if sect.length < 4 * count ∨ sect.length ≥ 4 * count + 8 ∨ ofBytes (sect.drop (4 * count)) ≠ 0 then .inl 4
          else .inr ((List.range count).map (fun i => ofBytes ((sect.drop (4 * i)).take 4)))
        else
          let lens := tableLengths (sect.take 17)
          if table = 24 ∧ (sect.length < 17 ∨ kraft lens > 2 ^ 15 ∨ kraft lens = 0) then .inl 4
          else match decodeRun table lens count count ([], unpackBits (if table = 24 then sect.drop 17 else sect)) with
            | .inl c => .inl c
            | .inr d =>
              if d.2.any id then .inl 1
              else if 64 ≤ d.2.length then .inl 4
              else .inr ((restore 32 pred d.1.reverse).map (unsigned 32))

/-- R290 to R292: decode an image: its type, generation and content bytes, or an error code with its block number. -/
def decodeImage (b : List Byte) : (Nat × Nat) ⊕ (Nat × Nat × List Byte) :=
  let u := fun i n => ofBytes ((b.drop i).take n)
  if b.length < 32 ∨ crc32C (b.take 28) ≠ u 28 4 then .inl (4, 0xFFFF)
  else
    let want := u 4 4
    let n := u 8 4
    if want % 4 ≠ 0 ∨ n = 0 ∨ n > 16384 ∨ u 20 8 ≠ 0 then .inl (4, 0xFFFF)
    else match blocks n 0 0 (b.drop 32) with
      | .inl e => .inl e
      | .inr ws =>
        let content := ws.flatMap (toBytes 4)
        if content.length ≠ want then .inl (4, n - 1)
        else if crc32C content ≠ u 12 4 then .inl (6, 0xFFFF)
        else .inr (u 0 4, u 16 4, content)
where
  /-- The blocks in order. -/
  blocks : Nat → Nat → Nat → List Byte → (Nat × Nat) ⊕ List Nat
    | 0, _, _, _ => .inr []
    | k + 1, num, off, b =>
      match imageBlock b num off with
      | .inl c => .inl (c, num)
      | .inr ws => match blocks k (num + 1) (off + ws.length) (b.drop (ofBytes ((b.drop 32).take 2))) with
        | .inl e => .inl e
        | .inr r => .inr (ws ++ r)

/-- R450: the entry records of a content: key and value. A record cut short ends the list. -/
def entryRecords : Nat → List Byte → List (Nat × List Byte)
  | 0, _ => []
  | k + 1, b =>
    if b.length < 8 then []
    else
      let len := ofBytes ((b.drop 4).take 4)
      let size := 4 * ceilDiv len 4
      if b.length < 8 + size then []
      else (ofBytes (b.take 4) / 256, (b.drop 8).take len) :: entryRecords k (b.drop (8 + size))

end Sys2Proof.Machine
end

