-- ==== Sys2Proof/Machine/Float.lean ====
section
/-! DEFINITION. IEEE 754 binary32 and binary64 arithmetic on finite values, each operation rounded once to
nearest, ties to even, subnormals kept (R170, R171, R239, R244, R245). A result that is not finite is `none`. -/

namespace Sys2Proof.Machine

/-- A binary format: bits of the fraction, bits of the exponent. -/
structure Fmt where
  mant : Nat
  ebits : Nat
  deriving DecidableEq, Repr

/-- IEEE 754 binary32. -/
def f32 : Fmt := ⟨23, 8⟩
/-- IEEE 754 binary64. -/
def f64 : Fmt := ⟨52, 11⟩

/-- The exponent of the least significant bit of a subnormal number. -/
def Fmt.qmin (f : Fmt) : Int := 2 - (2 ^ (f.ebits - 1) : Nat) - f.mant

/-- The sign bit's weight. -/
def Fmt.signBit (f : Fmt) : Nat := 2 ^ (f.mant + f.ebits)

/-- The pattern of the positive infinity: the first pattern that is not finite. -/
def Fmt.inf (f : Fmt) : Nat := (2 ^ f.ebits - 1) * 2 ^ f.mant

/-- A pattern is finite when its exponent is not all ones. -/
def Fmt.finite (f : Fmt) (x : Nat) : Bool := decide (x % f.signBit < f.inf)

/-- A value `± n / d` with `d > 0`, rounded to the format; `none` on overflow. -/
def Fmt.round (f : Fmt) (neg : Bool) (n d : Nat) : Option Nat :=
  let s := if neg then f.signBit else 0
  if n = 0 then some s else
    let e0 : Int := (Nat.log2 n : Int) - (Nat.log2 d : Int)
    -- e = floor(log2 (n / d))
    let e : Int :=
      if e0 ≥ 0 then (if n < d * 2 ^ e0.toNat then e0 - 1 else e0)
      else (if n * 2 ^ (-e0).toNat < d then e0 - 1 else e0)
    let q : Int := max (e - f.mant) f.qmin
    let m : Int := if q ≥ 0 then rne n (d * 2 ^ q.toNat) else rne (n * 2 ^ (-q).toNat : Nat) d
    let bits := (q - f.qmin).toNat * 2 ^ f.mant + m.toNat
    if bits < f.inf then some (s + bits) else none

/-- The parts of a finite pattern: sign, significand and exponent of its last bit. -/
def Fmt.parts (f : Fmt) (x : Nat) : Bool × Nat × Int :=
  let u := x % f.signBit
  let e := u / 2 ^ f.mant
  let m := u % 2 ^ f.mant
  (decide (x ≥ f.signBit), if e = 0 then m else m + 2 ^ f.mant, if e = 0 then f.qmin else f.qmin + (e : Int) - 1)

/-- The signed significand of a finite pattern. -/
def Fmt.sig (f : Fmt) (x : Nat) : Int := if (f.parts x).1 then -((f.parts x).2.1 : Int) else ((f.parts x).2.1 : Int)

/-- A signed value `i * 2^q` rounded to the format; an exact zero takes the sign given. -/
def Fmt.roundScaled (f : Fmt) (zneg : Bool) (i : Int) (q : Int) : Option Nat :=
  if i = 0 then some (if zneg then f.signBit else 0)
  else if q ≥ 0 then f.round (decide (i < 0)) (i.natAbs * 2 ^ q.toNat) 1
  else f.round (decide (i < 0)) i.natAbs (2 ^ (-q).toNat)

/-- Product of two finite values, rounded once. -/
def Fmt.mul (f : Fmt) (x y : Nat) : Option Nat :=
  let a := f.parts x
  let b := f.parts y
  f.roundScaled (a.1 != b.1) (f.sig x * f.sig y) (a.2.2 + b.2.2)

/-- Sum of two finite values, rounded once. -/
def Fmt.add (f : Fmt) (x y : Nat) : Option Nat :=
  let a := f.parts x
  let b := f.parts y
  let q := min a.2.2 b.2.2
  f.roundScaled (a.1 && b.1)
    (f.sig x * (2 ^ (a.2.2 - q).toNat : Nat) + f.sig y * (2 ^ (b.2.2 - q).toNat : Nat)) q

/-- The negative of a value. -/
def Fmt.neg (f : Fmt) (x : Nat) : Nat := if x ≥ f.signBit then x - f.signBit else x + f.signBit

/-- Difference of two finite values, rounded once. -/
def Fmt.sub (f : Fmt) (x y : Nat) : Option Nat := f.add x (f.neg y)

/-- A finite value divided by a positive integer, rounded once. -/
def Fmt.divNat (f : Fmt) (x n : Nat) : Option Nat :=
  let a := f.parts x
  if a.2.2 ≥ 0 then f.round a.1 (a.2.1 * 2 ^ a.2.2.toNat) n
  else f.round a.1 a.2.1 (n * 2 ^ (-a.2.2).toNat)

/-- The square root of a finite value that is not negative, rounded once. -/
def Fmt.sqrt (f : Fmt) (x : Nat) : Option Nat :=
  let a := f.parts x
  if a.2.1 = 0 then some x else
    -- scale the significand so that the exponent is even and the root has bits to spare
    let k := 2 * (f.mant + 4) + (if a.2.2 % 2 = 0 then 0 else 1)
    let n := a.2.1 * 2 ^ k
    let q := (a.2.2 - k) / 2
    let r := isqrt n
    -- a sticky bit below the root keeps the rounding exact
    let i : Int := (2 * r + (if r * r = n then 0 else 1) : Nat)
    f.roundScaled false i (q - 1)

/-- Conversion of a finite pattern of one format to another, rounded once. -/
def Fmt.convert (src dst : Fmt) (x : Nat) : Option Nat :=
  let a := src.parts x
  dst.roundScaled a.1 (src.sig x) a.2.2

/-- Order of two finite values: `x < y`. -/
def Fmt.lt (f : Fmt) (x y : Nat) : Bool :=
  let a := f.parts x
  let b := f.parts y
  let q := min a.2.2 b.2.2
  decide (f.sig x * (2 ^ (a.2.2 - q).toNat : Nat) < f.sig y * (2 ^ (b.2.2 - q).toNat : Nat))

/-- The largest finite binary32 value, 0x7F7FFFFF (R173, R245). -/
def f32Max : Nat := 0x7F7FFFFF

/-- A rational `i / d` as binary32; beyond the format, the largest finite value (used where the spec's
operands keep the result in range). -/
def f32Of (i : Int) (d : Nat) : Nat := (f32.round (decide (i < 0)) i.natAbs d).getD f32Max

/-- A finite value scaled by `2^e` and rounded to an integer, ties to even (R238 at tap 4). -/
def Fmt.toIntScaled (f : Fmt) (x : Nat) (e : Int) : Int :=
  let q := (f.parts x).2.2 + e
  if q ≥ 0 then f.sig x * (2 ^ q.toNat : Nat) else rne (f.sig x) (2 ^ (-q).toNat)

end Sys2Proof.Machine
end

