-- ==== Sys2Proof/Machine/Dict.lean ====
section
/-! DEFINITION. The object dictionary's entries (R421 to R426): for every subindex of every object its type, access
kind, survival class, accepted values and the value it reads before anything has written it. Each list repeats one
"Dictionary entries" table of the spec, in subindex order; the name of an entry stands in the comment beside it. -/

namespace Sys2Proof.Machine

/-- Table 15-4: the types of entries. -/
inductive Ty where
  | u8 | u16 | u32 | u64 | i8 | i16 | i32 | i64 | fp32 | fp64 | time96 | domain
  deriving DecidableEq, Repr

/-- Table 15-4: size in bytes; a byte string has no fixed size. -/
def Ty.size : Ty → Nat
  | .u8 => 1 | .u16 => 2 | .u32 => 4 | .u64 => 8 | .i8 => 1 | .i16 => 2 | .i32 => 4 | .i64 => 8
  | .fp32 => 4 | .fp64 => 8 | .time96 => 12 | .domain => 0

/-- Is the type a two's complement integer? -/
def Ty.isSigned : Ty → Bool
  | .i8 => true | .i16 => true | .i32 => true | .i64 => true | _ => false

/-- The integer an encoding of the type stands for. -/
def Ty.toInt (t : Ty) (n : Nat) : Int := if t.isSigned then signed (8 * t.size) n else (n : Int)

/-- The encoding of an integer in the type. -/
def Ty.ofInt (t : Ty) (i : Int) : Nat := unsigned (8 * t.size) i

/-- Table 15-5: the access kinds. -/
inductive Acc where
  | ro | wo | rw | rwIdle | rwSeal
  deriving DecidableEq, Repr

/-- Table 15-6: the survival classes; `none` where the spec shows "—". -/
inductive Surv where
  | P | S | K | W | G | none
  deriving DecidableEq, Repr

/-- One row of a dictionary table: subindices `lo` to `hi`. -/
structure Row where
  lo : Nat
  hi : Nat
  ty : Ty
  acc : Acc
  surv : Surv
  ok : List (Int × Int)
  dflt : Int
  deriving DecidableEq, Repr

/-- Record 0x1008 (R440). -/
def Rows.identity : List Row :=
  [
   ⟨0x01, 0x01, .u16, .ro, .none, [(0, 65535)], 1⟩, -- Product code
   ⟨0x02, 0x02, .u8, .ro, .none, [(0, 255)], 176⟩, -- Silicon revision
   ⟨0x03, 0x03, .u32, .ro, .none, [(0, 4294967295)], 17039383⟩, -- Firmware version
   ⟨0x04, 0x04, .u32, .ro, .none, [(0, 4294967295)], 1564119492⟩  -- Description file digest
  ]

/-- Record 0x1018 (R440). -/
def Rows.chainIdent : List Row :=
  [
   ⟨0x01, 0x01, .u16, .ro, .none, [(0, 65535)], 65535⟩, -- Chain number
   ⟨0x02, 0x02, .u8, .ro, .none, [(0, 255)], 255⟩, -- Chain position
   ⟨0x03, 0x03, .u32, .ro, .none, [(0, 4294967295)], 4294967295⟩  -- System hub ID
  ]

/-- Record 0x1200 (R463). -/
def Rows.power : List Row :=
  [
   ⟨0x01, 0x01, .u8, .wo, .none, [(0, 3)], 0⟩, -- Power command
   ⟨0x02, 0x02, .u8, .ro, .W, [(0, 255)], 0⟩, -- Power state
   ⟨0x03, 0x03, .u8, .wo, .none, [(1, 1)], 0⟩, -- Reset command
   ⟨0x04, 0x04, .u8, .wo, .none, [(1, 1)], 0⟩, -- Reset partner
   ⟨0x05, 0x05, .u8, .ro, .W, [(0, 255)], 1⟩, -- Last reset kind
   ⟨0x07, 0x07, .u8, .rw, .P, [(0, 1)], 0⟩, -- Idle excitation
   ⟨0x08, 0x08, .u8, .rw, .W, [(0, 1)], 0⟩, -- Park trips
   ⟨0x09, 0x09, .u8, .rw, .W, [(0, 1)], 0⟩, -- Dormant discard
   ⟨0x0A, 0x0A, .time96, .rw, .W, [(0, 79228162514264337593543950335)], 0⟩, -- Wake time
   ⟨0x0B, 0x0B, .u8, .rw, .P, [(0, 7)], 5⟩, -- Wake sources
   ⟨0x0C, 0x0C, .u8, .ro, .W, [(0, 255)], 0⟩, -- Last wake source
   ⟨0x0D, 0x0D, .u16, .rw, .P, [(10, 10000)], 1000⟩, -- Watchdog time
   ⟨0x0E, 0x0E, .u16, .ro, .W, [(0, 65535)], 0⟩, -- Start status
   ⟨0x0F, 0x0F, .u32, .ro, .W, [(0, 4294967295)], 0⟩, -- Restore skips
   ⟨0x10, 0x14, .u16, .ro, .W, [(0, 65535)], 0⟩, -- Rail VC_INT, VC_SCR, VC_HOP, VC_CTL, VDD_LT
   ⟨0x15, 0x17, .i16, .ro, .W, [(-32768, 32767)], 0⟩, -- Temperature core die, port die A, port die B
   ⟨0x18, 0x18, .u16, .ro, .W, [(0, 65535)], 0⟩  -- Image source
  ]

/-- Record 0x1300 (R440). -/
def Rows.service : List Row :=
  [
   ⟨0x01, 0x01, .u8, .ro, .W, [(0, 255)], 0⟩, -- Open transactions
   ⟨0x02, 0x02, .u32, .ro, .K, [(0, 4294967295)], 0⟩, -- Aborts sent
   ⟨0x03, 0x03, .u32, .ro, .W, [(0, 4294967295)], 0⟩, -- Last abort code
   ⟨0x04, 0x04, .u32, .ro, .W, [(0, 4294967295)], 0⟩, -- Last abort entry
   ⟨0x05, 0x05, .u16, .rw, .P, [(10, 60000)], 1000⟩, -- Transfer timeout
   ⟨0x06, 0x06, .u32, .ro, .K, [(0, 4294967295)], 0⟩  -- Duplicates answered
  ]

/-- Record 0x1410 (R440). -/
def Rows.longOp : List Row :=
  [
   ⟨0x01, 0x01, .domain, .wo, .none, [(0, 0)], 0⟩, -- Start
   ⟨0x02, 0x02, .u8, .ro, .W, [(0, 255)], 0⟩, -- State
   ⟨0x03, 0x03, .u16, .ro, .W, [(0, 65535)], 0⟩, -- Progress
   ⟨0x04, 0x04, .u16, .ro, .W, [(0, 65535)], 65535⟩, -- Position
   ⟨0x05, 0x05, .u8, .wo, .none, [(1, 1)], 0⟩, -- Cancel
   ⟨0x06, 0x06, .u16, .ro, .W, [(0, 65535)], 0⟩, -- Result
   ⟨0x07, 0x07, .u8, .ro, .W, [(0, 255)], 0⟩, -- Abort reason
   ⟨0x08, 0x08, .time96, .ro, .W, [(0, 79228162514264337593543950335)], 0⟩, -- Started
   ⟨0x09, 0x09, .time96, .ro, .W, [(0, 79228162514264337593543950335)], 0⟩, -- Finished
   ⟨0x0A, 0x0A, .u32, .ro, .W, [(0, 4294967295)], 0⟩  -- Runs
  ]

/-- Record 0x1500 (R440). -/
def Rows.flash : List Row :=
  [
   ⟨0x01, 0x01, .u8, .ro, .W, [(0, 255)], 0⟩, -- Flash state
   ⟨0x02, 0x02, .u32, .ro, .W, [(0, 4294967295)], 0⟩, -- Flash size
   ⟨0x03, 0x03, .u32, .ro, .K, [(0, 4294967295)], 0⟩, -- Unpersisted writes
   ⟨0x04, 0x04, .u32, .ro, .W, [(0, 4294967295)], 0⟩, -- Persist generation
   ⟨0x05, 0x05, .time96, .ro, .W, [(0, 79228162514264337593543950335)], 0⟩, -- Last persist
   ⟨0x06, 0x06, .u32, .ro, .P, [(0, 4294967295)], 0⟩, -- Persists
   ⟨0x10, 0x10, .domain, .wo, .none, [(0, 0)], 0⟩, -- Image staging
   ⟨0x11, 0x11, .u32, .ro, .W, [(0, 4294967295)], 0⟩, -- Staged length
   ⟨0x12, 0x12, .u32, .ro, .W, [(0, 4294967295)], 0⟩  -- Staged digest
  ]

/-- Record 0x1600 (R440). -/
def Rows.eventLog : List Row :=
  [
   ⟨0x01, 0x01, .domain, .ro, .none, [(0, 0)], 0⟩, -- Event pop
   ⟨0x02, 0x02, .u16, .ro, .K, [(0, 65535)], 0⟩, -- Depth
   ⟨0x03, 0x03, .u16, .ro, .K, [(0, 65535)], 0⟩, -- Occupancy
   ⟨0x04, 0x04, .u8, .wo, .none, [(0, 15)], 0⟩, -- Mark
   ⟨0x05, 0x05, .u8, .wo, .none, [(0, 15)], 0⟩, -- Rewind
   ⟨0x06, 0x06, .u8, .wo, .none, [(0, 15)], 0⟩, -- Release
   ⟨0x07, 0x07, .u32, .ro, .K, [(0, 4294967295)], 0⟩, -- Entries lost
   ⟨0x08, 0x08, .u32, .ro, .K, [(0, 4294967295)], 0⟩, -- Next event sequence
   ⟨0x09, 0x09, .u8, .rw, .P, [(0, 3)], 0⟩  -- Minimum severity
  ]

/-- Record 0x2300 (R57). -/
def Rows.governor : List Row :=
  [
   ⟨0x01, 0x01, .u8, .rwIdle, .G, [(0, 1)], 1⟩, -- Governor mode
   ⟨0x02, 0x02, .u8, .rw, .P, [(0, 1)], 1⟩, -- Servo enable
   ⟨0x03, 0x03, .u32, .rw, .P, [(10, 1000000000)], 1000⟩, -- Jump threshold
   ⟨0x04, 0x04, .u8, .rw, .W, [(0, 1)], 0⟩, -- Accept next step
   ⟨0x05, 0x05, .u8, .rw, .P, [(0, 7)], 4⟩, -- Sync interval exponent
   ⟨0x06, 0x06, .u8, .rw, .P, [(2, 255)], 8⟩, -- Sync loss count
   ⟨0x07, 0x07, .u16, .rw, .P, [(1, 200)], 100⟩, -- Slew limit
   ⟨0x08, 0x08, .u32, .rw, .P, [(0, 65536)], 32768⟩, -- Servo proportional gain
   ⟨0x09, 0x09, .u32, .rw, .P, [(0, 65536)], 4096⟩  -- Servo integral gain
  ]

/-- Record 0x2301 (R57). -/
def Rows.domain : List Row :=
  [
   ⟨0x01, 0x01, .u8, .rw, .G, [(0, 1)], 0⟩, -- Domain enable
   ⟨0x02, 0x02, .u8, .rwIdle, .G, [(0, 1)], 1⟩, -- Domain source
   ⟨0x03, 0x03, .u64, .rw, .G, [(703546704288285, 703828179264995)], 703687441776640⟩, -- Increment
   ⟨0x04, 0x04, .time96, .ro, .G, [(0, 79228162514264337593543950335)], 0⟩, -- Time now
   ⟨0x05, 0x05, .time96, .wo, .none, [(0, 79228162514264337593543950335)], 0⟩, -- Set time
   ⟨0x06, 0x06, .i64, .wo, .none, [(-9223372036854775808, 9223372036854775807)], 0⟩, -- Offset adjust
   ⟨0x07, 0x07, .u8, .ro, .W, [(0, 255)], 0⟩, -- Domain state
   ⟨0x08, 0x08, .u16, .ro, .W, [(0, 65535)], 0⟩, -- Domain status
   ⟨0x09, 0x09, .i64, .ro, .W, [(-9223372036854775808, 9223372036854775807)], 0⟩, -- Last offset
   ⟨0x0A, 0x0A, .i64, .ro, .W, [(-9223372036854775808, 9223372036854775807)], 0⟩, -- Mean path delay
   ⟨0x0B, 0x0B, .u32, .ro, .W, [(0, 4294967295)], 0⟩, -- Measurement sequence
   ⟨0x0C, 0x0C, .u64, .ro, .G, [(0, 18446744073709551615)], 0⟩, -- Master identity
   ⟨0x0D, 0x0D, .u8, .wo, .none, [(1, 1)], 0⟩, -- Master acknowledge
   ⟨0x0E, 0x0E, .u32, .ro, .K, [(0, 4294967295)], 0⟩  -- Timing frames dropped
  ]

/-- Record 0x2306 (R57). -/
def Rows.asymmetry : List Row :=
  [
   ⟨0x01, 0x05, .i32, .rw, .P, [(-2147483648, 2147483647)], 0⟩  -- Asymmetry N, NX, S, SX, T
  ]

/-- Record 0x2307 (R57). -/
def Rows.pps : List Row :=
  [
   ⟨0x01, 0x01, .u8, .rw, .P, [(0, 1)], 1⟩, -- PPS enable
   ⟨0x02, 0x02, .u8, .rw, .P, [(0, 3)], 0⟩, -- PPS domain
   ⟨0x03, 0x03, .u32, .rw, .P, [(1, 500000)], 100000⟩, -- PPS width
   ⟨0x04, 0x04, .i32, .rw, .P, [(-500000000, 500000000)], 0⟩, -- PPS phase offset
   ⟨0x05, 0x05, .u8, .rw, .P, [(0, 1)], 0⟩  -- PPS gate
  ]

/-- Record 0x2400 (R143, R294, R378, R91). -/
def Rows.channel : List Row :=
  [
   ⟨0x01, 0x01, .u8, .rwIdle, .P, [(0, 10)], 0⟩, -- Sensor mode
   ⟨0x02, 0x02, .u8, .rw, .P, [(0, 1)], 0⟩, -- Range mode
   ⟨0x03, 0x03, .u8, .rw, .P, [(0, 4)], 0⟩, -- Fixed range
   ⟨0x04, 0x04, .u8, .rw, .P, [(0, 4)], 0⟩, -- Auto range widest
   ⟨0x05, 0x05, .u8, .rw, .P, [(0, 4)], 4⟩, -- Auto range narrowest
   ⟨0x06, 0x06, .u16, .rw, .P, [(1, 65535)], 64⟩, -- Step-down count
   ⟨0x07, 0x07, .u8, .rw, .P, [(0, 15)], 3⟩, -- Range hold count
   ⟨0x08, 0x08, .u8, .rw, .P, [(0, 1)], 0⟩, -- Input bias
   ⟨0x09, 0x09, .u32, .rw, .P, [(0, 1000000)], 0⟩, -- Lead resistance
   ⟨0x0A, 0x0A, .u16, .rw, .P, [(2000, 8000)], 4000⟩, -- IEPE current
   ⟨0x0B, 0x0B, .u8, .rw, .P, [(0, 1)], 0⟩, -- IEPE high-pass
   ⟨0x0C, 0x0C, .u16, .rw, .P, [(0, 4095)], 0⟩, -- Blank select
   ⟨0x0D, 0x0D, .u8, .ro, .W, [(0, 255)], 0⟩, -- Present range
   ⟨0x0E, 0x0E, .u32, .ro, .K, [(0, 4294967295)], 0⟩, -- Range steps
   ⟨0x0F, 0x0F, .u8, .ro, .none, [(0, 255)], 0⟩, -- Present
   ⟨0x10, 0x10, .u16, .ro, .W, [(0, 65535)], 0⟩, -- IEPE bias
   ⟨0x11, 0x11, .u8, .rwIdle, .P, [(0, 2)], 0⟩, -- Open-wire check
   ⟨0x12, 0x12, .u32, .rwIdle, .P, [(1, 10000)], 1000⟩, -- Check interval
   ⟨0x13, 0x13, .u8, .rw, .P, [(1, 100)], 25⟩, -- Open-wire threshold
   ⟨0x14, 0x14, .u8, .rwIdle, .P, [(0, 1)], 0⟩, -- Excursion detect
   ⟨0x15, 0x15, .u8, .rw, .P, [(1, 255)], 2⟩, -- Restore count
   ⟨0x16, 0x16, .u8, .ro, .W, [(0, 255)], 2⟩, -- Wire state
   ⟨0x17, 0x17, .u32, .ro, .K, [(0, 4294967295)], 0⟩, -- Wire breaks
   ⟨0x18, 0x18, .time96, .ro, .W, [(0, 79228162514264337593543950335)], 0⟩, -- Last clean check
   ⟨0x19, 0x19, .u32, .rw, .P, [(0, 4294967295)], 0⟩  -- Sounding low limit
  ] ++
  [
   ⟨0x1A, 0x1A, .u32, .rw, .P, [(0, 4294967295)], 4294967295⟩, -- Sounding high limit
   ⟨0x1B, 0x1B, .u8, .ro, .W, [(0, 255)], 0⟩, -- Sounding result
   ⟨0x1C, 0x1C, .i32, .ro, .W, [(-2147483648, 2147483647)], 0⟩, -- Sounding Z real
   ⟨0x1D, 0x1D, .i32, .ro, .W, [(-2147483648, 2147483647)], 0⟩, -- Sounding Z imaginary
   ⟨0x1E, 0x1E, .time96, .ro, .W, [(0, 79228162514264337593543950335)], 0⟩, -- Sounding time
   ⟨0x1F, 0x22, .u16, .rwIdle, .P, [(0, 511), (65535, 65535)], 65535⟩, -- Neighbour 0 to Neighbour 3
   ⟨0x23, 0x23, .u16, .rw, .P, [(0, 1000)], 5⟩, -- Twin tolerance
   ⟨0x24, 0x24, .u32, .rw, .P, [(16, 65536)], 1024⟩, -- Twin window
   ⟨0x25, 0x25, .u8, .rw, .P, [(1, 255)], 3⟩, -- Twin deviation count
   ⟨0x26, 0x26, .u8, .ro, .W, [(0, 255)], 0⟩, -- Twin deviation
   ⟨0x27, 0x27, .u32, .ro, .K, [(0, 4294967295)], 0⟩  -- Twin deviations
  ]

/-- Record 0x2600 (R91). -/
def Rows.port : List Row :=
  [
   ⟨0x01, 0x01, .u8, .rwIdle, .P, [(0, 3)], 0⟩, -- Port mode
   ⟨0x02, 0x02, .u16, .rw, .P, [(500, 10000)], 5000⟩, -- Voltage set
   ⟨0x03, 0x03, .u16, .rw, .P, [(0, 2000)], 500⟩, -- Sense compensation limit
   ⟨0x04, 0x04, .u8, .rw, .P, [(0, 1)], 1⟩, -- Sense
   ⟨0x05, 0x05, .u16, .rw, .P, [(1000, 32000)], 10000⟩, -- Current limit
   ⟨0x06, 0x06, .u16, .rw, .P, [(100, 20000)], 1000⟩, -- Current set
   ⟨0x07, 0x07, .u16, .rw, .P, [(2000, 24000)], 12000⟩, -- Compliance
   ⟨0x08, 0x08, .u8, .rw, .P, [(0, 100)], 10⟩, -- Excitation settle time
   ⟨0x09, 0x09, .u8, .rw, .K, [(0, 1)], 0⟩, -- Output enable
   ⟨0x0A, 0x0A, .u16, .ro, .W, [(0, 65535)], 0⟩, -- Port status
   ⟨0x0B, 0x0B, .u16, .ro, .W, [(0, 65535)], 0⟩, -- Output voltage
   ⟨0x0C, 0x0C, .u16, .ro, .W, [(0, 65535)], 0⟩, -- Sense voltage
   ⟨0x0D, 0x0D, .u16, .ro, .W, [(0, 65535)], 0⟩, -- Output current
   ⟨0x0E, 0x0E, .u16, .ro, .W, [(0, 65535)], 0⟩  -- Planned dissipation
  ]

/-- Record 0x2680 (R91). -/
def Rows.blankPins : List Row :=
  [
   ⟨0x01, 0x04, .u8, .rw, .P, [(0, 2)], 0⟩, -- BLANKn mode
   ⟨0x05, 0x08, .u32, .rw, .P, [(0, 1000000)], 0⟩  -- BLANKn hang time
  ]

/-- Record 0x2681 (R91). -/
def Rows.blankWindow : List Row :=
  [
   ⟨0x01, 0x01, .u8, .rw, .P, [(0, 1)], 0⟩, -- Window enable
   ⟨0x02, 0x02, .time96, .rw, .P, [(0, 79228162514264337593543950335)], 0⟩, -- Window start
   ⟨0x03, 0x03, .u32, .rw, .P, [(200, 1000000000)], 1000000⟩, -- Window duration
   ⟨0x04, 0x04, .u64, .rw, .P, [(0, 0), (200, 86400000000000)], 0⟩, -- Window period
   ⟨0x05, 0x05, .u32, .rw, .P, [(0, 4294967295)], 0⟩  -- Window repeat count
  ]

/-- Record 0x2690 (R91). -/
def Rows.energy : List Row :=
  [
   ⟨0x01, 0x01, .u8, .ro, .S, [(0, 255)], 0⟩, -- Energy class
   ⟨0x02, 0x02, .u16, .ro, .W, [(0, 65535)], 0⟩, -- VEXC A
   ⟨0x03, 0x03, .u16, .ro, .W, [(0, 65535)], 0⟩, -- VEXC B
   ⟨0x04, 0x04, .u16, .ro, .W, [(0, 65535)], 0⟩, -- Planned dissipation A
   ⟨0x05, 0x05, .u16, .ro, .W, [(0, 65535)], 0⟩, -- Planned dissipation B
   ⟨0x06, 0x06, .u16, .rw, .P, [(1000, 6000)], 6000⟩  -- Dissipation budget
  ]

/-- Record 0x2698 (R143). -/
def Rows.tone : List Row :=
  [
   ⟨0x01, 0x01, .u16, .rw, .P, [(10, 10000)], 1000⟩, -- Tone frequency
   ⟨0x02, 0x02, .u8, .rw, .P, [(1, 100)], 50⟩, -- Tone amplitude
   ⟨0x03, 0x03, .u16, .rw, .P, [(16, 65535)], 64⟩, -- Integration periods
   ⟨0x04, 0x04, .u8, .rw, .P, [(0, 1)], 1⟩, -- Tone removal
   ⟨0x05, 0x05, .u16, .rw, .P, [(0, 511)], 0⟩, -- Sweep first channel
   ⟨0x06, 0x06, .u16, .rw, .P, [(0, 511)], 511⟩  -- Sweep last channel
  ]

/-- Record 0x2700 (R121, R179). -/
def Rows.group : List Row :=
  [
   ⟨0x01, 0x01, .u8, .rwIdle, .P, [(0, 16)], 0⟩, -- Rotation length
   ⟨0x02, 0x02, .u32, .rwIdle, .P, [(1, 5000000)], 16⟩, -- Rotation period
   ⟨0x03, 0x03, .u8, .rwIdle, .P, [(0, 4)], 0⟩, -- Trigger
   ⟨0x04, 0x04, .u16, .rwIdle, .P, [(1, 65535)], 1⟩, -- Burst count
   ⟨0x05, 0x05, .u8, .rwIdle, .P, [(0, 1)], 0⟩, -- Interleave
   ⟨0x11, 0x20, .u16, .rwIdle, .P, [(0, 65535)], 0⟩, -- Entry 0 to entry 15
   ⟨0x21, 0x21, .u8, .ro, .W, [(0, 255)], 0⟩, -- Group state
   ⟨0x22, 0x22, .u32, .ro, .K, [(0, 4294967295)], 0⟩, -- Raw gap count
   ⟨0x23, 0x23, .u32, .ro, .W, [(0, 4294967295)], 0⟩, -- Rotations completed
   ⟨0x24, 0x24, .u8, .rwIdle, .P, [(0, 1)], 1⟩, -- Burst restart
   ⟨0x25, 0x25, .u32, .ro, .K, [(0, 4294967295)], 0⟩, -- Millstone starts
   ⟨0x26, 0x26, .u16, .ro, .W, [(0, 65535)], 0⟩  -- Millstone load
  ]

/-- Record 0x2780 (R121). -/
def Rows.evt : List Row :=
  [
   ⟨0x01, 0x01, .u8, .rwIdle, .P, [(0, 4)], 0⟩, -- EVT mode
   ⟨0x02, 0x02, .u16, .rwIdle, .P, [(0, 26214)], 40⟩, -- EVT minimum width
   ⟨0x03, 0x03, .u16, .rwIdle, .P, [(0, 26214)], 26214⟩, -- EVT maximum width
   ⟨0x04, 0x04, .u16, .rw, .P, [(0, 26214)], 0⟩, -- EVT delay
   ⟨0x05, 0x05, .u32, .ro, .K, [(0, 4294967295)], 0⟩, -- EVT events
   ⟨0x06, 0x06, .u32, .ro, .K, [(0, 4294967295)], 0⟩, -- EVT overruns
   ⟨0x07, 0x07, .u32, .ro, .K, [(0, 4294967295)], 0⟩, -- EVT rejected
   ⟨0x08, 0x08, .time96, .ro, .W, [(0, 79228162514264337593543950335)], 0⟩  -- Last EVT instant
  ]

/-- Record 0x2790 (R121). -/
def Rows.plan : List Row :=
  [
   ⟨0x01, 0x01, .u8, .ro, .W, [(0, 255)], 0⟩, -- Plan state
   ⟨0x02, 0x02, .time96, .rwIdle, .W, [(0, 79228162514264337593543950335)], 0⟩, -- Plan start time
   ⟨0x03, 0x03, .time96, .ro, .W, [(0, 79228162514264337593543950335)], 0⟩, -- Actual start time
   ⟨0x04, 0x04, .u8, .ro, .W, [(0, 255)], 255⟩, -- Plan fault group
   ⟨0x05, 0x05, .u8, .ro, .W, [(0, 255)], 0⟩  -- Plan fault reason
  ]

/-- Record 0x2800 (R179). -/
def Rows.millstone : List Row :=
  [
   ⟨0x01, 0x01, .u8, .rwIdle, .P, [(0, 0), (3, 3), (5, 5), (7, 7)], 0⟩, -- Pre-rank window
   ⟨0x02, 0x02, .u8, .rwIdle, .P, [(0, 5)], 0⟩, -- CIC order
   ⟨0x03, 0x03, .u32, .rwIdle, .P, [(1, 1048576)], 1⟩, -- CIC ratio
   ⟨0x04, 0x04, .u8, .rwIdle, .P, [(0, 31), (255, 255)], 255⟩, -- FIR set
   ⟨0x05, 0x05, .u8, .rwIdle, .P, [(1, 16)], 1⟩, -- FIR ratio
   ⟨0x06, 0x06, .u8, .rwIdle, .P, [(0, 0), (3, 3), (5, 5), (7, 7), (9, 9), (11, 11), (13, 13), (15, 15)], 0⟩, -- Post-rank window
   ⟨0x07, 0x07, .u16, .ro, .W, [(0, 65535)], 0⟩, -- Warm-up count
   ⟨0x08, 0x08, .u64, .ro, .W, [(0, 18446744073709551615)], 0⟩, -- Group delay
   ⟨0x09, 0x09, .u64, .ro, .W, [(0, 18446744073709551615)], 0⟩, -- Millstone output rate
   ⟨0x0A, 0x0A, .u8, .rwIdle, .P, [(0, 1)], 0⟩, -- Linearisation enable
   ⟨0x0B, 0x0B, .u16, .rwIdle, .P, [(0, 512), (65535, 65535)], 65535⟩, -- Temperature source
   ⟨0x0C, 0x0C, .u8, .ro, .W, [(0, 255)], 0⟩, -- Millstone state
   ⟨0x0D, 0x0D, .u32, .ro, .K, [(0, 4294967295)], 0⟩, -- Output saturations
   ⟨0x0E, 0x0E, .u32, .ro, .K, [(0, 4294967295)], 0⟩  -- Linearisation non-finite
  ]

/-- Record 0x2A00 (R179). -/
def Rows.coefficient : List Row :=
  [
   ⟨0x01, 0x18, .fp32, .rwIdle, .P, [(0, 2139095039), (2147483648, 4286578687)], 0⟩, -- Coefficient a(k mod 6, k div 6), k = 0 to 23
   ⟨0x19, 0x19, .domain, .wo, .none, [(0, 0)], 0⟩  -- Coefficient block
  ]

/-- Record 0x2C00 (R179). -/
def Rows.firSet : List Row :=
  [
   ⟨0x01, 0x01, .domain, .rw, .P, [(0, 0)], 0⟩, -- Coefficients
   ⟨0x02, 0x02, .u8, .ro, .P, [(0, 255)], 0⟩, -- Tap count
   ⟨0x03, 0x03, .u8, .ro, .P, [(0, 255)], 0⟩, -- Set state
   ⟨0x04, 0x04, .fp32, .ro, .P, [(0, 4294967295)], 0⟩, -- DC gain
   ⟨0x05, 0x05, .u32, .ro, .P, [(0, 4294967295)], 0⟩, -- Set digest
   ⟨0x06, 0x06, .u16, .ro, .W, [(0, 65535)], 0⟩, -- In use
   ⟨0x07, 0x07, .u8, .wo, .none, [(1, 1)], 0⟩  -- Clear
  ]

/-- Record 0x2D00 (R179, R258). -/
def Rows.pace : List Row :=
  [
   ⟨0x01, 0x01, .u16, .ro, .W, [(0, 65535)], 0⟩, -- Intake Pace
   ⟨0x02, 0x02, .i16, .ro, .W, [(-32768, 32767)], 1000⟩, -- Intake margin
   ⟨0x03, 0x03, .u16, .ro, .W, [(0, 65535)], 0⟩, -- Screed Pace
   ⟨0x04, 0x04, .i16, .ro, .W, [(-32768, 32767)], 1000⟩, -- Screed margin
   ⟨0x05, 0x05, .u16, .ro, .W, [(0, 65535)], 0⟩, -- Hopper Pace
   ⟨0x06, 0x06, .i16, .ro, .W, [(-32768, 32767)], 1000⟩, -- Hopper margin
   ⟨0x09, 0x09, .u8, .ro, .W, [(0, 255)], 0⟩, -- Pace status
   ⟨0x0A, 0x0A, .u8, .rwIdle, .P, [(0, 1)], 0⟩  -- Voltage band
  ]

/-- Record 0x2E00 (R202). -/
def Rows.sail : List Row :=
  [
   ⟨0x01, 0x01, .u8, .rwIdle, .P, [(0, 2)], 0⟩, -- Input standard
   ⟨0x02, 0x02, .u8, .rwIdle, .P, [(0, 4)], 0⟩, -- Mode
   ⟨0x03, 0x03, .u8, .rwIdle, .P, [(1, 3)], 1⟩, -- Edge select
   ⟨0x04, 0x04, .u32, .rwIdle, .P, [(1, 65536)], 1⟩, -- Prescaler
   ⟨0x05, 0x05, .u8, .rwIdle, .P, [(0, 3), (16, 16), (255, 255)], 255⟩, -- Gate
   ⟨0x06, 0x06, .u8, .rwIdle, .P, [(0, 7)], 0⟩, -- Stop source
   ⟨0x07, 0x07, .u8, .rwIdle, .P, [(1, 2)], 2⟩, -- Stop edge
   ⟨0x08, 0x08, .u8, .rwIdle, .P, [(1, 16)], 1⟩, -- Stop count
   ⟨0x09, 0x09, .u32, .rwIdle, .P, [(0, 10000000)], 1000⟩, -- Arm timeout
   ⟨0x0A, 0x0A, .u32, .rwIdle, .P, [(1000, 10000000)], 100000⟩, -- Measure time
   ⟨0x0B, 0x0B, .i32, .rw, .P, [(-65536000, 65536000)], 0⟩, -- Input delay
   ⟨0x0C, 0x0C, .u8, .wo, .none, [(1, 1)], 0⟩, -- Arm
   ⟨0x0D, 0x0D, .domain, .ro, .none, [(0, 0)], 0⟩, -- Queue pop
   ⟨0x0E, 0x0E, .u16, .ro, .W, [(0, 65535)], 0⟩, -- Queue depth
   ⟨0x0F, 0x0F, .u16, .ro, .W, [(0, 65535)], 0⟩, -- Queue occupancy
   ⟨0x10, 0x10, .u8, .wo, .none, [(0, 15)], 0⟩, -- Mark
   ⟨0x11, 0x11, .u8, .wo, .none, [(0, 15)], 0⟩, -- Rewind
   ⟨0x12, 0x12, .u8, .wo, .none, [(0, 15)], 0⟩, -- Release
   ⟨0x13, 0x13, .u32, .ro, .K, [(0, 4294967295)], 0⟩, -- Edges stamped
   ⟨0x14, 0x14, .u32, .ro, .K, [(0, 4294967295)], 0⟩, -- Edges outside gate
   ⟨0x15, 0x15, .u32, .ro, .K, [(0, 4294967295)], 0⟩, -- Extra edges
   ⟨0x16, 0x16, .u32, .ro, .K, [(0, 4294967295)], 0⟩, -- Queue overflows
   ⟨0x17, 0x17, .u32, .ro, .K, [(0, 4294967295)], 0⟩, -- Arm refusals
   ⟨0x18, 0x18, .u16, .ro, .W, [(0, 65535)], 0⟩, -- Sail status
   ⟨0x19, 0x19, .u8, .ro, .W, [(0, 255)], 0⟩  -- Queue owner
  ] ++
  [
   ⟨0x1A, 0x1A, .u32, .ro, .K, [(0, 4294967295)], 0⟩  -- Edges too close
  ]

/-- Record 0x2E10 (R202). -/
def Rows.gate : List Row :=
  [
   ⟨0x01, 0x01, .u8, .rwIdle, .P, [(0, 4)], 0⟩, -- Gate mode
   ⟨0x02, 0x02, .u8, .ro, .W, [(0, 255)], 0⟩  -- Gate state
  ]

/-- Record 0x2E20 (R202). -/
def Rows.sailCal : List Row :=
  [
   ⟨0x01, 0x01, .u32, .rw, .P, [(1, 3600)], 60⟩, -- Calibration interval
   ⟨0x02, 0x02, .time96, .ro, .W, [(0, 79228162514264337593543950335)], 0⟩, -- Last calibration
   ⟨0x03, 0x03, .i16, .ro, .W, [(-32768, 32767)], 0⟩  -- Calibration temperature
  ]

/-- Record 0x2F00 (R228). -/
def Rows.grid : List Row :=
  [
   ⟨0x01, 0x01, .u8, .rwIdle, .P, [(0, 1)], 0⟩, -- Grid enable
   ⟨0x02, 0x02, .u8, .rwIdle, .P, [(0, 7)], 0⟩, -- Tooth Sail
   ⟨0x03, 0x03, .u16, .rwIdle, .P, [(1, 1024)], 60⟩, -- Tooth count
   ⟨0x04, 0x04, .u8, .rwIdle, .P, [(0, 2)], 2⟩, -- Missing teeth
   ⟨0x05, 0x05, .u8, .rwIdle, .P, [(0, 2)], 0⟩, -- Reference kind
   ⟨0x06, 0x06, .u8, .rwIdle, .P, [(0, 7)], 1⟩, -- Reference Sail
   ⟨0x07, 0x07, .u8, .rwIdle, .P, [(1, 2)], 1⟩, -- Cycle revolutions
   ⟨0x08, 0x08, .u16, .rwIdle, .P, [(1, 8192)], 360⟩, -- Points per cycle
   ⟨0x09, 0x09, .u32, .rwIdle, .P, [(0, 47185919)], 0⟩, -- Angle offset
   ⟨0x0A, 0x0A, .u8, .rwIdle, .P, [(0, 7), (255, 255)], 255⟩, -- Cam Sail
   ⟨0x0B, 0x0B, .u8, .rwIdle, .P, [(5, 30)], 20⟩, -- Tooth tolerance
   ⟨0x0C, 0x0C, .u16, .rwIdle, .P, [(10, 60000)], 2000⟩, -- Standstill time
   ⟨0x0D, 0x0D, .u32, .rwIdle, .P, [(1, 10000000)], 100000⟩, -- Maximum speed
   ⟨0x0E, 0x0E, .u8, .wo, .none, [(1, 1)], 0⟩, -- Phase flip
   ⟨0x0F, 0x0F, .u8, .rw, .W, [(0, 1)], 0⟩, -- Suspend
   ⟨0x10, 0x10, .u8, .ro, .W, [(0, 255)], 0⟩, -- Grid state
   ⟨0x11, 0x11, .u16, .ro, .W, [(0, 65535)], 0⟩, -- Grid status
   ⟨0x12, 0x12, .u32, .ro, .W, [(0, 4294967295)], 0⟩, -- Revolution count
   ⟨0x13, 0x13, .u32, .ro, .W, [(0, 4294967295)], 0⟩, -- Speed
   ⟨0x14, 0x14, .u32, .ro, .K, [(0, 4294967295)], 0⟩, -- Tooth errors
   ⟨0x15, 0x15, .u32, .ro, .K, [(0, 4294967295)], 0⟩, -- Extra teeth
   ⟨0x16, 0x16, .u32, .ro, .K, [(0, 4294967295)], 0⟩, -- Reference faults
   ⟨0x17, 0x17, .u32, .ro, .K, [(0, 4294967295)], 0⟩, -- Sync losses
   ⟨0x18, 0x18, .u32, .ro, .W, [(0, 4294967295)], 0⟩  -- Point rate at maximum speed
  ]

/-- Record 0x2F10 (R228). -/
def Rows.align : List Row :=
  [
   ⟨0x01, 0x01, .u32, .ro, .K, [(0, 4294967295)], 0⟩, -- Align saturations
   ⟨0x02, 0x02, .u32, .ro, .K, [(0, 4294967295)], 0⟩  -- Align discards
  ]

/-- Record 0x3100 (R258). -/
def Rows.streams : List Row :=
  [
   ⟨0x01, 0x01, .u16, .ro, .W, [(0, 65535)], 0⟩, -- Streams defined
   ⟨0x02, 0x02, .u8, .wo, .none, [(1, 1)], 0⟩, -- Allocate
   ⟨0x03, 0x03, .u16, .ro, .W, [(0, 65535)], 0⟩, -- Allocated stream
   ⟨0x06, 0x06, .u32, .ro, .W, [(0, 4294967295)], 0⟩, -- Planned output rate
   ⟨0x07, 0x07, .u64, .ro, .W, [(0, 18446744073709551615)], 0⟩, -- Planned raw bit rate
   ⟨0x0B, 0x0B, .u16, .rw, .P, [(0, 500)], 0⟩, -- Required headroom
   ⟨0x11, 0x11, .u8, .ro, .W, [(0, 255)], 0⟩, -- Check verdict
   ⟨0x12, 0x12, .u8, .ro, .W, [(0, 255)], 0⟩, -- Check reason
   ⟨0x13, 0x13, .u16, .ro, .W, [(0, 65535)], 65535⟩, -- Check stream
   ⟨0x14, 0x14, .u16, .ro, .W, [(0, 65535)], 65535⟩, -- Check resource
   ⟨0x15, 0x15, .time96, .ro, .W, [(0, 79228162514264337593543950335)], 0⟩  -- Check time
  ]

/-- Record 0x3200 (R294). -/
def Rows.userTable : List Row :=
  [
   ⟨0x01, 0x01, .domain, .rw, .P, [(0, 0)], 0⟩, -- Code lengths
   ⟨0x02, 0x02, .u8, .ro, .P, [(0, 255)], 0⟩, -- Table state
   ⟨0x03, 0x03, .u32, .ro, .P, [(0, 4294967295)], 0⟩, -- Table digest
   ⟨0x04, 0x04, .u16, .ro, .W, [(0, 65535)], 0⟩, -- In use
   ⟨0x05, 0x05, .u8, .wo, .none, [(1, 1)], 0⟩  -- Clear
  ]

/-- Record 0x3300 (R294). -/
def Rows.screed : List Row :=
  [
   ⟨0x01, 0x01, .u32, .ro, .K, [(0, 4294967295)], 0⟩, -- Screed faults
   ⟨0x02, 0x02, .u32, .ro, .K, [(0, 4294967295)], 0⟩, -- Raw blocks
   ⟨0x03, 0x03, .u32, .ro, .K, [(0, 4294967295)], 0⟩, -- Blocks committed
   ⟨0x04, 0x04, .u16, .ro, .W, [(0, 65535)], 65535⟩, -- Last fault stream
   ⟨0x05, 0x05, .u32, .ro, .W, [(0, 4294967295)], 0⟩, -- Last fault sequence
   ⟨0x06, 0x06, .u8, .ro, .W, [(0, 255)], 0⟩, -- Last fault code
   ⟨0x07, 0x07, .u64, .ro, .K, [(0, 18446744073709551615)], 0⟩, -- Raw bytes
   ⟨0x08, 0x08, .u64, .ro, .K, [(0, 18446744073709551615)], 0⟩, -- Stored bytes
   ⟨0x09, 0x09, .u32, .ro, .K, [(0, 4294967295)], 0⟩, -- Staging stalls
   ⟨0x10, 0x10, .u32, .ro, .W, [(0, 4294967295)], 0⟩, -- Last image type
   ⟨0x11, 0x11, .u8, .ro, .W, [(0, 255)], 0⟩, -- Last image result
   ⟨0x12, 0x12, .u16, .ro, .W, [(0, 65535)], 65535⟩  -- Last image block
  ]

/-- Record 0x3400 (R318). -/
def Rows.hopper : List Row :=
  [
   ⟨0x01, 0x01, .u32, .ro, .K, [(0, 4294967295)], 0⟩, -- Free space
   ⟨0x02, 0x02, .u32, .rw, .P, [(1024, 32768)], 8192⟩, -- Yield level
   ⟨0x03, 0x03, .u32, .rw, .P, [(2048, 49152)], 16384⟩, -- Resume level
   ⟨0x04, 0x04, .u32, .ro, .K, [(0, 4294967295)], 0⟩, -- Reserve free
   ⟨0x05, 0x05, .u32, .ro, .K, [(0, 4294967295)], 0⟩, -- Directory free
   ⟨0x06, 0x06, .u32, .ro, .K, [(0, 4294967295)], 0⟩, -- Corrected errors
   ⟨0x07, 0x07, .u32, .ro, .K, [(0, 4294967295)], 0⟩, -- Uncorrectable errors
   ⟨0x08, 0x08, .u32, .rw, .P, [(60, 86400)], 600⟩, -- Scrub period
   ⟨0x09, 0x09, .time96, .ro, .W, [(0, 79228162514264337593543950335)], 0⟩, -- Last scrub complete
   ⟨0x0A, 0x0A, .u16, .ro, .K, [(0, 65535)], 0⟩, -- Hopper status
   ⟨0x0B, 0x0B, .u32, .ro, .K, [(0, 4294967295)], 0⟩, -- Blocks dropped
   ⟨0x0C, 0x0C, .u32, .ro, .K, [(0, 4294967295)], 0⟩, -- Events lost
   ⟨0x0D, 0x0D, .u16, .ro, .K, [(0, 65535)], 0⟩  -- Events waiting
  ]

/-- Record 0x3410 (R318). -/
def Rows.queue : List Row :=
  [
   ⟨0x01, 0x01, .u32, .ro, .K, [(0, 4294967295)], 0⟩, -- Depth
   ⟨0x02, 0x02, .u32, .ro, .K, [(0, 4294967295)], 0⟩, -- Occupancy
   ⟨0x03, 0x03, .u32, .ro, .K, [(0, 4294967295)], 0⟩, -- Occupied bytes
   ⟨0x04, 0x04, .u32, .ro, .K, [(0, 4294967295)], 0⟩, -- Commit point
   ⟨0x05, 0x05, .u32, .ro, .K, [(0, 4294967295)], 0⟩, -- Read position
   ⟨0x06, 0x06, .u32, .ro, .K, [(0, 4294967295)], 0⟩, -- Release point
   ⟨0x07, 0x07, .u32, .ro, .K, [(0, 4294967295)], 0⟩, -- Send front
   ⟨0x08, 0x08, .u8, .wo, .none, [(1, 15)], 0⟩, -- Mark
   ⟨0x09, 0x09, .u8, .wo, .none, [(0, 15)], 0⟩, -- Rewind
   ⟨0x0A, 0x0A, .u8, .wo, .none, [(1, 15)], 0⟩, -- Release
   ⟨0x0B, 0x0B, .u32, .wo, .none, [(0, 4294967295)], 0⟩, -- Release through
   ⟨0x0C, 0x0C, .u32, .wo, .none, [(0, 4294967295)], 0⟩, -- Rewind to
   ⟨0x0D, 0x0D, .u16, .ro, .K, [(0, 65535)], 0⟩, -- Marks set
   ⟨0x0E, 0x0E, .u32, .ro, .K, [(0, 4294967295)], 0⟩, -- Underruns
   ⟨0x0F, 0x0F, .u32, .ro, .K, [(0, 4294967295)], 0⟩  -- Releases refused
  ]

/-- Record 0x3500 (R352). -/
def Rows.leat : List Row :=
  [
   ⟨0x01, 0x01, .u8, .ro, .W, [(0, 255)], 0⟩, -- Enumeration state
   ⟨0x02, 0x02, .u8, .rw, .P, [(0, 3)], 3⟩, -- Maximum lane rate
   ⟨0x03, 0x03, .u8, .ro, .W, [(0, 255)], 0⟩, -- Strap preset
   ⟨0x04, 0x04, .u16, .ro, .W, [(0, 65535)], 0⟩, -- Chain status
   ⟨0x05, 0x05, .u8, .rw, .W, [(0, 1)], 0⟩, -- Send direction
   ⟨0x06, 0x06, .u32, .ro, .W, [(0, 4294967295)], 0⟩, -- Credit limit
   ⟨0x07, 0x07, .u32, .ro, .W, [(0, 4294967295)], 0⟩, -- Credit consumed
   ⟨0x08, 0x08, .u32, .ro, .K, [(0, 4294967295)], 0⟩, -- Credit stalls
   ⟨0x09, 0x09, .u32, .ro, .K, [(0, 4294967295)], 0⟩, -- Link resets
   ⟨0x0A, 0x0A, .u64, .ro, .none, [(0, 18446744073709551615)], 0⟩, -- Device identity
   ⟨0x0B, 0x0B, .u32, .ro, .K, [(0, 4294967295)], 0⟩, -- CREDIT items refused
   ⟨0x0C, 0x0C, .u32, .ro, .K, [(0, 4294967295)], 0⟩  -- Frames dropped
  ]

/-- Record 0x3510 (R352). -/
def Rows.leatPort : List Row :=
  [
   ⟨0x01, 0x01, .u8, .rw, .P, [(0, 1)], 0⟩, -- Port enable
   ⟨0x02, 0x02, .u8, .ro, .W, [(0, 255)], 0⟩, -- Link state
   ⟨0x03, 0x03, .u8, .ro, .W, [(0, 255)], 255⟩, -- Lane rate
   ⟨0x04, 0x04, .u8, .rw, .P, [(0, 15), (255, 255)], 255⟩, -- Preset override
   ⟨0x05, 0x05, .u8, .ro, .W, [(0, 255)], 0⟩, -- Partner kind
   ⟨0x06, 0x06, .u8, .ro, .W, [(0, 255)], 0⟩, -- Partner maximum rate
   ⟨0x07, 0x07, .u16, .ro, .W, [(0, 65535)], 0⟩, -- Lane skew
   ⟨0x08, 0x08, .u32, .ro, .K, [(0, 4294967295)], 0⟩, -- Replays
   ⟨0x09, 0x09, .u32, .ro, .K, [(0, 4294967295)], 0⟩, -- CRC errors
   ⟨0x0A, 0x0A, .u32, .ro, .K, [(0, 4294967295)], 0⟩, -- Code errors
   ⟨0x0B, 0x0B, .u32, .ro, .K, [(0, 4294967295)], 0⟩, -- Retrains
   ⟨0x0C, 0x0C, .u32, .ro, .K, [(0, 4294967295)], 0⟩, -- Port downs
   ⟨0x0D, 0x0D, .u32, .ro, .K, [(0, 4294967295)], 0⟩, -- Rate fallbacks
   ⟨0x0E, 0x0E, .u16, .rw, .W, [(1, 3600)], 10⟩, -- Test duration
   ⟨0x0F, 0x0F, .u8, .ro, .W, [(0, 255)], 0⟩, -- Test result
   ⟨0x10, 0x10, .u64, .ro, .W, [(0, 18446744073709551615)], 0⟩, -- Bits checked
   ⟨0x11, 0x11, .u64, .ro, .W, [(0, 18446744073709551615)], 0⟩, -- Bit errors lane 0
   ⟨0x12, 0x12, .u64, .ro, .W, [(0, 18446744073709551615)], 0⟩, -- Bit errors lane 1
   ⟨0x13, 0x13, .u16, .ro, .W, [(0, 65535)], 0⟩  -- Port status
  ]

/-- Record 0x3520 (R352). -/
def Rows.weirGroup : List Row :=
  [
   ⟨0x01, 0x01, .u8, .rw, .P, [(1, 255)], 1⟩, -- Weight
   ⟨0x02, 0x02, .u64, .ro, .K, [(0, 18446744073709551615)], 0⟩  -- Bytes sent
  ]

/-- Record 0x3600 (R378). -/
def Rows.twin : List Row :=
  [
   ⟨0x01, 0x01, .u8, .ro, .W, [(0, 255)], 0⟩, -- Role state
   ⟨0x02, 0x02, .u16, .ro, .W, [(0, 65535)], 0⟩, -- Twin status
   ⟨0x03, 0x03, .u8, .wo, .none, [(1, 3)], 0⟩, -- Role command
   ⟨0x04, 0x04, .u32, .ro, .K, [(0, 4294967295)], 0⟩, -- Switchovers
   ⟨0x05, 0x05, .time96, .ro, .W, [(0, 79228162514264337593543950335)], 0⟩, -- Last switchover
   ⟨0x06, 0x06, .u8, .ro, .W, [(0, 255)], 0⟩, -- Last switchover cause
   ⟨0x07, 0x07, .u32, .ro, .P, [(0, 4294967295)], 0⟩, -- Hours since swap
   ⟨0x08, 0x08, .u16, .rw, .P, [(1, 720)], 720⟩, -- Proof interval
   ⟨0x09, 0x09, .u32, .ro, .K, [(0, 4294967295)], 0⟩, -- Digest mismatches
   ⟨0x0A, 0x0A, .u32, .ro, .W, [(0, 4294967295)], 0⟩, -- Configuration digest
   ⟨0x0B, 0x0B, .u32, .ro, .W, [(0, 4294967295)], 0⟩, -- Partner configuration digest
   ⟨0x0C, 0x0C, .u32, .ro, .K, [(0, 4294967295)], 0⟩  -- Heartbeat silences
  ]

/-- Record 0x3800 (R410). -/
def Rows.safetyInput : List Row :=
  [
   ⟨0x01, 0x01, .u8, .rwSeal, .P, [(0, 3)], 0⟩, -- Input mode
   ⟨0x02, 0x02, .u16, .rwSeal, .P, [(0, 10000)], 300⟩, -- Debounce time
   ⟨0x03, 0x03, .u16, .rwSeal, .P, [(1, 2000)], 100⟩, -- Discrepancy time
   ⟨0x04, 0x04, .u8, .ro, .W, [(0, 255)], 0⟩, -- Input state
   ⟨0x05, 0x05, .u8, .ro, .W, [(0, 255)], 0⟩, -- Input status
   ⟨0x06, 0x06, .u8, .wo, .none, [(1, 1)], 0⟩, -- Acknowledge
   ⟨0x07, 0x07, .u32, .ro, .K, [(0, 4294967295)], 0⟩  -- Discrepancy faults
  ]

/-- Record 0x3810 (R410). -/
def Rows.safety : List Row :=
  [
   ⟨0x01, 0x01, .u16, .ro, .S, [(0, 65535)], 0⟩, -- Seal at start
   ⟨0x02, 0x02, .u16, .ro, .W, [(0, 65535)], 0⟩, -- Seal now
   ⟨0x03, 0x03, .u32, .ro, .W, [(0, 4294967295)], 0⟩, -- Safety parameter digest
   ⟨0x04, 0x04, .u16, .ro, .W, [(0, 65535)], 0⟩, -- Safety status
   ⟨0x05, 0x05, .u32, .ro, .K, [(0, 4294967295)], 0⟩, -- Safety faults
   ⟨0x06, 0x06, .u32, .ro, .K, [(0, 4294967295)], 0⟩  -- Scrim unmatched
  ]

/-- Record 0x3820 (R410). -/
def Rows.trip : List Row :=
  [
   ⟨0x01, 0x01, .u8, .rwSeal, .P, [(0, 1)], 0⟩, -- Trip enable
   ⟨0x02, 0x02, .u8, .rwSeal, .P, [(1, 32)], 1⟩, -- Vote
   ⟨0x03, 0x03, .u8, .rwSeal, .P, [(0, 1)], 1⟩, -- Latch
   ⟨0x04, 0x04, .u16, .rwSeal, .P, [(50, 2000)], 200⟩, -- Test pulse width
   ⟨0x05, 0x05, .u16, .rwSeal, .P, [(0, 3600)], 60⟩, -- Test pulse interval
   ⟨0x06, 0x06, .u16, .rwSeal, .P, [(10, 1000)], 100⟩, -- Readback time
   ⟨0x07, 0x07, .u32, .rwSeal, .P, [(0, 0), (100, 10000000)], 0⟩, -- Reaction limit
   ⟨0x08, 0x08, .u32, .ro, .W, [(0, 4294967295)], 0⟩, -- Reaction time
   ⟨0x09, 0x09, .u8, .ro, .W, [(0, 255)], 0⟩, -- Trip state
   ⟨0x0A, 0x0A, .u16, .ro, .W, [(0, 65535)], 0⟩, -- Trip status
   ⟨0x0B, 0x0B, .u8, .wo, .none, [(1, 1)], 0⟩, -- Acknowledge
   ⟨0x0C, 0x0C, .u32, .ro, .K, [(0, 4294967295)], 0⟩, -- Trips
   ⟨0x0D, 0x0D, .time96, .ro, .W, [(0, 79228162514264337593543950335)], 0⟩, -- Last trip
   ⟨0x10, 0x2F, .u16, .rwSeal, .P, [(0, 0), (0x2000, 0x200F), (0x4000, 0x40FF), (0x6000, 0x7FFF)], 0⟩  -- Term 0 to Term 31
  ]

/-- Record 0x3A00 (R410). -/
def Rows.comparator : List Row :=
  [
   ⟨0x01, 0x01, .u8, .rwSeal, .P, [(0, 1)], 0⟩, -- Comparator enable
   ⟨0x02, 0x02, .u16, .rwSeal, .P, [(0, 511)], 0⟩, -- Source channel
   ⟨0x03, 0x03, .u8, .rwSeal, .P, [(0, 2)], 2⟩, -- Tap
   ⟨0x04, 0x04, .u8, .rwSeal, .P, [(1, 3)], 1⟩, -- Limit mode
   ⟨0x05, 0x05, .i32, .rwSeal, .P, [(-2147483648, 2147483647)], -2147483648⟩, -- Low limit
   ⟨0x06, 0x06, .i32, .rwSeal, .P, [(-2147483648, 2147483647)], 2147483647⟩, -- High limit
   ⟨0x07, 0x07, .u32, .rwSeal, .P, [(0, 1073741824)], 0⟩, -- Hysteresis
   ⟨0x08, 0x08, .u16, .rwSeal, .P, [(1, 65535)], 1⟩, -- Delay count
   ⟨0x09, 0x09, .u16, .rwSeal, .P, [(0, 10000)], 100⟩, -- Invalid hold
   ⟨0x0A, 0x0A, .u8, .ro, .W, [(0, 255)], 0⟩, -- Comparator state
   ⟨0x0B, 0x0B, .u32, .ro, .W, [(0, 4294967295)], 0⟩, -- Reaction time
   ⟨0x0C, 0x0C, .u32, .ro, .K, [(0, 4294967295)], 0⟩  -- Comparator demands
  ]

/-- Record 0x3B00 (R410). -/
def Rows.scrim : List Row :=
  [
   ⟨0x01, 0x01, .u8, .rwSeal, .P, [(0, 1)], 0⟩, -- Connection enable
   ⟨0x02, 0x02, .u8, .rwSeal, .P, [(0, 1)], 0⟩, -- Direction
   ⟨0x03, 0x03, .u32, .rwSeal, .P, [(1, 4294967295)], 0⟩, -- Identity
   ⟨0x04, 0x04, .u8, .rwSeal, .P, [(0, 63)], 0⟩, -- Peer connection
   ⟨0x05, 0x05, .u16, .rwSeal, .P, [(1, 1000)], 100⟩, -- Watchdog
   ⟨0x06, 0x06, .u16, .rwSeal, .P, [(1, 5000)], 100⟩, -- Production period
   ⟨0x07, 0x07, .u8, .rwSeal, .P, [(0, 16)], 0⟩, -- Data length
   ⟨0x08, 0x08, .u8, .ro, .W, [(0, 255)], 0⟩, -- Connection state
   ⟨0x09, 0x09, .u8, .ro, .W, [(0, 255)], 0⟩, -- Failure cause
   ⟨0x0A, 0x0A, .domain, .ro, .W, [(0, 0)], 0⟩, -- Received data
   ⟨0x0B, 0x0B, .u8, .wo, .none, [(1, 1)], 0⟩, -- Reset
   ⟨0x0C, 0x0C, .u16, .ro, .W, [(0, 65535)], 0⟩, -- Last sequence
   ⟨0x0D, 0x0D, .u32, .ro, .K, [(0, 4294967295)], 0⟩, -- Failures
   ⟨0x0E, 0x0E, .u32, .ro, .K, [(0, 4294967295)], 0⟩, -- Duplicates
   ⟨0x10, 0x1F, .u8, .rwSeal, .P, [(0, 44), (255, 255)], 255⟩  -- Data byte 0 to 15 source
  ]

/-- Record 0x4000 (R229, R294). -/
def Rows.stream : List Row :=
  [
   ⟨0x01, 0x01, .u8, .rwIdle, .P, [(0, 2)], 0⟩, -- Stream state
   ⟨0x02, 0x02, .u8, .rwIdle, .P, [(0, 2)], 0⟩, -- Source kind
   ⟨0x03, 0x03, .u16, .rwIdle, .P, [(0, 511)], 0⟩, -- Source number
   ⟨0x04, 0x04, .u8, .rwIdle, .P, [(0, 4)], 3⟩, -- Tap point
   ⟨0x05, 0x05, .u8, .rwIdle, .P, [(0, 3), (255, 255)], 255⟩, -- Grid
   ⟨0x06, 0x06, .u32, .rwIdle, .P, [(0, 1250000)], 100⟩, -- Rate
   ⟨0x07, 0x07, .u8, .rwIdle, .P, [(0, 6)], 0⟩, -- Reduction
   ⟨0x08, 0x08, .u32, .rwIdle, .P, [(2, 65536)], 10⟩, -- Reduction window
   ⟨0x09, 0x09, .u32, .rwIdle, .P, [(0, 4294967295)], 0⟩, -- Reduction threshold
   ⟨0x0A, 0x0A, .u8, .rwIdle, .P, [(0, 2)], 0⟩, -- Format
   ⟨0x0B, 0x0B, .i8, .rwIdle, .P, [(-32, 31)], 0⟩, -- Fixed24 scale
   ⟨0x0C, 0x0C, .u8, .rwIdle, .P, [(0, 5)], 1⟩, -- Predictor
   ⟨0x0D, 0x0D, .u8, .rwIdle, .P, [(0, 24)], 24⟩, -- Residue table
   ⟨0x0E, 0x0E, .u8, .rwIdle, .P, [(0, 1)], 1⟩, -- Match tokens
   ⟨0x0F, 0x0F, .u8, .rwIdle, .P, [(0, 1)], 0⟩, -- Class
   ⟨0x10, 0x10, .u8, .rwIdle, .P, [(0, 7)], 0⟩, -- Weir group
   ⟨0x11, 0x11, .u8, .rwIdle, .P, [(0, 1)], 0⟩, -- Legacy
   ⟨0x12, 0x12, .u8, .ro, .W, [(0, 255)], 0⟩, -- Stream status
   ⟨0x13, 0x13, .u32, .ro, .K, [(0, 4294967295)], 0⟩, -- Next sequence
   ⟨0x14, 0x14, .u64, .ro, .W, [(0, 18446744073709551615)], 0⟩, -- Output rate
   ⟨0x15, 0x15, .u16, .ro, .W, [(0, 65535)], 0⟩, -- Budget size
   ⟨0x16, 0x16, .u8, .ro, .W, [(0, 255)], 0⟩, -- Screed engine
   ⟨0x17, 0x17, .u32, .ro, .K, [(0, 4294967295)], 0⟩, -- Suspensions
   ⟨0x18, 0x1B, .u16, .ro, .W, [(0, 65535)], 65535⟩  -- Reference 0 to Reference 3
  ]

/-- An object of the dictionary: `count` records from index `base`, each with the same entries. -/
structure Obj where
  base : Nat
  count : Nat
  rows : List Row
  deriving DecidableEq, Repr

/-- Table 15-8: the operation codes that have a record 0x1400 + code. -/
def opCodes : List Nat := [0x10, 0x11, 0x12, 0x13, 0x20, 0x21, 0x30, 0x40]

/-- Table 15-7: the objects, in ascending index. -/
def objects : List Obj :=
  [⟨0x1008, 1, Rows.identity⟩, ⟨0x1018, 1, Rows.chainIdent⟩, ⟨0x1200, 1, Rows.power⟩, ⟨0x1300, 1, Rows.service⟩] ++
  opCodes.map (fun c => ⟨0x1400 + c, 1, Rows.longOp⟩) ++
  [⟨0x1500, 1, Rows.flash⟩, ⟨0x1600, 1, Rows.eventLog⟩, ⟨0x2300, 1, Rows.governor⟩, ⟨0x2301, 4, Rows.domain⟩,
   ⟨0x2306, 1, Rows.asymmetry⟩, ⟨0x2307, 1, Rows.pps⟩, ⟨0x2400, 512, Rows.channel⟩, ⟨0x2600, 128, Rows.port⟩,
   ⟨0x2680, 1, Rows.blankPins⟩, ⟨0x2681, 8, Rows.blankWindow⟩, ⟨0x2690, 1, Rows.energy⟩, ⟨0x2698, 1, Rows.tone⟩,
   ⟨0x2700, 128, Rows.group⟩, ⟨0x2780, 4, Rows.evt⟩, ⟨0x2790, 1, Rows.plan⟩, ⟨0x2800, 512, Rows.millstone⟩,
   ⟨0x2A00, 512, Rows.coefficient⟩, ⟨0x2C00, 32, Rows.firSet⟩, ⟨0x2D00, 1, Rows.pace⟩, ⟨0x2E00, 8, Rows.sail⟩,
   ⟨0x2E10, 4, Rows.gate⟩, ⟨0x2E20, 1, Rows.sailCal⟩, ⟨0x2F00, 4, Rows.grid⟩, ⟨0x2F10, 1, Rows.align⟩,
   ⟨0x3100, 1, Rows.streams⟩, ⟨0x3200, 8, Rows.userTable⟩, ⟨0x3300, 1, Rows.screed⟩, ⟨0x3400, 1, Rows.hopper⟩,
   ⟨0x3410, 8, Rows.queue⟩, ⟨0x3500, 1, Rows.leat⟩, ⟨0x3510, 5, Rows.leatPort⟩, ⟨0x3520, 8, Rows.weirGroup⟩,
   ⟨0x3600, 1, Rows.twin⟩, ⟨0x3800, 16, Rows.safetyInput⟩, ⟨0x3810, 1, Rows.safety⟩, ⟨0x3820, 8, Rows.trip⟩,
   ⟨0x3A00, 256, Rows.comparator⟩, ⟨0x3B00, 64, Rows.scrim⟩, ⟨0x4000, 16384, Rows.stream⟩]

/-- The object that holds an index. -/
def objAt (idx : Nat) : Option Obj := objects.find? (fun o => decide (o.base ≤ idx) && decide (idx < o.base + o.count))

/-- The row that holds an entry. -/
def rowAt (idx sub : Nat) : Option Row :=
  match objAt idx with
  | none => none
  | some o => o.rows.find? (fun r => decide (r.lo ≤ sub) && decide (sub ≤ r.hi))

/-- Entries of an object: subindices 0x01 upward (R426 counts exclude 0x00 and 0xFF). -/
def Obj.entries (o : Obj) : Nat := sumNat (o.rows.map (fun r => r.hi - r.lo + 1))

/-- The key of an entry in the dictionary store. -/
def ekey (idx sub : Nat) : Nat := idx * 256 + sub

/-- The value an entry reads while nothing has written it: its default, or the value that the table or a rule gives
a read-only entry after reset; 0 where the spec gives none (DESIGN CHOICE, log entry 5). Entries whose default depends on the
record: Domain enable and source of domain 0 (Table 02-6), coefficient k = 1 (Table 06-8), Stop source "default n"
(Table 07-6), Port enable (Table 12-1). -/
def dictDefault (key : Nat) : Nat :=
  let idx := key / 256
  let sub := key % 256
  if key = ekey 0x2301 1 ∨ key = ekey 0x2301 2 then 1
  else if 0x2302 ≤ idx ∧ idx ≤ 0x2304 ∧ sub = 2 then 0
  else if 0x2A00 ≤ idx ∧ idx < 0x2C00 ∧ sub = 2 then 0x3F800000
  else if 0x2E00 ≤ idx ∧ idx < 0x2E08 ∧ sub = 6 then idx - 0x2E00
  else if key = ekey 0x3510 1 ∨ key = ekey 0x3512 1 then 1
  else match rowAt idx sub with
    | none => 0
    | some r => r.ty.ofInt r.dflt

end Sys2Proof.Machine
end

