-- ==== Sys2Proof/Machine/Tbl.lean ====
section
/-! DEFINITION. Sparse tables: a list of (key, value) pairs in one canonical form, with a value that every
unlisted key reads as. All indexed state of the hub (dictionary, channels, groups, ports, streams) is held so. -/

namespace Sys2Proof.Machine

/-- The value at a key, `d` where the key is not listed. -/
def Tbl.get {α : Type} (d : α) : List (Nat × α) → Nat → α
  | [], _ => d
  | (k, v) :: t, n => if n = k then v else Tbl.get d t n

/-- Insertion or replacement, in rising key order. -/
def Tbl.put {α : Type} : List (Nat × α) → Nat → α → List (Nat × α)
  | [], n, x => [(n, x)]
  | (k, v) :: t, n, x =>
    if n = k then (n, x) :: t else if n < k then (n, x) :: (k, v) :: t else (k, v) :: Tbl.put t n x

/-- Removal of a key. -/
def Tbl.drop {α : Type} : List (Nat × α) → Nat → List (Nat × α)
  | [], _ => []
  | (k, v) :: t, n => if n = k then Tbl.drop t n else (k, v) :: Tbl.drop t n

/-- A write: writing the value an unlisted key reads as removes the entry. -/
def Tbl.set {α : Type} [DecidableEq α] (d : α) (t : List (Nat × α)) (n : Nat) (x : α) : List (Nat × α) :=
  if x = d then Tbl.drop t n else Tbl.put t n x

/-- Keys rise strictly and lie above `lo`, and no value is the one an unlisted key reads as. -/
def Tbl.wfFrom {α : Type} [DecidableEq α] (d : Nat → α) : Nat → List (Nat × α) → Bool
  | _, [] => true
  | lo, (k, v) :: t => decide (lo ≤ k) && !decide (v = d k) && Tbl.wfFrom d (k + 1) t

/-- The canonical form of a table whose default may depend on the key. -/
def Tbl.wf {α : Type} [DecidableEq α] (d : Nat → α) (t : List (Nat × α)) : Bool := Tbl.wfFrom d 0 t

/-- A table with every value mapped, values that become the default being dropped. -/
def Tbl.map {α : Type} [DecidableEq α] (d : α) (f : Nat → α → α) : List (Nat × α) → List (Nat × α)
  | [] => []
  | (k, v) :: t => if f k v = d then Tbl.map d f t else (k, f k v) :: Tbl.map d f t

/-- The keys of a table in rising order. -/
def Tbl.keys {α : Type} (t : List (Nat × α)) : List Nat := t.map (·.1)

end Sys2Proof.Machine
end

