-- ==== Sys2Proof/Machine/State.lean ====
section
/-! DEFINITION. The state of the hub as plain data. The object dictionary holds every register that the spec numbers;
the other structures hold what the rules name without an entry. Instants are in fraction units of 2^-16 ns in domain 0
unless said otherwise; indexed structures are tables (Machine/Tbl.lean) keyed by the resource's number. -/

namespace Sys2Proof.Machine

/-! ### Queues with marks (R197; the event log follows it exactly, R437) -/

/-- A queue of records with marks, a read position and a hold point. Positions count from the first record ever
pushed. -/
structure MarkQueue where
  /-- records not freed, oldest first -/
  items : List (List Byte)
  /-- position of the oldest record not freed -/
  base : Nat
  /-- read position -/
  read : Nat
  /-- marks set: number and position -/
  marks : List (Nat × Nat)
  /-- position kept by a Release -/
  kept : Option Nat
  /-- last record popped -/
  last : Option (List Byte)
  /-- a push was refused since the previous pop -/
  refused : Bool
  deriving DecidableEq, Repr

/-- An empty queue. -/
def MarkQueue.empty : MarkQueue := ⟨[], 0, 0, [], none, none, false⟩

/-! ### Governor (chapter 02) -/

/-- A step requested and not yet applied (R38). Instants and amounts in fraction units; the servo's amount in halves of
one, since the mean of R48 halves a sum. -/
inductive StepReq where
  | setTo (t : Int)
  | by (delta : Int)
  | half (delta : Int)
  deriving DecidableEq, Repr

/-- A timing exchange in progress (R48): departure and arrival of the SYNC, sequence of the DELAY_REQ and its
departure once it has been serialised (R44). -/
structure Exchange where
  t1 : Int
  t2 : Int
  reqSeq : Nat
  t3 : Option Int
  deriving DecidableEq, Repr

/-- The Governor's state of one time domain that has no dictionary entry. -/
structure Dom where
  /-- counter of counter mode, in 2^-48 ns -/
  counter : Int
  /-- O_d of offset mode, in 2^-48 ns -/
  offset : Int
  /-- island tick at which the increment was last written: B_d of offset mode -/
  atTick : Nat
  /-- a step was applied since power-on -/
  stepped : Bool
  step : Option StepReq
  xchg : Option Exchange
  /-- sequence of the DELAY_REQ sent last, and of the SYNC sent last -/
  reqSeq : Nat
  syncSeq : Nat
  /-- interval exponent, hop count and not-traceable bit of the last valid SYNC -/
  exponent : Nat
  hops : Nat
  notTraceable : Bool
  /-- a new master identity that awaits its acknowledge (R42) -/
  newMaster : Option Nat
  /-- island tick of the last valid measurement since the reset -/
  lastValid : Option Nat
  /-- integral term of R37 in 2^-55 ns; none where R53 preloads it at the next measurement -/
  integ : Option Int
  /-- increments the servo wrote, newest first, at most 64 (R52) -/
  incs : List Nat
  /-- consecutive measurements within 20 ns, and beyond 100 ns -/
  nearRun : Nat
  farRun : Nat
  deriving DecidableEq, Repr

/-- A domain at power-on (R503). -/
def Dom.reset : Dom :=
  ⟨0, 0, 0, false, none, none, 0, 0, 0, 0, false, none, none, none, [], 0, 0⟩

/-- The Governor. -/
structure Gov where
  /-- 2.5 ns ticks of the island since the PLL locked, never stepped (R31, R41) -/
  ticks : Nat
  /-- tick from which the operating hours beyond the stored ones count (R375) -/
  hourTick : Nat
  doms : List (Nat × Dom)
  /-- island tick at which PPS_OUT falls (R55) -/
  ppsFall : Option Nat
  /-- a DELAY_REQ or SYNC due is held by its port; next own SYNC of each domain falls due at this tick -/
  nextSync : List (Nat × Nat)
  deriving DecidableEq, Repr

/-- The Governor at power-on. -/
def Gov.reset : Gov := ⟨0, 0, [], none, []⟩

/-! ### Hopper and Ledger (chapter 11) -/

/-- A record held in the Hopper, or a marker or event that waits in the Ledger table. -/
structure Rec where
  /-- Table 11-2 -/
  kind : Nat
  /-- the bytes that are sent -/
  bytes : List Byte
  /-- bytes accounted to the record (R296, R311) -/
  space : Nat
  /-- it lies in the marker reserve -/
  inReserve : Bool
  /-- the directory's stream, first sequence and sample count; no stream for a hub-wide record -/
  stream : Option Nat
  first : Nat
  count : Nat
  /-- instants of its first and last output (R311) -/
  instA : Int
  instB : Int
  /-- reference blocks that a dependent block draws on (R273, R274): stream, first sequence, and first instant, which
  tells the blocks of several plan runs apart -/
  refs : List (Nat × Nat × Int)
  /-- raw size of a block (R267), 0 for other records -/
  raw : Nat
  /-- the directory's address (R295) -/
  addr : Nat
  /-- it stands in the place of a record that a memory error hit (R311) -/
  replaced : Bool
  /-- directory fields of which one copy cannot be corrected: field, and whether it is the second copy (R295, R311) -/
  badCopies : List (Nat × Bool)
  deriving DecidableEq, Repr

/-- A record as it is before it is committed. -/
def Rec.of (kind : Nat) (bytes : List Byte) (space : Nat) (stream : Option Nat) (first count : Nat) (instA instB : Int)
    (refs : List (Nat × Nat × Int)) (raw : Nat) : Rec :=
  ⟨kind, bytes, space, false, stream, first, count, instA, instB, refs, raw, 0, false, []⟩

/-- One Hopper queue (R298 to R303). Positions count records without wrapping; entries show them modulo 2^32. -/
structure HQueue where
  /-- held records, from the release point -/
  recs : List Rec
  /-- release point: mark 0 -/
  release : Nat
  /-- read position -/
  read : Nat
  /-- bytes of the record at the read position already sent (R333) -/
  sent : Nat
  /-- send front -/
  front : Nat
  /-- host marks: number and position -/
  marks : List (Nat × Nat)
  /-- position that a release reaches beyond the record being read (R304) -/
  relPend : Option Nat
  deriving DecidableEq, Repr

/-- An empty queue. -/
def HQueue.reset : HQueue := ⟨[], 0, 0, 0, 0, [], none⟩

/-- An open gap of a stream (R306, R307): Table 11-5 reason, first sequence, count and the instants of its ends. -/
structure Gap where
  reason : Nat
  first : Nat
  count : Nat
  instA : Int
  instB : Int
  deriving DecidableEq, Repr

/-- A record that waits, with the queue it goes to: a marker or event that waits for space, or what has its
reservation already (R308). -/
structure Waiting where
  queue : Nat
  granted : Bool
  body : Rec
  deriving DecidableEq, Repr

/-- The Hopper and the Ledger table. -/
structure Hop where
  queues : List (Nat × HQueue)
  /-- open gaps by stream (R307) -/
  gaps : List (Nat × Gap)
  /-- waiting records in the order in which they arose (R308) -/
  waiting : List Waiting
  /-- reservation of the block that is being encoded (R283, R305), 0 for none -/
  grant : Nat
  /-- records that follow the restart marker due at the next Run (R457, R317) -/
  restartDue : Option Nat
  /-- Ledger events lost since the last event of reason 44: count, first and last instant (R309) -/
  lost : Option (Nat × Int × Int)
  /-- an event of reason 44 is owed: the next event written carries EVENTS_LOST_BEFORE -/
  lostFlag : Bool
  deriving DecidableEq, Repr

/-- The Hopper after a reset that loses it, for the given reset kind of the restart marker (R457). -/
def Hop.reset (kind : Nat) : Hop := ⟨[], [], [], 0, some kind, none, false⟩

/-! ### Leat and Weir (chapter 12) -/

/-- A frame, with the fields of Table 12-6 that its type uses. -/
structure Frame where
  ftype : Nat
  south : Bool
  broadcast : Bool
  neighbour : Bool
  hubOrigin : Bool
  queue : Nat
  hubId : Nat
  offset : Nat
  recNum : Nat
  payload : List Byte
  deriving DecidableEq, Repr

/-- A timing frame due on a port (R47): the time is inserted when it is serialised (R44), except in a DELAY_RESP. -/
structure TimingFrame where
  domain : Nat
  /-- Table 02-3: 0 SYNC, 1 DELAY_REQ, 2 DELAY_RESP -/
  message : Nat
  exponent : Nat
  seq : Nat
  /-- arrival of the request, for a DELAY_RESP -/
  t4 : Int
  deriving DecidableEq, Repr

/-- Table 12-2: the ordered sets that stand between frames, with their fields. -/
inductive OrdSet where
  | idle
  | skip
  | train (t : TrainSet)
  | ack (seq window : Nat)
  | nak (seq window : Nat)
  deriving DecidableEq, Repr

/-- Where a port stands in R327. -/
inductive TrainStep where
  /-- sends TRAIN without SEEN at 6.25 Gbaud (step 1) -/
  | start
  /-- SEEN set (step 2) -/
  | seen
  /-- sends GO (step 4) -/
  | go
  /-- switched to the higher rate, SEEN not yet set there -/
  | high
  /-- SEEN set at the final rate (step 5) -/
  | final
  /-- 16 sets with SEEN sent and received; it sends IDLE and waits for IDLE -/
  | idle
  deriving DecidableEq, Repr

/-- One Leat port. -/
structure LPort where
  step : TrainStep
  /-- agreed rate, or the rate trained at -/
  rate : Nat
  /-- lowered maximum after a fallback (R328) -/
  maxRate : Option Nat
  /-- island tick at which the state was entered (2 ms, 10 ms, 1 ms limits) -/
  since : Nat
  /-- hop sequence expected next, and sent next -/
  rxNext : Nat
  txNext : Nat
  /-- replay buffer, oldest first: hop sequence, frame, tick of its last sending -/
  replay : List (Nat × Frame × Nat)
  /-- frames of the replay buffer still to be resent -/
  resend : Nat
  /-- replays without progress (R338) -/
  stalls : Nat
  /-- forward buffer (R336), oldest first -/
  fwd : List Frame
  /-- partner's last advertised window in 64-byte units, and bytes sent since -/
  window : Nat
  sentSince : Nat
  /-- an ACK, a NAK is due; tick of the last NAK while none good has followed -/
  ackDue : Bool
  nakDue : Bool
  nakAt : Option Nat
  /-- timing frames and control frames due, in order -/
  timing : List TimingFrame
  control : List Frame
  /-- own frames and forwarded frames take turns: the next turn is the own frame's (R334) -/
  ownTurn : Bool
  /-- the partner's TRAIN showed a host interface -/
  hostSeen : Bool
  /-- R330: 0 no test, 1 TEST_START sent, 2 accepted and tested by this hub, 3 tested by the partner -/
  testing : Nat
  /-- duration of the test in seconds -/
  testSecs : Nat
  /-- control bytes put on the lanes within the last stretch (R334): tick and bytes, newest first -/
  ctl : List (Nat × Nat)
  /-- the last frame put on the lanes, from header to frame check, and the last ordered set -/
  lastSent : List Byte
  lastSet : Option OrdSet
  /-- TRAIN sets sent since the present step of R327 or test of R330 began -/
  sets : Nat
  /-- the 10-bit symbols put on lanes 0 and 1 at the last frame boundary, and the lanes' running disparities, true for
  positive (R322) -/
  line : List (Nat × Nat)
  rd0 : Bool
  rd1 : Bool
  /-- columns sent since the last SKIP column (R324) -/
  sinceSkip : Nat
  /-- registers of the PRBS31 generators of the two lanes (R330) -/
  prbs : Nat × Nat
  deriving DecidableEq, Repr

/-- A port whose lanes are powered down. -/
def LPort.reset : LPort :=
  ⟨.start, 0, none, 0, 0, 0, [], 0, 0, [], 0, 0, false, false, none, [], [], true, false, 0, 0, [], [], none, 0, [], false, false, 0, (0, 0)⟩

/-- Leat and Weir beyond the ports. -/
structure Leat where
  ports : List (Nat × LPort)
  /-- consumed frames that wait for the command that carries their content out -/
  inbox : List Frame
  /-- chain, position and port of assignment (R347) -/
  chain : Option Nat
  position : Option Nat
  assignedOn : Nat
  ladder : Bool
  fromSouth : Bool
  /-- queue whose turn it is, and the payload bytes it has sent in its turn (R344) -/
  turn : Nat
  turnBytes : Nat
  /-- a credit stall episode runs (R343) -/
  stalled : Bool
  /-- tick at which a broadcast LINK_RESET arrived (R349) -/
  resetAt : Option Nat
  /-- this hub sent PATH_LOST for its N port, for its S port (R342) -/
  lostN : Bool
  lostS : Bool
  deriving DecidableEq, Repr

/-- Leat after a reset that loses enumeration. -/
def Leat.reset : Leat := ⟨[], [], none, none, 0, false, false, 0, 0, false, none, false, false⟩

/-! ### SERVICE (chapter 15) -/

/-- What an open transaction waits for (R414 to R416). -/
inductive Xfer where
  /-- an upload: value, bytes sent, toggle and bytes of the last UPLOAD_DATA -/
  | upload (data : List Byte) (pos : Nat) (toggle : Bool) (seg : Option (List Byte))
  /-- a download: total length, bytes so far, toggle and bytes of the last accepted frame -/
  | download (total : Nat) (data : List Byte) (toggle : Bool) (seg : List Byte)
  /-- a domain transfer: total length, bytes so far, next expected segment, Last seen -/
  | domain (total : Nat) (data : List Byte) (next : Nat) (ended : Bool)
  /-- a request that is executing: its answer is still owed -/
  | executing
  deriving DecidableEq, Repr

/-- An open transaction. -/
structure Txn where
  xfer : Xfer
  idx : Nat
  sub : Nat
  /-- its request travels south -/
  south : Bool
  /-- the request whose answer is owed -/
  req : List Byte
  /-- island tick of the last request -/
  since : Nat
  deriving DecidableEq, Repr

/-- SERVICE. -/
structure Svc where
  /-- open transactions by transaction number (R416) -/
  txns : List (Nat × Txn)
  /-- last completed request and its final response by transaction number (R417) -/
  stored : List (Nat × List Byte × List Byte)
  deriving DecidableEq, Repr

/-- SERVICE after a reset that loses the stored responses. -/
def Svc.reset : Svc := ⟨[], []⟩
/-! ### Front ends, excitation and blanking (chapters 03 and 05) -/

/-- A channel's front end and its wire detectors. -/
structure Chan where
  /-- range that takes effect at the next conversion (R70) -/
  nextRange : Option Nat
  /-- consecutive samples below 20 % of full scale -/
  below : Nat
  /-- samples still to be replaced by the held value (R116) -/
  hold : Nat
  /-- code and tag of the last raw sample since the plan started that was not itself replaced -/
  held : Option (Int × Nat)
  /-- code and tag of the last conversion (R82) -/
  lastConv : Int × Nat
  /-- latest raw value of the plan run on the common scale (R126) -/
  lastRaw : Option Int
  /-- instants of the last performed and of the last clean check of the plan run (R125, R129) -/
  lastCheck : Option Int
  lastClean : Option Int
  /-- instant of the last conversion of the run that was no excursion (R129) -/
  lastCalm : Option Int
  /-- consecutive excursions (R128) and consecutive clean results (R133) -/
  excRun : Nat
  cleanRun : Nat
  /-- T_d of the open break (R130) -/
  broken : Option Int
  /-- IEPE faults (R64) -/
  iepeOpen : Bool
  iepeFolded : Bool
  deriving DecidableEq, Repr

/-- A front end at reset. What stands for the last conversion of a channel that has never converted is code 0 on range 0
(DESIGN CHOICE, log entry 14). -/
def Chan.reset : Chan := ⟨none, 0, 0, none, (0, 0), none, none, none, none, 0, 0, none, false, false⟩

/-- One excitation port. -/
structure XPort where
  on : Bool
  discharging : Bool
  dischargeFail : Bool
  currentLimit : Bool
  foldback : Bool
  senseFault : Bool
  /-- order in which the enabled ports came on (R77) -/
  order : Nat
  /-- excitation settle interval, start included and end excluded (R118) -/
  settleFrom : Int
  settleTo : Int
  /-- a port whose enable waits until its output reads below 0.5 V (R370) -/
  deferred : Bool
  /-- a port that stays off until the next Run command, after an entry to Idle with Idle excitation 1 (R459, R504) -/
  waitRun : Bool
  deriving DecidableEq, Repr

/-- A port that is off. -/
def XPort.reset : XPort := ⟨false, false, false, false, false, false, 0, 0, 0, false, false⟩

/-- A BLANK pin: asserted since, and the end of its hang time (R87). -/
structure Blank where
  asserted : Option Int
  hangEnd : Option Int
  deriving DecidableEq, Repr

/-- Raw record of Table 04-4. -/
structure Raw where
  chan : Nat
  entry : Nat
  phase : Bool
  held : Bool
  tag : Nat
  vcode : Nat
  gap : Bool
  /-- 18-bit code, or the count of missing conversions of a gap record -/
  code : Int
  stamp : Int
  /-- scheduled instant (R97), and whether the conversion was an excursion (R134) -/
  sched : Int
  exc : Bool
  /-- of a gap record: scheduled instants of the missed conversions, as the Intake region derives them (R149) -/
  lost : List Int
  deriving DecidableEq, Repr

/-- Conversions of a channel that found the raw buffer full (R112): instant of the first, and scheduled instants,
oldest first. -/
structure Missing where
  chan : Nat
  first : Int
  scheds : List Int
  deriving DecidableEq, Repr

/-- Where the multiplexer of a group stands (R98): the rotation entry it left, the one it goes to, and the instant at
which it switches. -/
structure Mux where
  last : Option Nat
  next : Option Nat
  at_ : Int
  deriving DecidableEq, Repr

/-- A multiplexer that has not moved. -/
def Mux.reset : Mux := ⟨none, none, 0⟩

/-- A converter group (chapter 04). -/
structure Group where
  /-- start instant of the rotation in progress, and index of the entry that comes next in it -/
  origin : Option Int
  entry : Nat
  /-- converter 2k + 1 has taken its conversion of the slot (R107) -/
  second : Bool
  /-- start instant of the next rotation -/
  nextStart : Option Int
  /-- rotations of the burst still to start (R104) -/
  burstLeft : Nat
  /-- the group's first rotation of the run, or of the burst, has not begun: its Millstones start then (R165) -/
  fresh : Bool
  /-- the next rotation to begin owes an anchor to a standby (R357) -/
  anchor : Bool
  stopping : Bool
  /-- raw buffer, at most 64 records, oldest first (R111) -/
  buf : List Raw
  /-- conversions not kept (R112) -/
  missing : List Missing
  mux : Mux
  /-- the trim of converter 2k + 1 taken for this plan (R109): the number of the free value that gives it -/
  trim : Option Nat
  deriving DecidableEq, Repr

/-- A group that is stopped. -/
def Group.reset : Group := ⟨none, 0, false, none, 0, false, false, false, [], [], Mux.reset, none⟩

/-- Sounding on one port die (chapter 05). -/
structure Tone where
  /-- channel being sounded -/
  chan : Option Nat
  /-- channels still to be sounded, ascending -/
  todo : List Nat
  /-- frequency in Hz, amplitude in 0.1 µA and hold periods of the tone that stands -/
  freq : Nat
  amp : Nat
  hold : Nat
  /-- island tick and instant at which it began, and periods that have ended -/
  startTick : Nat
  startAt : Int
  periods : Nat
  /-- period with whose beginning the hold phase begins; instant at which it began -/
  holdFrom : Nat
  holdAt : Option Int
  /-- period and instant at which the fall began -/
  fallFrom : Option Nat
  fallAt : Option Int
  /-- raw samples of the hold phase, and those left out (R137) -/
  samples : Nat
  leftOut : Nat
  /-- the wire was found open (R142); the channel's result will be CANCELLED (R141) -/
  broke : Bool
  cancelled : Bool
  /-- the tone voltage that is removed: the number of the free value that estimates the impedance, none before the
  first update -/
  estimate : Option Nat
  /-- channels of the sweep that runs, on both dies (R140) -/
  sweep : Nat
  deriving DecidableEq, Repr

/-- Sounding idle. -/
def Tone.reset : Tone where
  chan := none
  todo := []
  freq := 0
  amp := 0
  hold := 0
  startTick := 0
  startAt := 0
  periods := 0
  holdFrom := 0
  holdAt := none
  fallFrom := none
  fallAt := none
  samples := 0
  leftOut := 0
  broke := false
  cancelled := false
  estimate := none
  sweep := 0

/-! ### Millstones (chapter 06) -/

/-- Raw samples that contribute to a value: first and last index in the plan run, stamp of the last. -/
structure Span where
  lo : Nat
  hi : Nat
  last : Int
  deriving DecidableEq, Repr

/-- A Millstone word with its V-code, range tag and effective instant. -/
structure Sample where
  val : Int
  vcode : Nat
  tag : Nat
  inst : Int
  span : Span
  deriving DecidableEq, Repr

/-- A channel's Millstone (R144 to R168). Lists are newest first. -/
structure Mill where
  running : Bool
  /-- raw samples of the plan run, and the count at the last start -/
  raws : Nat
  startAt : Nat
  /-- common value, V-code and tag of the latest raw sample (R66, R67) -/
  latest : Option (Int × Nat × Nat)
  /-- the last raw sample as it was received (R149) -/
  lastRaw : Option Raw
  pre : List Sample
  integ : List Nat
  comb : List Nat
  cicIn : Nat
  /-- for V-code v and for tag 7: number of the last CIC input that carried it -/
  cicCodes : List (Nat × Nat)
  cicTag7 : Nat
  fir : List Sample
  firIn : Nat
  post : List Sample
  postIn : Nat
  /-- outputs at the three tap points since the start (R166) -/
  outRank : Nat
  outCic : Nat
  outFir : Nat
  /-- outputs at the tap after FIR that Align may use (R205, R208), newest first -/
  taps : List Sample
  /-- outputs that Align has taken in the plan run, and the effective instant of the second of them (R208) -/
  aligned : Nat
  second : Option Int
  /-- coefficients that a block write replaced, with the instant up to which they still hold (R174), oldest first -/
  coefOld : List (Int × List Nat)
  deriving DecidableEq, Repr

/-- A Millstone that is stopped. -/
def Mill.reset : Mill :=
  ⟨false, 0, 0, none, none, [], [], [], 0, [], 0, [], 0, [], 0, 0, 0, 0, [], 0, none, []⟩

/-! ### Sail (chapter 07) -/

/-- A stamped edge: island count in Sail LSBs, absolute stamp, polarity, WARMUP (R183, R185). -/
structure SailEdge where
  count : Int
  stamp : Int
  rising : Bool
  warm : Bool
  deriving DecidableEq, Repr

/-- A Sail input. -/
structure SailRun where
  queue : MarkQueue
  /-- edge sequence, and arming or window sequence, of the next record -/
  edgeSeq : Nat
  armSeq : Nat
  /-- rising edges since the prescaler's last output -/
  divided : Nat
  /-- island count, before Input delay, of the last stamped edge -/
  lastStamped : Option Int
  /-- an arming is open since an island tick; one that was refused waits for room (gate none) -/
  armed : Bool
  armDue : Bool
  openAt : Nat
  start : Option SailEdge
  /-- stops taken, oldest first -/
  stops : List SailEdge
  /-- instant at which the first window is due, and island tick at which the open one began -/
  winDue : Option Int
  winAt : Option Nat
  /-- first edge of the window, island count of the last edge that ends a period, and periods -/
  first : Option SailEdge
  last : Int
  periods : Nat
  /-- losses of the queue: position of the record that followed, and sequence of the one before -/
  lost : List (Nat × Nat)
  /-- a push was refused: sequence of the last record that was taken -/
  losing : Option Nat
  lastSeq : Nat
  /-- the second of the two interpolators is in use, and the first is the spare; island tick and temperature of the last
  calibration of the first and of the second (R184) -/
  secondInUse : Bool
  cal0 : Nat × Int
  cal1 : Nat × Int
  deriving DecidableEq, Repr

/-- A Sail that holds nothing. -/
def SailRun.reset : SailRun where
  queue := MarkQueue.empty
  edgeSeq := 0
  armSeq := 0
  divided := 0
  lastStamped := none
  armed := false
  armDue := false
  openAt := 0
  start := none
  stops := []
  winDue := none
  winAt := none
  first := none
  last := 0
  periods := 0
  lost := []
  losing := none
  lastSeq := 0
  secondInUse := false
  cal0 := (0, 0)
  cal1 := (0, 0)

/-! ### Angle grids (chapter 08) -/

/-- A point of an angle grid (R219, R221). -/
structure Point where
  rev : Nat
  angle : Nat
  inst : Int
  /-- index in its cycle -/
  index : Nat
  /-- its tooth taps lie on both sides of a step (R220) -/
  torn : Bool
  /-- reason of a Ledger event that goes with it: 40 and 41 ahead of the point; 36 to 39 in place of one, the fields
  being those of the last point produced; else 0 -/
  mark : Nat
  deriving DecidableEq, Repr

/-- The item a grid's streams get where it never produced a point before a loss of synchronisation. -/
def Point.none : Point := ⟨0, 0, 0, 0, false, 0⟩

/-- A tooth accepted (R213): its edge, its tooth position counted on since the grid began to search, missing positions
included, and whether a step of domain 0 fell since the tooth before it. -/
structure Tooth where
  edge : SailEdge
  at_ : Nat
  seam : Bool
  deriving DecidableEq, Repr

/-- An angle grid. -/
structure Grid where
  /-- teeth accepted, newest first -/
  teeth : List Tooth
  /-- revolutions whose tooth 0 is known, newest first: position of tooth 0, revolution count, cycle revolution -/
  revs : List (Nat × Nat × Nat)
  /-- SEARCHING: teeth accepted since the last reference; none before the first -/
  accepted : Option Nat
  /-- first and last reference edge since the last tooth 0 (reference kind 1), as island counts -/
  ref : Option (Int × Int)
  /-- a reference edge that fell between tooth Z − 2 and tooth Z − 1 -/
  early : Option Int
  /-- the next tooth is the tooth 0 of a revolution already counted at its reference edge -/
  entry : Bool
  /-- cam edge in this revolution, and in the one before -/
  cam : Bool
  camBefore : Bool
  /-- a phase flip waits for its revolution; position of the tooth 0 from which it holds, until its first point -/
  flip : Bool
  flipped : Option Nat
  /-- island count of the last tooth 0 -/
  revStart : Option Int
  /-- first tooth of the SYNCED run, and next position whose points are to be computed -/
  runFrom : Nat
  nextBase : Nat
  /-- the next point is the first of a SYNCED run; the run follows a loss; no SYNCED run yet since the Run -/
  firstPoint : Bool
  regain : Bool
  fromRun : Bool
  lastPoint : Option Point
  /-- island tick of the last accepted edge, or of the entry to SEARCHING -/
  idle : Nat
  /-- a step of domain 0 since the last tooth -/
  seam : Bool
  deriving DecidableEq, Repr

/-- A grid that has found no tooth since its Run. -/
def Grid.reset : Grid where
  teeth := []
  revs := []
  accepted := none
  ref := none
  early := none
  entry := false
  cam := false
  camBefore := false
  flip := false
  flipped := none
  revStart := none
  runFrom := 0
  nextBase := 0
  firstPoint := true
  regain := false
  fromRun := true
  lastPoint := none
  idle := 0
  seam := false

/-! ### Streams and Screed (chapters 09, 10 and 17) -/

/-- One output held by Screed. -/
structure Out where
  /-- Fixed24 word, binary32 pattern, or 128-bit record -/
  word : Nat
  /-- tag byte: V-code and range tag as in bits [7:0] of a Fixed24 word -/
  tag : Nat
  inst : Int
  /-- angle stamp of R221, or nothing -/
  angle : List Byte
  own : Span
  ref : Option Span
  deriving DecidableEq, Repr

/-- A block. -/
structure Block where
  first : Nat
  outs : List Out
  reason : Nat
  /-- 0960: closed under the wrap rule; resync block (R469, R476) -/
  wrap : Bool
  resync : Bool
  deriving DecidableEq, Repr

/-- An input of a stream's reduction window. -/
structure RIn where
  val : Int
  fp : Nat
  vcode : Nat
  tag : Nat
  inst : Int
  angle : List Byte
  own : Span
  ref : Option Span
  deriving DecidableEq, Repr

/-- A raw gap whose range of outputs is not yet known (R315, reason 42): the channel that lost conversions, the channel
whose raw samples `lo` to `hi` are touched by it (a 3-wire pair's other channel, R66), and whether further ones may
be. -/
structure GapTask where
  chan : Nat
  on : Nat
  more : Bool
  lo : Nat
  hi : Nat
  instA : Int
  instB : Int
  missing : Nat
  first : Nat
  count : Nat
  deriving DecidableEq, Repr

/-- A time step whose range of outputs is not yet known (R40, R315, reason 32). -/
structure StepTask where
  before : Int
  after : Int
  first : Nat
  count : Nat
  /-- no further gap filler can come -/
  done : Bool
  deriving DecidableEq, Repr

/-- A stream that takes part in the plan. -/
structure Stream where
  suspended : Bool
  /-- an output was produced in the run -/
  produced : Bool
  lastInst : Int
  /-- time grid: second and index of the next grid instant; none before the first. Angle grid: some value once the
  first point was placed -/
  grid : Option (Int × Nat)
  /-- points of the angle grid that wait for their Millstone outputs -/
  points : List Point
  /-- reduction window: inputs newest first -/
  win : List RIn
  openBlk : Option Block
  closed : List Block
  /-- instant of the last output of the last block closed (R274) -/
  closedTo : Option Int
  /-- outputs whose block's encoding has begun: sequence and last contributing stamps, own and reference (R132) -/
  fixed : List (Nat × Int × Int)
  /-- values held in committed blocks, for dependent streams: instant, value, first sequence and first instant of the
  block -/
  hist : List (Int × Int × Nat × Int)
  gapTasks : List GapTask
  stepTask : Option StepTask
  /-- a source-change marker or resync block is owed ahead of the first block from the new source: switchover instant,
  hub ID, first sequence (R369, R476) -/
  sourceChange : Option (Int × Nat × Nat)
  /-- the stop marker is owed after the last block: instant the plan state reached 0 (R315) -/
  stopAt : Option Int
  deriving DecidableEq, Repr

/-- A stream at the start of a run. -/
def Stream.reset : Stream :=
  ⟨false, false, 0, none, [], [], none, [], none, [], [], [], none, none, none⟩
/-! ### Twin operation (chapter 13) -/

/-- One raw sample that waits for its partner's (R368): entry, phase, stamp, common value, V-code and tag. -/
structure TwinSample where
  entry : Nat
  phase : Bool
  stamp : Int
  val : Int
  vcode : Nat
  tag : Nat
  deriving DecidableEq, Repr

/-- The comparison of a channel (R368). -/
structure TwinCmp where
  own : List TwinSample
  act : List TwinSample
  /-- kept pairs of the window, their sums and the widest range of the active -/
  count : Nat
  sumOwn : Int
  sumAct : Int
  widest : Nat
  /-- consecutive windows out of band, and in band -/
  outRun : Nat
  inRun : Nat
  deriving DecidableEq, Repr

/-- A comparison that holds nothing. -/
def TwinCmp.reset : TwinCmp := ⟨[], [], 0, 0, 0, 4, 0, 0⟩

/-- What a member knows of its pair beyond record 0x3600. -/
structure Twin where
  /-- role state, Twin status, product code and energy class of the partner's last heartbeat since the T port came UP, and
  whether the partner is in Idle -/
  partner : Option Nat
  partnerStatus : Nat
  product : Option Nat
  energy : Option Nat
  partnerIdle : Bool
  /-- tick at which the hub last started, from which the absence of heartbeats counts (R359) -/
  since : Nat
  /-- tick of the last heartbeat received, and of the last one sent -/
  heard : Option Nat
  sentAt : Option Nat
  /-- heartbeat sequence sent next -/
  hbSeq : Nat
  /-- silence since the last heartbeat was acted on -/
  silent : Bool
  /-- tick at which the wait of R354 ends -/
  roleWait : Option Nat
  /-- swap instant (R372) -/
  swapAt : Option Int
  /-- records of each queue that the standby confirmed: position of the next one -/
  confirmed : List (Nat × Nat)
  /-- pairing on the active: bytes to copy and copied, and whether PAIR_END was sent -/
  total : Nat
  copied : Nat
  ended : Bool
  /-- on a standby: bytes of a record that is being copied, by queue -/
  parts : List (Nat × List Byte)
  /-- anchors owed (R357): group and start instant of its rotation -/
  anchorDue : List (Nat × Int)
  /-- items that wait for a frame of the T port, each with the number of raw words and COPY commands that go ahead of
  it; raw words and COPY commands that wait, and how many were ever queued -/
  items : List (Nat × List Byte)
  words : List Nat
  copies : List (List Byte)
  ahead : Nat
  /-- on a pairing standby: queues whose record numbers a COPY command gave -/
  based : List Nat
  /-- on a standby: own raw records taken for comparison that the active's words have not reached yet (R369) -/
  kept : List Raw
  /-- the new active of a planned swap, which feeds the former active from the swap instant on (R372) -/
  swapped : Bool
  /-- on the former active of a planned swap: the swap instant -/
  seam : Option Int
  /-- on a standby, by group: latest anchor, rotation and entry of the last word, its scheduled instant -/
  anchors : List (Nat × Int)
  lastRot : List (Nat × Nat)
  lastEntry : List (Nat × Nat)
  lastWord : List (Nat × Int)
  /-- on a standby, by channel: conversions since the anchor -/
  convs : List (Nat × Nat)
  /-- an anchor word whose TIME96 words are still to come: group, and the first of them -/
  anchorIn : Option (Nat × Option Nat)
  /-- comparison by channel -/
  cmp : List (Nat × TwinCmp)
  deriving DecidableEq, Repr

/-- A hub that knows of no partner. -/
def Twin.reset : Twin where
  partner := none
  partnerStatus := 0
  product := none
  energy := none
  partnerIdle := false
  since := 0
  heard := none
  sentAt := none
  hbSeq := 0
  silent := false
  roleWait := none
  swapAt := none
  confirmed := []
  total := 0
  copied := 0
  ended := false
  parts := []
  anchorDue := []
  items := []
  words := []
  copies := []
  ahead := 0
  based := []
  kept := []
  swapped := false
  seam := none
  anchors := []
  lastRot := []
  lastEntry := []
  lastWord := []
  convs := []
  anchorIn := none
  cmp := []

/-! ### Safety functions and Scrim (chapter 14) -/

/-- A safety input: level last seen on each channel and the ticks for which it stood, the disagreement count, and the
transaction of an acknowledge that waits for the tick. -/
structure SafeIn where
  levelA : Bool
  ticksA : Nat
  levelB : Bool
  ticksB : Nat
  disagree : Nat
  ack : Option Nat
  deriving DecidableEq, Repr

/-- An input that was never sampled. -/
def SafeIn.reset : SafeIn := ⟨false, 0, false, 0, 0, none⟩

/-- A comparator: runs of R388, tick of the first of the invalid samples that follow one another, and tick of the last
sample. -/
structure CmpRun where
  beyond : Nat
  inside : Nat
  invalid : Option Nat
  last : Option Nat
  deriving DecidableEq, Repr

/-- A comparator at a start. -/
def CmpRun.reset : CmpRun := ⟨0, 0, none, none⟩

/-- A trip: safety tick at which each pin took its level, consecutive readback differences, the safety tick at which
a test pulse in progress began, the transaction of an acknowledge that waits for the tick, and parking (R460). -/
structure TripRun where
  sinceA : Nat
  sinceB : Nat
  diffA : Nat
  diffB : Nat
  pulseA : Option Nat
  pulseB : Option Nat
  ack : Option Nat
  parked : Bool
  deriving DecidableEq, Repr

/-- A trip at a start. -/
def TripRun.reset : TripRun := ⟨0, 0, 0, 0, none, none, none, false⟩

/-- A Scrim connection: sequence, tick and data of the last message sent; tick of the last accepted one, and the
reference of OPENING. -/
structure ScrimRun where
  seq : Nat
  sentAt : Option Nat
  sentData : List Byte
  lastAt : Option Nat
  reference : Option Nat
  deriving DecidableEq, Repr

/-- A connection that is closed. -/
def ScrimRun.reset : ScrimRun := ⟨0, none, [], none, none⟩

/-! ### Flash, long operations and power (chapters 15 and 16) -/

/-- One flash copy of an image: its generation and its content as entry records, key and value, in order (R450). -/
structure Image where
  gen : Nat
  entries : List (Nat × List Byte)
  deriving DecidableEq, Repr

/-- Flash and persistence. -/
structure Flash where
  /-- valid copies: 2 × image type, plus 1 for copy B -/
  copies : List (Nat × Image)
  /-- P entries written since the snapshot of the last completed PERSIST or since the start, rising (R425) -/
  dirty : List Nat
  /-- the snapshot of a running PERSIST: images by type -/
  snapshot : Option (List (Nat × List (Nat × List Byte)))
  /-- P entries written since that snapshot -/
  since : List Nat
  /-- bytes of Image staging (R415), and the image that IMAGE_INSTALL writes -/
  staged : Option (List Byte)
  install : Option (Nat × Image)
  /-- image type that IMAGE_TEST tests -/
  testing : Option Nat
  deriving DecidableEq, Repr

/-- Flash with no valid copy. -/
def Flash.reset : Flash := ⟨[], [], none, [], none, none, none⟩

/-- How far the hub is in its start (R443 to R447, R453, R461). -/
inductive Phase where
  /-- power-on reset: the island PLL is not locked -/
  | awaitPll
  /-- the Governor island runs; the rest of the start follows -/
  | awaitStart
  | up
  /-- RESET_N low, or a TAP instruction that holds the hub -/
  | held
  | dormant
  deriving DecidableEq, Repr

/-- A transition between power states in progress (R458). -/
inductive Transition where
  | none
  /-- groups complete their rotations on the way to Idle -/
  | toIdle
  /-- the same on the way to Still -/
  | toStill
  /-- a warm reset: twin-commanded or not (R454, R456) -/
  | warm (twin : Bool)
  /-- a Run command waits for PLAN_CHECK: its transaction -/
  | check (txn : Nat)
  /-- the plan start instant is fixed and awaited -/
  | start
  deriving DecidableEq, Repr

/-- Power, resets and the measurements of R446, R254. -/
structure Power where
  phase : Phase
  trans : Transition
  /-- requests that wait for the end of a warm reset (R454), and whether they are being taken -/
  deferred : List Instr
  replay : Bool
  /-- reset kind to be reported by the start that follows (Table 16-4) -/
  kind : Nat
  /-- consecutive measurements beyond, and within, the limits of R446 -/
  skewBad : Nat
  skewGood : Nat
  tempBad : Nat
  tempGood : Nat
  /-- consecutive margins below 100, and at 150 or more, by region (R255) -/
  lowRuns : List (Nat × Nat)
  highRuns : List (Nat × Nat)
  /-- a rail of port die A, of port die B, is out of range (R502) -/
  railA : Bool
  railB : Bool
  /-- a TAP instruction holds the hub (R501) -/
  tapHold : Bool
  /-- SEAL14 to SEAL12 changed since the start: the ports stay off until the next start (R80) -/
  classChanged : Bool
  deriving DecidableEq, Repr

/-- Power at power-on. -/
def Power.reset : Power := ⟨.awaitPll, .none, [], false, 1, 0, 0, 0, 0, [], [], false, false, false, false⟩

/-- Input pins, straps and the outputs that no entry shows (R489). -/
structure Pins where
  /-- ordering code OCF-5128-MB (R1) -/
  mb : Bool
  eqSel : Nat
  twinB : Bool
  chainEnd : Bool
  sealSw : Nat
  ocxoRdy : Bool
  ocxoClk : Bool
  resetN : Bool
  wakeN : Bool
  nSignal : Bool
  blank : Nat
  gate : Nat
  evt : Nat
  sia : Nat
  sib : Nat
  tfa : Nat
  tfb : Nat
  /-- outputs: TOA7 to TOA0, TOB7 to TOB0, TWRQ_N and the tick at which it rises again, PPS_OUT -/
  toa : Nat
  tob : Nat
  twrqN : Bool
  twrqEnd : Nat
  pps : Bool
  deriving DecidableEq, Repr

/-- Pins at reset (DESIGN CHOICE, log entry 3). -/
def Pins.reset : Pins :=
  ⟨false, 0, false, false, 0, true, true, true, true, false, 0, 0, 0, 0, 0, 0, 0, 0, 0, true, 0, false⟩

/-! ### The whole state -/

/-- No command faults: the spec answers every refused access with an abort code, reports every failure in an entry,
an event or a Ledger record, and names no condition that stops the hub. -/
inductive Fault where
  /-- never raised: the hub has no condition that stops it. Safe, because no claim can rest on it. -/
  | unreachable
  deriving DecidableEq, Repr

/-- Why a command has no outcome. -/
inductive Refusal where
  /-- raised by an arm of exec whose command has no meaning yet; safe: nothing can be proved of such a command -/
  | notModelled (mnemonic : String)
  deriving DecidableEq, Repr

/-- The hub. -/
structure State where
  /-- the object dictionary: key 256 × index + subindex, value as encoded; an unlisted entry reads its default -/
  dict : List (Nat × Nat)
  /-- entries that are byte strings: FIR taps, user tables, received Scrim data -/
  blobs : List (Nat × List Byte)
  gov : Gov
  chans : List (Nat × Chan)
  xports : List (Nat × XPort)
  /-- ports that came on so far, for the order of R77 -/
  orders : Nat
  blanks : List (Nat × Blank)
  /-- active scheduled windows: end instant -/
  windows : List (Nat × Int)
  groups : List (Nat × Group)
  /-- EVT inputs: instant at which a qualified pulse starts its bursts -/
  evtFire : List (Nat × Int)
  tones : List (Nat × Tone)
  mills : List (Nat × Mill)
  /-- readings of the port die sensors in binary32: die, instant, value, newest first -/
  dieTemps : List (Nat × Int × Nat)
  sails : List (Nat × SailRun)
  /-- the start calibration of R184 has completed -/
  sailCal : Bool
  grids : List (Nat × Grid)
  streams : List (Nat × Stream)
  hop : Hop
  leat : Leat
  svc : Svc
  twin : Twin
  inputs : List (Nat × SafeIn)
  cmps : List (Nat × CmpRun)
  trips : List (Nat × TripRun)
  scrims : List (Nat × ScrimRun)
  /-- the safety functions run, and their 10 µs ticks so far -/
  safeOn : Bool
  safeTicks : Nat
  log : MarkQueue
  flash : Flash
  power : Power
  pins : Pins
  /-- the model's own: number of free values taken so far (DESIGN CHOICE, log entry 4) -/
  freeCtr : Nat
  /-- the model's own: commands that wait, first in, first out -/
  pending : List Instr
  deriving DecidableEq, Repr

/-- The hub right after reset: power applied, the PLL not locked, every entry at the value the spec gives for it. Power
state (0x1200.02) reads 4 until the start has reached Idle (R447, R458). -/
def State.reset : State where
  dict := [(0x120002, 4)]
  blobs := []
  gov := Gov.reset
  chans := []
  xports := []
  orders := 0
  blanks := []
  windows := []
  groups := []
  evtFire := []
  tones := []
  mills := []
  dieTemps := []
  sails := []
  sailCal := false
  grids := []
  streams := []
  hop := Hop.reset 1
  leat := Leat.reset
  svc := Svc.reset
  twin := Twin.reset
  inputs := []
  cmps := []
  trips := []
  scrims := []
  safeOn := false
  safeTicks := 0
  log := MarkQueue.empty
  flash := Flash.reset
  power := Power.reset
  pins := Pins.reset
  freeCtr := 0
  pending := []

end Sys2Proof.Machine
end

