-- ==== Sys2Proof/Machine/Ops.lean ====
section
/-! DEFINITION. The operations that every family shares: the dictionary store, Governor time, tables of resources,
the event log and its queue, and the presence and power-state predicates. -/

namespace Sys2Proof.Machine

/-! ### The dictionary store -/

/-- The stored encoding of an entry. -/
def State.e (s : State) (idx sub : Nat) : Nat := Tbl.get (dictDefault (ekey idx sub)) s.dict (ekey idx sub)

/-- The stored value of a signed entry of `w` bits. -/
def State.eI (s : State) (w idx sub : Nat) : Int := signed w (s.e idx sub)

/-- Store an encoding. -/
def State.setE (s : State) (idx sub v : Nat) : State :=
  { s with dict := Tbl.set (dictDefault (ekey idx sub)) s.dict (ekey idx sub) v }

/-- Add to a counter that saturates at 0xFFFFFFFF. -/
def State.bump (s : State) (idx sub : Nat) (n : Nat := 1) : State := s.setE idx sub (sat32 (s.e idx sub + n))

/-- Add to a counter that wraps at `2^w`. -/
def State.wrapAdd (s : State) (w idx sub n : Nat) : State := s.setE idx sub ((s.e idx sub + n) % 2 ^ w)

/-- Set or clear a bit of an entry. -/
def State.flag (s : State) (idx sub i : Nat) (b : Bool) : State := s.setE idx sub (setBit (s.e idx sub) i b)

/-- A bit of an entry. -/
def State.flagged (s : State) (idx sub i : Nat) : Bool := bit (s.e idx sub) i

/-- The next free value's number. -/
def State.fresh (s : State) : State := { s with freeCtr := s.freeCtr + 1 }

/-! ### Tables of resources -/

/-- Converter group that serves a channel. -/
def grp (c : Nat) : Nat := c / 4

/-- A channel's front end. -/
def State.chan (s : State) (c : Nat) : Chan := Tbl.get Chan.reset s.chans c
/-- Replace a channel's front end. -/
def State.setChan (s : State) (c : Nat) (x : Chan) : State := { s with chans := Tbl.set Chan.reset s.chans c x }
/-- An excitation port. -/
def State.xport (s : State) (g : Nat) : XPort := Tbl.get XPort.reset s.xports g
/-- Replace an excitation port. -/
def State.setXport (s : State) (g : Nat) (x : XPort) : State := { s with xports := Tbl.set XPort.reset s.xports g x }
/-- A converter group. -/
def State.group (s : State) (g : Nat) : Group := Tbl.get Group.reset s.groups g
/-- Replace a group. -/
def State.setGroup (s : State) (g : Nat) (x : Group) : State := { s with groups := Tbl.set Group.reset s.groups g x }
/-- A channel's Millstone. -/
def State.mill (s : State) (c : Nat) : Mill := Tbl.get Mill.reset s.mills c
/-- Replace a channel's Millstone. -/
def State.setMill (s : State) (c : Nat) (x : Mill) : State := { s with mills := Tbl.set Mill.reset s.mills c x }
/-- An angle grid. -/
def State.grid (s : State) (a : Nat) : Grid := Tbl.get Grid.reset s.grids a
/-- Replace an angle grid. -/
def State.setGrid (s : State) (a : Nat) (x : Grid) : State := { s with grids := Tbl.set Grid.reset s.grids a x }
/-- A stream of the plan. -/
def State.stream (s : State) (n : Nat) : Stream := Tbl.get Stream.reset s.streams n
/-- Replace a stream; a stream of the plan stays listed. -/
def State.setStream (s : State) (n : Nat) (x : Stream) : State := { s with streams := Tbl.put s.streams n x }
/-- A Hopper queue. -/
def State.hq (s : State) (q : Nat) : HQueue := Tbl.get HQueue.reset s.hop.queues q
/-- Replace a Hopper queue. -/
def State.setHq (s : State) (q : Nat) (x : HQueue) : State :=
  { s with hop := { s.hop with queues := Tbl.set HQueue.reset s.hop.queues q x } }
/-- A Leat port. -/
def State.port (s : State) (p : Nat) : LPort := Tbl.get LPort.reset s.leat.ports p
/-- Replace a Leat port. -/
def State.setPort (s : State) (p : Nat) (x : LPort) : State :=
  { s with leat := { s.leat with ports := Tbl.set LPort.reset s.leat.ports p x } }
/-- A time domain. -/
def State.dom (s : State) (d : Nat) : Dom := Tbl.get Dom.reset s.gov.doms d
/-- Replace a time domain. -/
def State.setDom (s : State) (d : Nat) (x : Dom) : State :=
  { s with gov := { s.gov with doms := Tbl.set Dom.reset s.gov.doms d x } }

/-! ### Governor time (R31, R32) -/

/-- Increment of a domain, in 2^-48 ns. -/
def State.inc (s : State) (d : Nat) : Nat := s.e (0x2301 + d) 3

/-- A domain's time with its full fraction, in 2^-48 ns. -/
def State.fine (s : State) (d : Nat) : Int :=
  let x := s.dom d
  if s.e 0x2300 1 = 1 then
    ((s.gov.ticks * incNominal : Nat) : Int) + x.offset
      + ((s.inc d : Int) - (incNominal : Int)) * ((s.gov.ticks : Int) - (x.atTick : Int))
  else x.counter

/-- A domain's time in fraction units, truncated (R31). -/
def State.time (s : State) (d : Nat) : Int := s.fine d / (finePerFu : Int)

/-- Domain 0 time. -/
def State.now (s : State) : Int := s.time 0

/-- A stamp taken `dly` fraction units of island time after the present tick (R44). -/
def State.stampAt (s : State) (d dly : Nat) : Int :=
  (s.fine d + ((s.inc d * dly / fuTick : Nat) : Int)) / (finePerFu : Int)

/-- Give a domain a new time with its full fraction, its increment staying in force. -/
def State.setFine (s : State) (d : Nat) (t : Int) : State :=
  let x := s.dom d
  if s.e 0x2300 1 = 1 then
    s.setDom d { x with offset := t - ((s.gov.ticks * incNominal : Nat) : Int), atTick := s.gov.ticks }
  else s.setDom d { x with counter := t }

/-- R32: write an increment, folding the old rate into the offset first so that time stays continuous. -/
def State.setInc (s : State) (d v : Nat) : State :=
  let t := s.fine d
  (s.setE (0x2301 + d) 3 v).setFine d t

/-- TIME96 of domain 0 now. -/
def State.stamp (s : State) : Nat := toTime96 s.now

/-- Island ticks in `n` microseconds. -/
def tickUs (n : Nat) : Nat := n * 400

/-! ### Queues with marks (R197, R437) -/

/-- The position before which popped records are not held: the lower of the oldest mark and the kept position. -/
def MarkQueue.holdPoint (q : MarkQueue) : Option Nat :=
  q.marks.foldl (fun a m => some (match a with | none => m.2 | some x => min x m.2)) q.kept

/-- Lapse the kept position where nothing holds it, then free what is not held. -/
def MarkQueue.tidy (q : MarkQueue) : MarkQueue :=
  let q := match q.kept with
    | some k => if q.marks = [] ∧ q.read ≤ k then { q with kept := none } else q
    | none => q
  let keep := match q.holdPoint with
    | some h => min h q.read
    | none => q.read
  { q with items := q.items.drop (keep - q.base), base := max q.base keep }

/-- Entries not yet popped. -/
def MarkQueue.depth (q : MarkQueue) : Nat := q.base + q.items.length - q.read

/-- Depth plus entries popped but still held. -/
def MarkQueue.occupancy (q : MarkQueue) : Nat := q.items.length

/-- The queue is full (R197). -/
def MarkQueue.full (q : MarkQueue) : Bool := decide (q.items.length ≥ 1024)

/-- A push that the queue takes or refuses. -/
def MarkQueue.push (q : MarkQueue) (r : List Byte) : MarkQueue :=
  if q.full then { q with refused := true } else { q with items := q.items ++ [r] }

/-- A pop: the record followed by the 32-bit status of R197. -/
def MarkQueue.pop (q : MarkQueue) (size : Nat) : List Byte × MarkQueue :=
  match q.items[q.read - q.base]? with
  | some r =>
    let q' := { q with read := q.read + 1, last := some r, refused := false }.tidy
    (r ++ toBytes 4 ((if q.refused then 2 else 0) + 4 * q'.depth), q')
  | none =>
    (q.last.getD (zeros size) ++ toBytes 4 (1 + (if q.refused then 2 else 0)), { q with refused := false })

/-- Set or move a mark at the read position. -/
def MarkQueue.mark (q : MarkQueue) (n : Nat) : MarkQueue := { q with marks := Tbl.put q.marks n q.read }.tidy

/-- The position of a mark. -/
def MarkQueue.markAt (q : MarkQueue) (n : Nat) : Option Nat := q.marks.lookup n

/-- Move the read position to a mark that is set. -/
def MarkQueue.rewind (q : MarkQueue) (pos : Nat) : MarkQueue := { q with read := pos }

/-- Free the held entries before a mark and remove every mark at or before it. -/
def MarkQueue.release (q : MarkQueue) (pos : Nat) : MarkQueue :=
  { q with marks := q.marks.filter (fun m => decide (m.2 > pos)), kept := some pos }.tidy

/-! ### The event log (R435 to R437) -/

/-- Push an event of Table 15-13 unless it lies below Minimum severity. -/
def State.event (s : State) (sev code : Nat) (detail : List Byte) : State :=
  if sev < s.e 0x1600 9 then s
  else
    let n := s.e 0x1600 8
    let s := s.setE 0x1600 8 (wrap32 (n + 1))
    let r := toBytes 4 n ++ toBytes 1 sev ++ [0] ++ toBytes 2 code ++ toBytes 12 s.stamp ++
      (detail ++ zeros (12 - detail.length)).take 12
    let s := if s.log.full then s.bump 0x1600 7 else s
    { s with log := s.log.push r }

/-! ### Presence and power state -/

/-- Number of port dies' channels, groups and Millstones that are fitted (R1, R2). -/
def State.groupCount (s : State) : Nat := if s.pins.mb then 64 else 128

/-- A channel is present. -/
def State.chanPresent (s : State) (c : Nat) : Bool := decide (c < 4 * s.groupCount)

/-- Power state of Table 16-5; 4 in transition. -/
def State.powerState (s : State) : Nat := s.e 0x1200 2

/-- The plan runs or is stopping (0x2790.01). -/
def State.planState (s : State) : Nat := s.e 0x2790 1

/-- The management controller runs and answers. -/
def State.isUp (s : State) : Bool := decide (s.power.phase = .up)

/-- Ladder role state (0x3600.01, Table 13-1). -/
def State.role (s : State) : Nat := s.e 0x3600 1

/-- An energy class fault or seal: sealed while SEAL15 is closed (R397). -/
def State.sealed (s : State) : Bool := bit (s.e 0x3810 1) 15

end Sys2Proof.Machine
end

