-- ==== Sys2Proof/Machine/Operands.lean ====
section
/-! DEFINITION. Settings as the stages read them from the dictionary: rotations and raw rates (R92, R161), the ratios,
delays and warm-up counts of a Millstone (R155 to R166), and what a stream descriptor fixes (R229 to R241). -/

namespace Sys2Proof.Machine

/-! ### Groups -/

/-- Rotation length. -/
def State.rotLen (s : State) (g : Nat) : Nat := s.e (0x2700 + g) 1
/-- Rotation period Np. -/
def State.np (s : State) (g : Nat) : Nat := s.e (0x2700 + g) 2
/-- Trigger: 0 timer, 1 to 4 EVT0 to EVT3. -/
def State.trigger (s : State) (g : Nat) : Nat := s.e (0x2700 + g) 3
/-- Interleave is set on the group. -/
def State.interleaved (s : State) (g : Nat) : Bool := decide (s.e (0x2700 + g) 5 = 1)
/-- The entries of a rotation (Table 04-1). -/
def State.entries (s : State) (g : Nat) : List Nat := (List.range (s.rotLen g)).map (fun i => s.e (0x2700 + g) (0x11 + i))

/-- Kind of an entry: 0 channel, 1 settle, 2 check. -/
def entryKind (w : Nat) : Nat := field w 14 2
/-- Channel of a channel or check entry. -/
def entryChan (g w : Nat) : Nat := 4 * g + field w 0 2
/-- Length of an entry in slots. -/
def entryLen (w : Nat) : Nat := if entryKind w = 1 then field w 0 8 else 1

/-- Slots before entry `i`: L_i of R97. -/
def slotsBefore (es : List Nat) (i : Nat) : Nat := sumNat ((es.take i).map entryLen)

/-- Channel entries that name a channel. -/
def State.entriesOf (s : State) (c : Nat) : Nat :=
  ((s.entries (grp c)).filter (fun w => entryKind w = 0 ∧ entryChan (grp c) w = c)).length

/-- The channel is converted by the plan (Table 09-5). -/
def State.converted (s : State) (c : Nat) : Bool := decide (0 < s.entriesOf c)

/-- Fraction units in a slot of 200 ns. -/
def slotFu : Nat := fuSlot

/-- R162: the nominal raw period T of a channel as numerator and denominator, in fraction units. -/
def State.rawPeriod (s : State) (c : Nat) : Nat × Nat :=
  if s.interleaved (grp c) && s.converted c then (slotFu / 2, 1) else (s.np (grp c) * slotFu, max 1 (s.entriesOf c))

/-- R161: raw rate in S/s as numerator and denominator; of an interleaved pair only the channel that its entry names
has one (R107). -/
def State.rawRate (s : State) (c : Nat) : Nat × Nat :=
  if s.interleaved (grp c) && s.converted c then (10000000, 1) else (s.entriesOf c * 5000000, max 1 (s.np (grp c)))

/-! ### Millstones -/

/-- h_pre (R152). -/
def State.hPre (s : State) (c : Nat) : Nat := (s.e (0x2800 + c) 1 - 1) / 2
/-- CIC order N′, 0 when bypassed: order 0 or ratio 1 (R155). -/
def State.cicN (s : State) (c : Nat) : Nat := if s.e (0x2800 + c) 3 = 1 then 0 else s.e (0x2800 + c) 2
/-- CIC ratio R_c, 1 when bypassed (R161). -/
def State.cicR (s : State) (c : Nat) : Nat := if s.cicN c = 0 then 1 else s.e (0x2800 + c) 3
/-- FIR set, 0xFF off. -/
def State.firSet (s : State) (c : Nat) : Nat := s.e (0x2800 + c) 4
/-- The taps of a FIR set, h[0] first (R157). -/
def State.taps (s : State) (k : Nat) : List Int :=
  let b := Tbl.get [] s.blobs (ekey (0x2C00 + k) 1)
  (List.range (b.length / 3)).map (fun i => signed 24 (ofBytes ((b.drop (3 * i)).take 3)))
/-- FIR tap count L′, 0 when the FIR is off. -/
def State.firL (s : State) (c : Nat) : Nat := if s.firSet c = 0xFF then 0 else s.e (0x2C00 + s.firSet c) 2
/-- FIR ratio R_f, 1 with the FIR off. -/
def State.firR (s : State) (c : Nat) : Nat := if s.firSet c = 0xFF then 1 else s.e (0x2800 + c) 5
/-- h_post (R152). -/
def State.hPost (s : State) (c : Nat) : Nat := (s.e (0x2800 + c) 6 - 1) / 2

/-- Twice the group delay of Table 06-3, in raw periods, at tap point 0, 1 or 2. -/
def State.delay2 (s : State) (c tap : Nat) : Nat :=
  let d0 := 2 * s.hPre c
  let d1 := d0 + s.cicN c * (s.cicR c - 1)
  if tap = 0 then d0
  else if tap = 1 then d1
  else d1 + s.cicR c * (s.firL c - 1) + 2 * s.cicR c * s.firR c * s.hPost c

/-- Warm-up count of Table 06-3. -/
def State.warmup (s : State) (c tap : Nat) : Nat :=
  if tap = 0 then 0
  else if tap = 1 then s.cicN c
  else s.cicN c + ceilDiv (s.firL c) (s.firR c) + s.hPost c

/-- R162: effective instant of an output completed by the raw sample with the given stamp. -/
def State.effective (s : State) (c tap : Nat) (stamp : Int) : Int :=
  let t := s.rawPeriod c
  let den := 2 * t.2
  rne (stamp * (den : Int) - ((s.delay2 c tap * t.1 : Nat) : Int)) den

/-- Ratio up to a tap point. -/
def State.ratio (s : State) (c tap : Nat) : Nat :=
  if tap = 0 then 1 else if tap = 1 then s.cicR c else s.cicR c * s.firR c

/-- Rate at a tap point in S/s, as numerator and denominator (R146, R161). -/
def State.tapRate (s : State) (c tap : Nat) : Nat × Nat :=
  let r := s.rawRate c
  (r.1, r.2 * s.ratio c tap)

/-! ### Streams -/

/-- Base index of a stream descriptor. -/
def strm (n : Nat) : Nat := 0x4000 + n

/-- Source kind: 0 channel, 1 Sail, 2 angle grid. -/
def State.srcKind (s : State) (n : Nat) : Nat := s.e (strm n) 2
/-- Source number. -/
def State.src (s : State) (n : Nat) : Nat := s.e (strm n) 3
/-- Tap point. -/
def State.tap (s : State) (n : Nat) : Nat := s.e (strm n) 4
/-- Grid: 0 to 3 angle grid, 0xFF time grid. -/
def State.gridOf (s : State) (n : Nat) : Nat := s.e (strm n) 5
/-- Rate F. -/
def State.rate (s : State) (n : Nat) : Nat := s.e (strm n) 6
/-- Reduction. -/
def State.red (s : State) (n : Nat) : Nat := s.e (strm n) 7
/-- Reduction window, 1 without a reduction. -/
def State.window (s : State) (n : Nat) : Nat := if s.red n = 0 then 1 else s.e (strm n) 8
/-- Format: 0 Fixed24, 1 Float32, 2 Record128. -/
def State.format (s : State) (n : Nat) : Nat := s.e (strm n) 10
/-- Weir group: the stream's Hopper queue (R298). -/
def State.weir (s : State) (n : Nat) : Nat := s.e (strm n) 0x10
/-- Class Y. -/
def State.classY (s : State) (n : Nat) : Bool := decide (s.e (strm n) 15 = 1)
/-- Legacy: 0960 Block Mode. -/
def State.legacy (s : State) (n : Nat) : Bool := decide (s.e (strm n) 0x11 = 1)
/-- The stream takes outputs of Align. -/
def State.aligned (s : State) (n : Nat) : Bool := decide (s.srcKind n = 0 ∧ 3 ≤ s.tap n)
/-- The stream is placed on an angle grid, or is the grid's speed: its outputs carry angle stamps. -/
def State.onAngle (s : State) (n : Nat) : Bool := decide (s.srcKind n = 2 ∨ (3 ≤ s.tap n ∧ s.srcKind n = 0 ∧ s.gridOf n < 4))
/-- The stream is on the time grid. -/
def State.onTime (s : State) (n : Nat) : Bool := s.aligned n && decide (s.gridOf n = 0xFF)
/-- The descriptor is enabled. -/
def State.enabled (s : State) (n : Nat) : Bool := decide (s.e (strm n) 1 = 2)
/-- Descriptors not in state 0: every one is listed in the store, since state 0 is the default. -/
def State.defined (s : State) : List Nat :=
  (s.dict.filter (fun p => decide (p.1 % 256 = 1 ∧ 0x4000 ≤ p.1 / 256))).map (fun p => p.1 / 256 - 0x4000)
/-- Enabled descriptors, in stream order. -/
def State.enabledStreams (s : State) : List Nat := s.defined.filter s.enabled

/-- Temperature reference channel of a channel, if it names one (R172). -/
def State.refChan (s : State) (c : Nat) : Option Nat :=
  if s.e (0x2800 + c) 11 < 512 then some (s.e (0x2800 + c) 11) else none

/-- Nominal output period of a stream at a Millstone tap, in fraction units, rounded (R263). -/
def State.nominal (s : State) (n : Nat) : Nat :=
  let t := s.rawPeriod (s.src n)
  (rne ((t.1 * s.ratio (s.src n) (s.tap n) * s.window n : Nat) : Int) t.2).toNat

/-- Raw size of a block of `n` outputs with or without angle stamps (R267), or of a 0960 block (R475). -/
def rawSize (fmt n : Nat) (angle : Bool) : Nat :=
  let b := 48 + n * (if fmt = 2 then 16 else if fmt = 1 then 5 else 4) + (if angle then 20 * n else 0)
  8 * ceilDiv b 8
/-- R475. -/
def rawSize0960 (n : Nat) : Nat := 8 * ceilDiv (48 + 2 * n) 8

end Sys2Proof.Machine
end

