-- ==== Sys2Proof/Machine/Ledger.lean ====
section
/-! DEFINITION. The Hopper's space and queues, the Ledger's markers, events and gaps, yielding and resuming
(chapter 11). -/

namespace Sys2Proof.Machine

/-! ### Space (R295, R296, R305) -/

/-- Size of the record area. -/
def areaSize : Nat := 67108864
/-- Size of the marker reserve. -/
def reserveSize : Nat := 262144
/-- Entries of the record directory. -/
def directorySize : Nat := 1048576

/-- Records held in every queue. -/
def Hop.held (h : Hop) : List Rec := h.queues.flatMap (fun p => p.2.recs)

/-- Bytes of the record area held or reserved. -/
def Hop.usedArea (h : Hop) : Nat :=
  sumNat ((h.held.filter (fun r => !r.inReserve)).map Rec.space)
    + sumNat ((h.waiting.filter Waiting.granted).map (fun w => w.body.space)) + h.grant

/-- Bytes of the marker reserve held. -/
def Hop.usedReserve (h : Hop) : Nat := sumNat ((h.held.filter Rec.inReserve).map Rec.space)

/-- Directory entries held or reserved. -/
def Hop.usedEntries (h : Hop) : Nat :=
  h.held.length + (h.waiting.filter Waiting.granted).length + if 0 < h.grant then 1 else 0

/-- Free space of R305. -/
def Hop.free (h : Hop) : Nat := areaSize - h.usedArea
/-- Free bytes of the marker reserve. -/
def Hop.freeReserve (h : Hop) : Nat := reserveSize - h.usedReserve
/-- Free directory entries. -/
def Hop.freeEntries (h : Hop) : Nat := directorySize - h.usedEntries

/-- Ledger events that wait (0x3400.0D). -/
def Hop.eventsWaiting (h : Hop) : Nat := (h.waiting.filter (fun w => decide (w.body.kind = 0x14))).length

/-- Does any record, or a restart marker, wait? -/
def Hop.blocked (h : Hop) : Bool := !h.waiting.isEmpty || h.restartDue.isSome

/-- R295: the 64-bit words in which a string of bytes is stored, each with its check bits. -/
def storedWords (b : List Byte) : List (BitVec 64 × BitVec 8) :=
  (List.range (ceilDiv b.length 8)).map (fun i =>
    let w := BitVec.ofNat 64 (ofBytes (((b.drop (8 * i)).take 8 ++ zeros 8).take 8))
    (w, Config.checkBits w))

/-- R295: the bank of the record area that an address lies in. -/
def bankOf (addr : Nat) : Nat := addr / 4194304

/-! ### Positions of a queue (R300) -/

/-- Commit point. -/
def HQueue.commit (q : HQueue) : Nat := q.release + q.recs.length
/-- Depth. -/
def HQueue.depth (q : HQueue) : Nat := q.commit - q.read
/-- Occupied bytes. -/
def HQueue.bytes (q : HQueue) : Nat := sumNat (q.recs.map Rec.space)
/-- The record at a position. -/
def HQueue.at? (q : HQueue) (pos : Nat) : Option Rec := if pos < q.release then none else q.recs[pos - q.release]?
/-- The position nearest above the release point that a 32-bit record number names. -/
def HQueue.position (q : HQueue) (r : Nat) : Nat := q.release + (r + 2 ^ 32 - q.release % 2 ^ 32) % 2 ^ 32

/-- The member is a standby: it neither writes markers and events of its own nor commits what no item names (R366,
R373). -/
def State.listening (s : State) : Bool := decide (1 ≤ s.role ∧ s.role ≤ 3)

/-- The member feeds a ready standby: it is ACTIVE_PAIRED, or the new active of a planned swap (R356, R372). -/
def State.feeds (s : State) : Bool := decide (s.role = 4 ∨ (s.role = 5 ∧ s.twin.swapped))

/-- TWIN_PAIR runs on this member. -/
def State.pairing (s : State) : Bool := decide (s.role = 5 ∧ s.e 0x1440 2 = 1)

/-- The member mirrors what it commits to its twin (R363, R366). -/
def State.mirrors (s : State) : Bool := s.feeds || s.pairing

/-- Table 13-3: an item for the twin: code, total length, content. -/
def twinItem (code len : Nat) (b : List Byte) : List Byte := toBytes 1 code ++ toBytes 1 len ++ b

/-- Queue an item for the T port. -/
def State.sendItem (s : State) (b : List Byte) : State :=
  { s with twin := { s.twin with items := s.twin.items ++ [(0, b)] } }

/-- Queue an item that must not overtake the raw words and COPY commands queued before it, so that the standby finds the
outputs and records that it speaks of (DEDUCED, log entry 41). -/
def State.sendBehind (s : State) (b : List Byte) : State :=
  { s with twin := { s.twin with items := s.twin.items ++ [(s.twin.ahead, b)] } }

/-- COPY commands of a record, 1,008 bytes each (R360, R363). -/
def copyCommands (q num : Nat) : Nat → Nat → List Byte → List (List Byte)
  | 0, _, _ => []
  | k + 1, off, b =>
    if b = [] then []
    else (toBytes 1 q ++ zeros 1 ++ toBytes 4 num ++ toBytes 2 off ++ b.take 1008) :: copyCommands q num k (off + 1008) (b.drop 1008)

/-- R363: the bytes of a record of a queue go in COPY commands. -/
def State.copyRec (s : State) (q num : Nat) (r : Rec) : State :=
  let cs := copyCommands q num (r.bytes.length / 1008 + 1) 0 r.bytes
  { s with twin := { s.twin with copies := s.twin.copies ++ cs, ahead := s.twin.ahead + cs.length } }

/-- R366: the COMMIT or RECORD item of a record. -/
def Rec.item (r : Rec) (q num : Nat) (paired : Bool) : List Byte :=
  if r.kind ≤ 2 then
    twinItem 2 16 (toBytes 1 q ++ toBytes 1 r.kind ++ toBytes 2 r.bytes.length ++ toBytes 4 num ++
      (if paired then r.bytes.drop (r.bytes.length - 4) else zeros 4) ++ zeros 2)
  else twinItem 4 (4 + r.bytes.length) (toBytes 1 q ++ zeros 1 ++ r.bytes)

/-- R366: the DROP item of a block. -/
def State.sendDrop (s : State) (n : Nat) (b : Block) : State :=
  if s.mirrors then s.sendBehind (twinItem 6 12 (zeros 2 ++ toBytes 2 n ++ toBytes 4 b.first ++ zeros 2)) else s

/-- R363, R366: what the twin is told of a commit; while TWIN_PAIR runs, the bytes of a block follow its COMMIT. -/
def State.tellCommit (s : State) (q num : Nat) (r : Rec) : State :=
  if s.mirrors then
    let t := s.sendBehind (r.item q num s.feeds)
    if !s.feeds && decide (r.kind ≤ 2) then t.copyRec q num r else t
  else s

/-- Commit a record: it takes the next record number of its queue; a block counts in 0x3300.03, .07 and .08. -/
def State.commitRec (s : State) (q : Nat) (r : Rec) : State :=
  let h := s.hq q
  let s := s.tellCommit q (wrap32 h.commit) r
  let s := s.setHq q { h with recs := h.recs ++ [{ r with addr := (Config.recordAddress q h.commit).toNat }] }
  if r.kind ≤ 2 then ((s.wrapAdd 32 0x3300 3 1).wrapAdd 64 0x3300 7 r.raw).wrapAdd 64 0x3300 8 r.bytes.length else s

/-- R307: write a marker or event into the record area, else into the reserve. -/
def State.place (s : State) (q : Nat) (r : Rec) : Option State :=
  if s.hop.freeEntries = 0 then none
  else if r.space ≤ s.hop.free then some (s.commitRec q { r with inReserve := false })
  else if r.space ≤ s.hop.freeReserve then some (s.commitRec q { r with inReserve := true })
  else none

/-! ### Markers and events (R314, R315) -/

/-- Content of a marker or Ledger event. -/
structure Led where
  kind : Nat
  stream : Option Nat
  reason : Nat
  flags : Nat
  detailA : Nat
  first : Nat
  count : Nat
  instA : Int
  instB : Int
  detailB : List Byte
  deriving DecidableEq, Repr

/-- A marker or event of a stream, with no flags and no details. -/
def Led.of (kind n reason first count : Nat) (instA instB : Int) : Led :=
  ⟨kind, some n, reason, 0, 0, first, count, instA, instB, []⟩

/-- Table 11-4: the bytes of a marker or event of queue `q`. -/
def Led.bytes (m : Led) (q : Nat) : List Byte :=
  let room := if m.kind = 0x14 then 20 else 4
  let body := toBytes 1 m.kind ++ toBytes 1 (0x10 + (if m.stream.isNone then 8 else 0) + q) ++
    toBytes 2 (m.stream.getD 0) ++ toBytes 1 m.reason ++ toBytes 1 m.flags ++ toBytes 2 m.detailA ++
    toBytes 4 m.first ++ toBytes 4 m.count ++ toBytes 12 (toTime96 m.instA) ++ toBytes 12 (toTime96 m.instB) ++
    (m.detailB ++ zeros room).take room
  body ++ toBytes 4 (crc32C body)

/-- The record that a marker or event becomes. -/
def Led.record (m : Led) (q : Nat) : Rec :=
  Rec.of m.kind (m.bytes q) (if m.kind = 0x14 then 64 else 48) m.stream m.first m.count m.instA m.instB [] 0

/-- Put a record at the end of the waiting records. -/
def State.wait (s : State) (q : Nat) (granted : Bool) (r : Rec) : State :=
  { s with hop := { s.hop with waiting := s.hop.waiting ++ [⟨q, granted, r⟩] } }

/-- R307, R308: a record without a reservation is written, behind every record that waits. -/
def State.enterRec (s : State) (q : Nat) (r : Rec) : State :=
  if s.hop.blocked then s.wait q false r
  else match s.place q r with
    | some s' => s'
    | none => s.wait q false r

/-- R366, R373: a standby writes no marker or event of its own. -/
def State.enter (s : State) (q : Nat) (m : Led) : State := if s.listening then s else s.enterRec q (m.record q)

/-- R309: one Ledger event was lost. -/
def State.loseEvent (s : State) : State :=
  let l := match s.hop.lost with
    | none => (1, s.now, s.now)
    | some (n, a, _) => (n + 1, a, s.now)
  ({ s with hop := { s.hop with lost := some l, lostFlag := true } }.bump 0x3400 0x0C).flag 0x3400 0x0A 4 true

/-- R309: an event is written; the first one after a loss carries EVENTS_LOST_BEFORE. -/
def State.enterEvent (s : State) (q : Nat) (m : Led) : State :=
  { s with hop := { s.hop with lostFlag := false } }.enter q (if s.hop.lostFlag then { m with flags := m.flags + 8 } else m)

/-- R309: the event of reason 44 that tells of the losses, once an event place is free for it. -/
def State.reportLost (s : State) : State :=
  match s.hop.lost with
  | none => s
  | some (n, a, b) =>
    if s.hop.eventsWaiting ≥ 4096 then s
    else { s with hop := { s.hop with lost := none } }.enterEvent 0
      ⟨0x14, none, 44, 0, 0, 0, 0, a, b, toBytes 4 (sat32 n)⟩

/-- R308: write waiting records in the order in which they arose, until one finds no room. -/
def State.flushBy : Nat → State → State
  | 0, s => s
  | k + 1, s =>
    if s.hop.restartDue.isSome then s
    else match s.hop.waiting with
    | [] => s
    | w :: ws =>
      let s' := { s with hop := { s.hop with waiting := ws } }
      if w.granted then State.flushBy k (s'.commitRec w.queue w.body)
      else match s'.place w.queue w.body with
        | some s'' => State.flushBy k s''
        | none => s

/-- Write what can be written of the waiting records; an event place that comes free is the report's of R309. -/
def State.flush (s : State) : State := (State.flushBy s.hop.waiting.length s).reportLost

/-! ### Gaps (R306, R307) -/

/-- R315: a Sail source has no instants. -/
def State.ledInst (s : State) (n : Nat) (i : Int) : Int := if s.srcKind n = 1 then 0 else i

/-- The gap marker of a gap. -/
def Gap.marker (g : Gap) (s : State) (n flags : Nat) : Led :=
  { Led.of 0x10 n g.reason g.first g.count (s.ledInst n g.instA) (s.ledInst n g.instB) with flags := flags }

/-- End an open gap of a stream: its marker is written. -/
def State.endGap (s : State) (n : Nat) : State :=
  match s.hop.gaps.lookup n with
  | none => s
  | some g =>
    { s with hop := { s.hop with gaps := Tbl.drop s.hop.gaps n } }.enter (s.weir n) (g.marker s n 0)

/-- Extend the stream's gap of a reason by one output, or open one; a gap of 0xFFFFFFFF outputs is cut there (R307). -/
def State.growGap (s : State) (n reason seq : Nat) (inst : Int) : State :=
  let fresh := Gap.mk reason seq 1 inst inst
  match s.hop.gaps.lookup n with
  | none => { s with hop := { s.hop with gaps := Tbl.put s.hop.gaps n fresh } }
  | some g =>
    if g.reason = reason then
      if g.count < 0xFFFFFFFF then
        { s with hop := { s.hop with gaps := Tbl.put s.hop.gaps n { g with count := g.count + 1, instB := inst } } }
      else
        { s with hop := { s.hop with gaps := Tbl.put s.hop.gaps n fresh } }.enter (s.weir n) (g.marker s n 2)
    else
      let s' := s.endGap n
      { s' with hop := { s'.hop with gaps := Tbl.put s'.hop.gaps n fresh } }

/-- Every output of a block falls into a gap. -/
def State.gapBlock (s : State) (n reason : Nat) (b : Block) : State :=
  (b.outs.foldl (fun (a : State × Nat) o => (a.1.growGap n reason (wrap32 a.2) o.inst, a.2 + 1)) (s, b.first)).1

/-! ### What is owed at the end of a stream (R315, R369) -/

/-- Nominal output period in whole nanoseconds (Table 17-2). -/
def State.nominalNs (s : State) (n : Nat) : Nat :=
  let t := s.rawPeriod (s.src n)
  (rne ((t.1 * s.ratio (s.src n) (s.tap n) * s.window n : Nat) : Int) (t.2 * 65536)).toNat

/-- R369, R476: the source-change marker, or the resync block of a 0960 stream, that is owed ahead of the stream's
next block. -/
def State.enterSource (s : State) (n : Nat) : State :=
  let x := s.stream n
  match x.sourceChange with
  | none => s
  | some (at_, hub, first) =>
    let s := s.setStream n { x with sourceChange := none }
    if s.legacy n then
      let bytes := resyncBytes n first (stamp32 at_) (s.nominalNs n)
      s.enterRec (s.weir n) (Rec.of 2 bytes 48 (some n) first 0 at_ at_ [] 48)
    else s.enter (s.weir n) { Led.of 0x13 n 18 first 0 at_ 0 with detailB := toBytes 4 hub }
where
  /-- R476: header, no values, trailer 0, block check. -/
  resyncBytes (n first ts spacing : Nat) : List Byte :=
    let body := toBytes 1 2 ++ toBytes 1 0x18 ++ toBytes 2 n ++ toBytes 4 first ++ zeros 4 ++ toBytes 4 ts ++
      toBytes 4 spacing ++ toBytes 2 48 ++ zeros 18 ++ zeros 4
    body ++ toBytes 4 (crc32C body)

/-- R315: the stop marker, once the stream's last block has left Screed; an open gap ends ahead of it. -/
def State.enterStop (s : State) (n : Nat) : State :=
  let x := s.stream n
  match x.stopAt with
  | none => s
  | some at_ =>
    if x.closed ≠ [] then s
    else
      let s := (s.endGap n).enterSource n
      let s := s.setStream n { s.stream n with stopAt := none }
      let last := if x.produced then (s.e (strm n) 0x13 + 0xFFFFFFFF) % 2 ^ 32 else 0xFFFFFFFF
      s.enter (s.weir n) { Led.of 0x11 n 16 last 0 (if x.produced then x.lastInst else 0) at_ with
        flags := if x.produced then 0 else 4 }

/-! ### Yielding (R306) -/

/-- R306 case 1 for one stream: its open block and its closed blocks become the start of a gap of reason 2. A stream
that has stopped with blocks still to be encoded loses them in the same way, and its stop marker follows. -/
def State.suspendStream (s : State) (n : Nat) : State :=
  let x := s.stream n
  let runs := decide (s.e (strm n) 0x12 ≠ 0)
  let blocks := x.closed ++ x.openBlk.toList
  if x.suspended || (!runs && blocks.isEmpty) then s
  else
    let s := s.setStream n { x with suspended := runs, openBlk := none, closed := [] }
    let s := if blocks.isEmpty then s else s.endGap n
    let s := blocks.foldl (fun s b => (s.gapBlock n 2 b).sendDrop n b) s
    if runs then (s.setE (strm n) 0x12 2).bump (strm n) 0x17 else s.enterStop n

/-- The class Y streams of the plan. -/
def State.yStreams (s : State) : List Nat := (Tbl.keys s.streams).filter s.classY

/-- Suspend every class Y stream. -/
def State.suspendAll (s : State) : State := s.yStreams.foldl State.suspendStream s

/-- R306 case 2 for one stream: its gap ends at its last output. -/
def State.resumeStream (s : State) (n : Nat) : State :=
  let x := s.stream n
  if x.suspended && decide (s.e (strm n) 0x12 = 2) then
    ((s.endGap n).setStream n { x with suspended := false }).setE (strm n) 0x12 1
  else s

/-- Compare free space with the two levels (R305, R306); the streams of a standby yield with its active's (R366). -/
def State.levels (s : State) : State :=
  if s.flagged 0x3400 0x0A 0 then
    if s.hop.free ≥ 1024 * s.e 0x3400 3 then
      let t := s.flag 0x3400 0x0A 0 false
      if t.listening then t else t.yStreams.foldl State.resumeStream t
    else s
  else if s.hop.free < 1024 * s.e 0x3400 2 then
    let t := s.flag 0x3400 0x0A 0 true
    if t.listening then t else t.suspendAll
  else s

/-! ### What arises while the streams run: the levels are compared at once (R306) -/

/-- R307, R308: a marker or event arises. -/
def State.arise (s : State) (q : Nat) (m : Led) : State := (s.enter q m).levels

/-- A Ledger event arises: dropped while the 4,096 places are full; the next one after a loss carries
EVENTS_LOST_BEFORE and the event of reason 44 follows it (R309). -/
def State.ledgerEvent (s : State) (q : Nat) (m : Led) : State :=
  if s.listening then s
  else if s.hop.eventsWaiting ≥ 4096 then s.loseEvent
  else (s.enterEvent q m).reportLost.levels

/-- R298: an event that names a stream enters that stream's queue. -/
def State.streamEvent (s : State) (n : Nat) (m : Led) : State := s.ledgerEvent (s.weir n) m

/-- A hub-wide event of queue 0. -/
def State.hubEvent (s : State) (reason detailA : Nat) (instA instB : Int) (detailB : List Byte) : State :=
  s.ledgerEvent 0 ⟨0x14, none, reason, 0, detailA, 0, 0, instA, instB, detailB⟩

/-- An output falls into a stream's gap. -/
def State.gapOutput (s : State) (n reason seq : Nat) (inst : Int) : State := (s.growGap n reason seq inst).levels

/-- R315: the stop marker of a stream, once it is due. -/
def State.tryStop (s : State) (n : Nat) : State := (s.enterStop n).levels

/-- Space was freed: waiting records first, then the levels. -/
def State.spaceFreed (s : State) : State := s.flush.levels

/-! ### Releases, rewinds and marks (R301 to R304) -/

/-- Free every record before a position; marks before it go with them. -/
def HQueue.freeTo (q : HQueue) (pos : Nat) : HQueue :=
  { q with
    recs := q.recs.drop (pos - q.release)
    release := max q.release pos
    read := max q.read pos
    marks := q.marks.filter (fun m => decide (pos ≤ m.2))
    relPend := q.relPend.filter (fun p => decide (pos < p)) }

/-- R302, R304: a release of every record before a position. The record that the transmitter is reading, and those behind
it that the release covers, are freed when the read completes. -/
def HQueue.releaseTo (q : HQueue) (pos : Nat) : HQueue :=
  if 0 < q.sent ∧ q.read < pos then
    { q.freeTo q.read with marks := q.marks.filter (fun m => decide (pos ≤ m.2)), relPend := some (max pos (q.relPend.getD 0)) }
  else q.freeTo pos

/-- R302: release through a record number, of records before a limit: the queue, and whether the release was refused. -/
def HQueue.releaseThrough (q : HQueue) (r limit : Nat) : HQueue × Bool :=
  let off := (r + 2 ^ 32 - q.release % 2 ^ 32) % 2 ^ 32
  if off ≥ 2 ^ 31 then (q, false)
  else if q.release + off ≥ limit then (q, true)
  else (q.releaseTo (q.release + off + 1), false)

/-- R302: the position from which a release is refused: the send front. A standby sends nothing, and releases what its
active may have sent (R367; DEDUCED, log entry 41). -/
def State.releaseLimit (s : State) (q : Nat) : Nat := if s.listening then (s.hq q).commit else (s.hq q).front

/-- Release through a record number in a queue, counting a refusal. -/
def State.releaseThrough (s : State) (q r : Nat) : State × Bool :=
  let a := (s.hq q).releaseThrough r (s.releaseLimit q)
  if a.2 then (s.bump (0x3410 + q) 0x0F, true) else ((s.setHq q a.1).spaceFreed, false)

/-- Move the read position; a read in progress is given up and a release that waited for it is carried out. -/
def HQueue.moveRead (q : HQueue) (pos : Nat) : HQueue :=
  let q := match q.relPend with
    | some p => q.freeTo p
    | none => q
  { q with read := max q.release pos, sent := 0 }

/-- R303: rewind to a record number, refused outside mark 0 to the send front. -/
def State.rewindQueue (s : State) (q r : Nat) : Option State :=
  let x := s.hq q
  if x.position r ≤ x.front then some (s.setHq q (x.moveRead (x.position r))).spaceFreed else none

/-- R301: set a host mark at the read position. -/
def State.setMark (s : State) (q n : Nat) : State :=
  let x := s.hq q
  s.setHq q { x with marks := Tbl.put x.marks n x.read }

/-- R303: rewind to a mark; mark 0 is the release point. -/
def State.rewindMark (s : State) (q n : Nat) : Option State :=
  let x := s.hq q
  if n = 0 then some (s.setHq q (x.moveRead x.release)).spaceFreed
  else (x.marks.lookup n).map (fun p => (s.setHq q (x.moveRead p)).spaceFreed)

/-- R302: release before a mark: mark n and every host mark at or before it go. -/
def State.releaseMark (s : State) (q n : Nat) : Option State :=
  let x := s.hq q
  (x.marks.lookup n).map (fun p =>
    let y := { x with marks := x.marks.filter (fun m => decide (p < m.2)) }
    (s.setHq q (y.releaseTo p)).spaceFreed)

/-- R303: every read position returns to mark 0; a release that waited for a record being sent frees its space. -/
def State.rewindAll (s : State) : State :=
  let t := (List.range 8).foldl (fun s q => s.setHq q ((s.hq q).moveRead (s.hq q).release)) s
  if (List.range 8).any (fun q => (s.hq q).relPend.isSome) then t.spaceFreed else t

/-! ### Run and stop -/

/-- R299, R315: the restart marker of every queue, ahead of the records that wait. -/
def State.restartMarkers (s : State) (start : Int) : State :=
  match s.hop.restartDue with
  | none => s
  | some kind =>
    let s := { s with hop := { s.hop with restartDue := none } }
    if s.listening then s
    else ((List.range 8).foldl (fun s q => s.commitRec q
      (Led.record ⟨0x12, none, 17, 0, kind, 0, 0, start, 0, toBytes 4 (s.e 0x1018 3)⟩ q)) s).spaceFreed

end Sys2Proof.Machine
end

