-- ==== Sys2Proof/Machine/Screed.lean ====
section
/-! DEFINITION. Blocks: how outputs enter them and close them (R259 to R261, R469, R470), their encoding and commit
(R272 to R286, R472), and the stop marker behind the last one (R315). -/

namespace Sys2Proof.Machine

/-! ### Outputs -/

/-- A span of no raw samples: that of a gap filler. -/
def Span.none : Span := ⟨1, 0, 0⟩
/-- Is the span without raw samples? -/
def Span.isNone (p : Span) : Bool := decide (p.hi < p.lo)
/-- The span has a raw sample from `lo` to `hi`. -/
def Span.touches (p : Span) (lo hi : Nat) : Bool := !p.isNone && decide (p.lo ≤ hi ∧ lo ≤ p.hi)
/-- The span of two groups of raw samples, the second the later one. -/
def Span.join (p q : Span) : Span := if p.isNone then q else if q.isNone then p else ⟨min p.lo q.lo, max p.hi q.hi, max p.last q.last⟩

/-- V-code of an output. -/
def Out.vcode (o : Out) : Nat := o.tag / 32

/-- R131: raise an output's V-code; a Fixed24 word carries the tag in its low byte. -/
def Out.mark (fmt v : Nat) (o : Out) : Out :=
  if o.vcode < v then
    { o with tag := o.tag + 32 * (v - o.vcode), word := if fmt = 0 then o.word + 32 * (v - o.vcode) else o.word }
  else o

/-! ### Range tracking (R315) -/

/-- R315 reason 42: a stream's gap task is written once its range is known; one that touched no output is dropped. -/
def State.gapTaskEvent (s : State) (n : Nat) (t : GapTask) : State :=
  if t.count = 0 then s
  else s.streamEvent n { Led.of 0x14 n 42 t.first t.count t.instA t.instB with
    detailB := toBytes 2 t.chan ++ toBytes 4 t.missing }

/-- The raw samples of a channel that an output draws on. -/
def State.spanOf (s : State) (n c : Nat) (own : Span) (ref : Option Span) : Span :=
  if s.srcKind n = 0 ∧ s.src n = c then own else ref.getD Span.none

/-- Follow the raw gaps of a stream over one output. -/
def State.trackGaps (s : State) (n seq : Nat) (o : Out) : State :=
  let x := s.stream n
  let ts := x.gapTasks.map (fun t =>
    if (s.spanOf n t.on o.own o.ref).touches t.lo t.hi then
      { t with first := if t.count = 0 then seq else t.first, count := t.count + 1 }
    else t)
  let past := fun (t : GapTask) => let p := s.spanOf n t.on o.own o.ref; !t.more && !p.isNone && decide (t.hi < p.lo)
  (ts.filter past).foldl (fun s t => s.gapTaskEvent n t)
    (s.setStream n { x with gapTasks := ts.filter (fun t => !past t) })

/-- R315 reason 32: write the time-step event of a stream. -/
def State.stepEvent (s : State) (n : Nat) (t : StepTask) : State :=
  let x := s.stream n
  (s.setStream n { x with stepTask := none }).streamEvent n (Led.of 0x14 n 32 t.first t.count t.before t.after)

/-- Follow a time step of a stream over one output. -/
def State.trackStep (s : State) (n seq : Nat) (filler : Bool) : State :=
  let x := s.stream n
  match x.stepTask with
  | none => s
  | some t =>
    let t' := if filler then { t with first := if t.count = 0 then seq else t.first, count := t.count + 1 }
      else if t.count = 0 then { t with first := seq } else t
    let held := x.win.any (fun r => r.own.isNone)
    if !filler || (t.done && !held) then s.stepEvent n t' else s.setStream n { x with stepTask := some t' }

/-- No further gap filler of a step can come: the event is written unless an open window holds a filler. -/
def State.stepDone (s : State) (n : Nat) : State :=
  let x := s.stream n
  match x.stepTask with
  | none => s
  | some t =>
    if x.win.any (fun r => r.own.isNone) then s.setStream n { x with stepTask := some { t with done := true } }
    else s.stepEvent n (if t.count = 0 then { t with first := s.e (strm n) 0x13 } else t)

/-! ### Cutting (R259 to R261, R469) -/

/-- Close the open block with a reason of Table 10-1. -/
def State.closeOpen (s : State) (n reason : Nat) (wrap : Bool := false) : State :=
  let x := s.stream n
  match x.openBlk with
  | none => s
  | some b =>
    s.setStream n { x with
      openBlk := none
      closed := x.closed ++ [{ b with reason := reason, wrap := wrap }]
      closedTo := (b.outs.getLast?).map Out.inst }

/-- Add an output to the open block, or open one with it. -/
def State.append (s : State) (n seq : Nat) (o : Out) : State :=
  let x := s.stream n
  s.setStream n { x with openBlk := some (match x.openBlk with
    | some b => { b with outs := b.outs ++ [o] }
    | none => ⟨seq, [o], 0, false, false⟩) }

/-- R261: an output of a Millstone tap lies more than 5 ns off its placement in the open block. -/
def State.offPlace (s : State) (n : Nat) (o : Out) : Bool :=
  match (s.stream n).openBlk with
  | some ⟨_, f :: r, _, _, _⟩ =>
    decide (s.srcKind n = 0 ∧ s.tap n ≤ 2 ∧
      (o.inst - (f.inst + (((r.length + 1) * s.nominal n : Nat) : Int))).natAbs > 5 * 65536)
  | _ => false

/-- R469: the output's 32-bit timestamp is less than that of the block's first output. -/
def State.wraps (s : State) (n : Nat) (o : Out) : Bool :=
  match (s.stream n).openBlk with
  | some ⟨_, f :: _, _, _, _⟩ => decide (stamp32 o.inst < stamp32 f.inst)
  | _ => false

/-- An output enters its stream's open block. -/
def State.blockOut (s : State) (n seq : Nat) (o : Out) : State :=
  if s.legacy n then
    let s := (if s.wraps n o then s.closeOpen n 0 true else s).append n seq o
    if seq % 128 = 127 then s.closeOpen n 0 else s
  else
    let s := (if s.offPlace n o then s.closeOpen n 2 else s).append n seq o
    if seq % 256 = 255 then s.closeOpen n 0 else s

/-- R16, R235: a stream produces an output, with the next sequence number. -/
def State.emit (s : State) (n : Nat) (o : Out) (filler : Bool := false) : State :=
  let seq := s.e (strm n) 0x13
  let s := s.wrapAdd 32 (strm n) 0x13 1
  let x := s.stream n
  let s := s.setStream n { x with produced := true, lastInst := o.inst }
  let s := if x.suspended then s.gapOutput n 2 seq o.inst else s.blockOut n seq o
  (s.trackGaps n seq o).trackStep n seq filler

/-- R470: padding positions up to the boundary of the open block. -/
def State.padBy : Nat → State → Nat → State
  | 0, s, _ => s
  | k + 1, s, n =>
    match (s.stream n).openBlk with
    | some b =>
      let tag := match b.outs.getLast? with | some o => o.tag % 32 | none => 0
      State.padBy k (s.emit n ⟨224 + tag, 224 + tag, (s.stream n).lastInst + (s.nominal n : Int), [], Span.none, none⟩ true) n
    | none => s

/-- R470: fill the open block of a 0960 stream. -/
def State.pad (s : State) (n : Nat) : State := State.padBy 128 s n

/-! ### Encoding and commit (R272 to R286) -/

/-- The references that PLAN_CHECK resolved for a stream, by neighbour. -/
def State.references (s : State) (n : Nat) : List Nat := (List.range 4).map (fun j => s.e (strm n) (0x18 + j))

/-- The references a stream uses. -/
def State.refStreams (s : State) (n : Nat) : List Nat :=
  if 3 ≤ s.e (strm n) 12 then (s.references n).filter (fun r => decide (r ≠ 0xFFFF)) else []

/-- R274: a reference stream has closed, or will never hold, what a block up to the given instant may draw on, and
every such block has been committed, dropped or discarded. -/
def State.refReady (s : State) (last : Int) (r : Nat) : Bool :=
  match s.streams.lookup r with
  | none => true
  | some y =>
    let passed := match y.closedTo with | some t => decide (last ≤ t) | none => false
    (passed || y.suspended || decide (s.e (strm r) 0x12 = 0)) &&
      y.closed.all (fun b => match b.outs with | o :: _ => decide (last < o.inst) | [] => true)

/-- What each reference holds at the outputs of a block (R273). -/
def State.refValues (s : State) (n : Nat) (outs : List Out) : Refs :=
  (s.refStreams n).map (fun r => outs.map (fun o => ((s.stream r).hist.lookup o.inst).map Prod.fst))

/-- The reference blocks that a block draws on. -/
def State.refBlocks (s : State) (n : Nat) (outs : List Out) : List (Nat × Nat × Int) :=
  ((s.refStreams n).flatMap (fun r => outs.filterMap (fun o => ((s.stream r).hist.lookup o.inst).map (fun v => (r, v.2))))).eraseDups

/-- Header fields of a block (R263). -/
def State.head (s : State) (n : Nat) (b : Block) : Head where
  fmt := s.format n
  kind := s.srcKind n
  stream := n
  first := b.first
  reason := b.reason
  count := b.outs.length
  gridTiming := s.onTime n
  angle := s.onAngle n
  adaptive := decide (s.e (strm n) 12 = 5)
  matches_ := decide (s.e (strm n) 14 = 1)
  table := s.e (strm n) 13
  instant := if s.srcKind n = 1 then 0 else match b.outs with | o :: _ => toTime96 o.inst | [] => 0
  spacing := if s.onTime n then s.rate n / s.window n
    else if s.srcKind n = 0 ∧ s.tap n ≤ 2 then s.nominal n else 0
  refs := s.references n

/-- The outputs of a block as they are stored. -/
def bodyOf (b : Block) : Body := ⟨b.outs.map Out.word, b.outs.map Out.tag, b.outs.flatMap Out.angle⟩

/-- R270, R275: the predictor applied to a block. -/
def State.predictor (s : State) (n : Nat) (b : Block) : Nat :=
  let p := s.e (strm n) 12
  if p < 5 then p
  else choose (if s.format n = 0 then 24 else 32)
    ([0, 1, 2] ++ if s.aligned n ∧ s.refStreams n ≠ [] then [3, 4] else [])
    (b.outs.map (fun o => codedValue (s.format n) o.word)) (s.refValues n b.outs)

/-- R271, R472: the bytes of a 0960 block, and whether it is raw. An output with V-code 7, a gap filler in the words of
Table 04-5, has the word 0 (R468). -/
def State.legacyBytes (s : State) (n : Nat) (b : Block) (fault : Bool) : List Byte × Bool :=
  let ws := b.outs.map (fun o => if o.vcode = 7 then (0, false) else word16 o.word)
  let tags := b.outs.map (fun o => o.tag % 32 / 4)
  let rng := if ws.any Prod.snd || tags.contains 7 then 7 else (tags.getLast?).getD 0
  block0960 n b.first (ws.map Prod.fst) (b.outs.map Out.vcode) rng
    (match b.outs with | o :: _ => stamp32 o.inst | [] => 0) (s.nominalNs n) (s.e (strm n) 13) false b.wrap fault

/-- Raw size of a block (R267, R475). -/
def State.rawSizeOf (s : State) (n : Nat) (b : Block) : Nat :=
  if s.legacy n then rawSize0960 b.outs.length else rawSize (s.format n) b.outs.length (s.onAngle n)

/-- The bytes of a block, the references it draws on, whether a coded form was given up for its size, and whether a
verify fault applies; `verify` is the code that the verify decoder reports (Table 10-7). -/
def State.encode (s : State) (n : Nat) (b : Block) (verify : Nat) : List Byte × List (Nat × Nat × Int) × Bool × Bool :=
  if s.legacy n then
    let good := s.legacyBytes n b false
    if good.2 then (good.1, [], true, false)
    else if verify ≠ 0 then ((s.legacyBytes n b true).1, [], false, true)
    else (good.1, [], false, false)
  else if s.format n = 2 then (rawBlock (s.head n b) (bodyOf b) false, [], false, false)
  else
    let p := s.predictor n b
    let u := Tbl.get (zeros 17) s.blobs (ekey (0x3200 + (s.e (strm n) 13 - 16)) 1)
    match codedBlock (s.head n b) (bodyOf b) p (if 3 ≤ p then s.refValues n b.outs else []) (tableLengths u) (s.rawSizeOf n b) with
    | none => (rawBlock (s.head n b) (bodyOf b) false, [], true, false)
    | some bytes =>
      if verify ≠ 0 then (rawBlock (s.head n b) (bodyOf b) true, [], false, true)
      else (bytes, if 3 ≤ p then s.refBlocks n b.outs else [], false, false)

/-- R306 case 3: the block is discarded and its stream's gap opens or grows. -/
def State.dropBlock (s : State) (n : Nat) (b : Block) : State :=
  ((((s.gapBlock n 1 b).sendDrop n b).bump 0x3400 0x0B).flag 0x3400 0x0A 1 true).levels

/-- Instant of an output at an end of a block. -/
def endInst (o : Option Out) : Int := match o with | some o => o.inst | none => 0

/-- Values of a committed block, for the streams that refer to this one. -/
def State.keepValues (s : State) (n : Nat) (b : Block) : State :=
  if (Tbl.keys s.streams).any (fun d => (s.refStreams d).contains n) then
    let x := s.stream n
    s.setStream n { x with
      hist := x.hist ++ b.outs.map (fun o => (o.inst, codedValue (s.format n) o.word, b.first, endInst b.outs.head?)) }
  else s

/-- R131, R132: the outputs of a block whose encoding has begun can no longer be marked. -/
def State.keepFixed (s : State) (n : Nat) (b : Block) : State :=
  let x := s.stream n
  let es := (List.range b.outs.length).filterMap (fun i => (b.outs[i]?).map (fun o =>
    (wrap32 (b.first + i), o.own.last, match o.ref with | some r => r.last | none => 0)))
  s.setStream n { x with fixed := x.fixed ++ es }

/-- The record that a block of a stream becomes, with the bytes and references of its encoding (R283). -/
def State.blockRec (s : State) (n : Nat) (b : Block) (bytes : List Byte) (refs : List (Nat × Nat × Int)) : Rec :=
  Rec.of (if s.legacy n then 2 else 1) bytes bytes.length (some n) b.first b.outs.length
    (endInst b.outs.head?) (endInst b.outs.getLast?) refs (s.rawSizeOf n b)

/-- R283, R305, R306: the reservation of a block is granted: a source change that is owed and the stream's gap marker go
ahead of it, in space that is not reserved, and Y streams yield where the reservation takes the space. -/
def State.grantBlock (s : State) (n : Nat) (b : Block) : State :=
  let s := { s with hop := { s.hop with grant := s.rawSizeOf n b } }
  let s := match (s.stream n).sourceChange with
    | some (_, _, f) => if (b.first + 2 ^ 32 - f) % 2 ^ 32 < 2 ^ 31 then (s.endGap n).enterSource n else s
    | none => s
  (((s.endGap n).flag 0x3400 0x0A 1 false)).levels

/-- R285, R286: what is counted and logged of an encoding that was given up, or that the verify decoder rejected. -/
def State.noteEncoding (s : State) (n : Nat) (b : Block) (abandoned fault : Bool) (verify : Nat) : State :=
  let s := if abandoned then s.bump 0x3300 2 else s
  if fault then
    ((((s.bump 0x3300 1).setE 0x3300 4 n).setE 0x3300 5 b.first).setE 0x3300 6 verify).event 2 0x0701
      (toBytes 2 n ++ toBytes 4 b.first ++ toBytes 1 verify)
  else s

/-- R304: a read of the transmitter meets a commit at depth 0 and wins the arbitration. -/
def State.underrun (s : State) (q : Nat) (popWins : Bool) : State :=
  if popWins ∧ (s.hq q).depth = 0 then s.bump (0x3410 + q) 0x0E else s

/-- R283 step 6: the reservation ends as the record takes its place, or its turn where records wait (R308). -/
def State.commitBlock (s : State) (q : Nat) (r : Rec) (popWins : Bool) : State :=
  let s := { s with hop := { s.hop with grant := 0 } }
  (if s.hop.blocked then s.wait q true r else (s.underrun q popWins).commitRec q r).levels

/-- R283 steps 2 to 6 for a block whose references are settled; R284: stalls of the staging buffer count. -/
def State.encodeBlock (s : State) (n : Nat) (b : Block) (verify stalls : Nat) (popWins : Bool) : State :=
  if s.hop.free < s.rawSizeOf n b ∨ s.hop.freeEntries = 0 then s.dropBlock n b
  else
    let s := (s.grantBlock n b).bump 0x3300 9 stalls
    let e := s.encode n b verify
    let s := ((s.keepFixed n b).keepValues n b).noteEncoding n b e.2.2.1 e.2.2.2 verify
    s.commitBlock (s.weir n) (s.blockRec n b e.1 e.2.1) popWins

/-- R283: the oldest closed block of a stream, once its references are settled and no record waits for space. A ready
standby encodes at the COMMIT of its twin (R366); a standby that is not ready discards the block (R373). -/
def State.blockEncode (s : State) (n : Nat) (verify : Nat) (stalls : Nat := 0) (popWins : Bool := false) : State :=
  match s.streams.lookup n with
  | none => s
  | some x =>
    match x.closed with
    | [] => s
    | b :: rest =>
      let last := match b.outs.getLast? with | some o => o.inst | none => 0
      if s.role = 3 then s
      else if s.listening then (s.setStream n { x with closed := rest }).tryStop n
      else if s.hop.blocked || !((s.refStreams n).all (s.refReady last)) then s
      else ((s.setStream n { x with closed := rest }).encodeBlock n b verify stalls popWins).tryStop n

end Sys2Proof.Machine
end

