-- ==== Sys2Proof/Machine/Streams.lean ====
section
/-! DEFINITION. From a stream's input to its output: reductions (R241 to R245) and formats (R238, R239). -/

namespace Sys2Proof.Machine

/-- The stream's inputs are binary32 values: tap 4 and angle-grid speed. -/
def State.isFp (s : State) (n : Nat) : Bool := decide (s.srcKind n = 2 ∨ (s.srcKind n = 0 ∧ s.tap n = 4))

/-- A gap filler's input at an instant: V-code 7, value and range tag open (DESIGN CHOICE, log entry 4). -/
def State.filler (s : State) (inst : Int) (angle : List Byte) : RIn × State :=
  let v := (Config.fillerValue s.freeCtr).toNat
  let t := (Config.fillerTag s.freeCtr).val
  (⟨signed 32 v, v, 7, if t = 5 then 7 else t, inst, angle, Span.none, none⟩, s.fresh)

/-- A Millstone word in volts as binary32: word × 10.24 / 2^31 (R171, R239). -/
def voltsOf (word : Int) : Nat := f32Of (word * 1024) (100 * 2 ^ 31)

/-- What a reduction, or its absence, gives to be formatted: a Millstone word, a binary32 pattern, or a count. -/
inductive Val where
  | word (w : Int)
  | fp (u : Nat)
  | count (n : Nat)
  deriving DecidableEq, Repr

/-- R238, R239: the word and the range tag of an output. -/
def State.format? (s : State) (n : Nat) (v : Val) (vcode tag : Nat) : Nat × Nat :=
  if s.format n = 0 then
    let x := match v with
      | .word w => rhe w 8
      | .fp u => f32.toIntScaled u (s.eI 8 (strm n) 0x0B)
      | .count k => (k : Int)
    let y := clampI (-(2 ^ 23)) (2 ^ 23 - 1) x
    let t := if x = y then tag else 7
    (unsigned 24 y * 256 + vcode * 32 + t * 4, t)
  else
    (match v with
      | .word w => voltsOf w
      | .fp u => u
      | .count k => f32Of k 1, tag)

/-- Format a value and emit it. -/
def State.emitVal (s : State) (n : Nat) (v : Val) (vcode tag : Nat) (inst : Int) (angle : List Byte) (own : Span)
    (ref : Option Span) (filler : Bool) : State :=
  let f := s.format? n v vcode tag
  s.emit n ⟨f.1, vcode * 32 + f.2 * 4, inst, angle, own, ref⟩ filler

/-! ### Reductions -/

/-- R244: a reduction of Millstone words: the value, and whether it was set to the largest word. -/
def reduceWords (kind thr : Nat) (xs : List Int) : Val × Bool :=
  let n := xs.length
  let sat := fun (x : Int) => if x > 2 ^ 31 - 1 then (Val.word (2 ^ 31 - 1), true) else (Val.word x, false)
  let mx := xs.foldl max (xs.headD 0)
  let mn := xs.foldl min (xs.headD 0)
  if kind = 6 then (.count (xs.filter (fun x => decide (signed 32 thr < x))).length, false)
  else if n = 0 then (.word 0, false)
  else if kind = 1 then sat (rne (sumInt xs) n)
  else if kind = 2 then sat (sqrtRound (sumInt (xs.map (fun x => x * x))).toNat n)
  else if kind = 3 then (.word mn, false)
  else if kind = 4 then (.word mx, false)
  else sat (mx - mn)

/-- R245: a sum of binary64 values in order, each addition rounded. -/
def sum64 (xs : List (Option Nat)) : Option Nat :=
  xs.foldl (fun a x => match a, x with | some a, some x => f64.add a x | _, _ => none) (some 0)

/-- R245: a reduction of binary32 values; what is not finite becomes 0x7F7FFFFF. -/
def reduceFp (kind thr : Nat) (xs : List Nat) : Val × Bool :=
  let n := xs.length
  let out := fun (x : Option Nat) => match x with | some u => (Val.fp u, false) | none => (Val.fp f32Max, true)
  let big := fun a b => if f32.lt a b then b else a
  let small := fun a b => if f32.lt b a then b else a
  let mx := xs.foldl big (xs.headD 0)
  let mn := xs.foldl small (xs.headD 0)
  let above := fun x => if f32.finite thr then f32.lt thr x else decide (thr = f32.signBit + f32.inf)
  let to64 := fun x => f32.convert f64 x
  let back := fun (x : Option Nat) => match x with | some u => out (f64.convert f32 u) | none => out none
  if kind = 6 then (.count (xs.filter above).length, false)
  else if n = 0 then (.fp 0, false)
  else if kind = 1 then back ((sum64 (xs.map to64)).bind (fun t => f64.divNat t n))
  else if kind = 2 then
    back (((sum64 (xs.map (fun x => (to64 x).bind (fun y => f64.mul y y)))).bind (fun t => f64.divNat t n)).bind f64.sqrt)
  else if kind = 3 then (.fp mn, false)
  else if kind = 4 then (.fp mx, false)
  else out (f32.sub mx mn)

/-- R150 over a list of inputs, oldest first. -/
def joinTags (tags : List Nat) : Nat := if tags.contains 7 then 7 else (tags.getLast?).getD 0

/-- The join of the reference spans that are there. -/
def joinRef (a b : Option Span) : Option Span :=
  match a, b with
  | some x, some y => some (x.join y)
  | some x, none => some x
  | none, b => b

/-- R241 to R243: the output of a complete window, oldest input first. -/
def State.emitWindow (s : State) (n : Nat) (ins : List RIn) : State :=
  let used := ins.filter (fun r => decide (r.vcode ≠ 7))
  let k := s.red n
  let thr := s.e (strm n) 9
  let v := if s.isFp n then reduceFp k thr (used.map RIn.fp) else reduceWords k thr (used.map RIn.val)
  match ins with
  | [] => s
  | r :: _ =>
    s.emitVal n v.1 (maxNat (ins.map RIn.vcode)) (if v.2 then 7 else joinTags (ins.map RIn.tag)) r.inst r.angle
      (ins.foldl (fun a x => a.join x.own) Span.none) (ins.foldl (fun a x => joinRef a x.ref) none)
      (ins.any (fun x => x.own.isNone))

/-- An input arrives at a stream; `idx` is its index in its second or in its cycle, by which windows are aligned. -/
def State.streamInput (s : State) (n idx : Nat) (r : RIn) : State :=
  if s.red n = 0 then
    s.emitVal n (if s.isFp n then .fp r.fp else .word r.val) r.vcode r.tag r.inst r.angle r.own r.ref r.own.isNone
  else
    let x := s.stream n
    let w := s.window n
    if x.win = [] ∧ idx % w ≠ 0 ∧ ¬(s.srcKind n = 0 ∧ s.tap n ≤ 2) then s
    else
      let win := r :: x.win
      if win.length < w then s.setStream n { x with win := win }
      else (s.setStream n { x with win := [] }).emitWindow n win.reverse

/-- R242: discard the open window of a stream. -/
def State.dropWindow (s : State) (n : Nat) : State := s.setStream n { s.stream n with win := [] }

/-- Streams of the plan whose source is a channel, in stream order. -/
def State.streamsOf (s : State) (c : Nat) : List Nat :=
  (Tbl.keys s.streams).filter (fun n => decide (s.srcKind n = 0 ∧ s.src n = c))

/-- Streams of the plan that use a channel as their temperature reference (R172). -/
def State.streamsRef (s : State) (c : Nat) : List Nat :=
  (Tbl.keys s.streams).filter (fun n => decide (s.srcKind n = 0 ∧ s.tap n = 4 ∧ s.refChan (s.src n) = some c))

/-- Streams of the plan that draw on a channel as source or as temperature reference. -/
def State.streamsOn (s : State) (c : Nat) : List Nat :=
  (Tbl.keys s.streams).filter (fun n => decide (s.srcKind n = 0 ∧ (s.src n = c ∨ (s.tap n = 4 ∧ s.refChan (s.src n) = some c))))

/-- Streams of the plan on an angle grid, its speed streams included. -/
def State.streamsOfGrid (s : State) (a : Nat) : List Nat :=
  (Tbl.keys s.streams).filter (fun n => decide ((s.srcKind n = 2 ∧ s.src n = a) ∨ (s.srcKind n = 0 ∧ 3 ≤ s.tap n ∧ s.gridOf n = a)))

end Sys2Proof.Machine
end

