-- ==== Sys2Proof/Machine/Align.lean ====
section
/-! DEFINITION. Align (R203 to R208, R220), linearisation (R169 to R174), and how both feed the streams. -/

namespace Sys2Proof.Machine

/-! ### Interpolation (R205, R206) -/

/-- R205: the interpolation phase in units of 2^-24. -/
def phaseOf (t e1 e2 : Int) : Int := min (rne ((t - e1) * 2 ^ 24) (e2 - e1).toNat) (2 ^ 24 - 1)

/-- R206: the exact numerator of the cubic correction, over 6 × 2^72. -/
def cubic (x0 x1 x2 x3 m : Int) : Int :=
  let d1 := 6 * x2 - 2 * x0 - 3 * x1 - x3
  let d2 := 3 * (x0 + x2) - 6 * x1
  let d3 := (x3 - x0) + 3 * (x1 - x2)
  ((d3 * m + d2 * 2 ^ 24) * m + d1 * 2 ^ 48) * m

/-- R206: the interpolated word, and whether it was saturated. -/
def interpolate (x0 x1 x2 x3 m : Int) : Int × Bool :=
  let y := x1 + rne (cubic x0 x1 x2 x3 m) (6 * 2 ^ 72)
  let z := clampI (-(2 ^ 31)) (2 ^ 31 - 1) y
  (z, decide (z ≠ y))

/-- Four consecutive outputs around an instant, newest first in the list: x0, x1, x2, x3. -/
inductive Taps where
  /-- no output at or before the instant has one before it -/
  | early
  /-- an output that is needed has not arrived -/
  | wait
  | found (x0 x1 x2 x3 : Sample)
  deriving DecidableEq, Repr

/-- Look for the taps of an instant among outputs listed newest first. -/
def tapsAt (t : Int) : List Sample → Taps
  | x3 :: x2 :: x1 :: x0 :: r =>
    if x2.inst ≤ t then .wait else if x1.inst ≤ t then .found x0 x1 x2 x3 else tapsAt t (x2 :: x1 :: x0 :: r)
  | [_, x1, _] => if x1.inst ≤ t then .wait else .early
  | [x1, _] => if x1.inst ≤ t then .wait else .early
  | _ => .wait

/-- The V-code, tag and span of a group of taps, oldest first. -/
def joinSamples (xs : List Sample) : Nat × Nat × Span :=
  (maxNat (xs.map Sample.vcode), joinTags (xs.map Sample.tag), xs.foldl (fun a x => a.join x.span) Span.none)

/-- R205 to R207: the aligned word of a channel at an instant. -/
def State.alignAt (s : State) (t : Int) (x0 x1 x2 x3 : Sample) : Sample × State :=
  let y := interpolate x0.val x1.val x2.val x3.val (phaseOf t x1.inst x2.inst)
  let j := joinSamples [x0, x1, x2, x3]
  (⟨y.1, j.1, if y.2 then 7 else j.2.1, t, j.2.2⟩, if y.2 then s.bump 0x2F10 1 else s)

/-! ### Linearisation (R169 to R174) -/

/-- The 24 coefficients of a channel that hold for an output at an instant (R174). -/
def State.coefficients (s : State) (c : Nat) (t : Int) : List Nat :=
  match (s.mill c).coefOld.find? (fun p => decide (t ≤ p.1)) with
  | some p => p.2
  | none => (List.range 24).map (fun k => s.e (0x2A00 + c) (1 + k))

/-- R170: the polynomial of finite coefficients, every operation rounded to binary32; nothing where a result is not
finite. -/
def polynomial (a : List Nat) (x t : Nat) : Option Nat :=
  let horner := fun (cs : List Nat) (z : Nat) (p : Option Nat) =>
    cs.foldl (fun p c => p.bind (fun u => (f32.mul u z).bind (fun v => f32.add v c))) p
  let p := (List.range 4).map (fun j =>
    let cs := ((List.range 6).map (fun i => a.getD (6 * j + i) 0)).reverse
    horner cs.tail x cs.head?)
  match p with
  | [p0, p1, p2, p3] =>
    let step := fun (y q : Option Nat) => match y, q with
      | some y, some q => (f32.mul y t).bind (fun v => f32.add v q)
      | _, _ => none
    step (step (step p3 p2) p1) p0
  | _ => none

/-- Port die that serves a channel: 0 A, 1 B (R1). -/
def dieOf (c : Nat) : Nat := c / 256

/-- R172: the latest reading of a port die sensor at or before an instant; with none yet, a free value. -/
def State.dieTemp (s : State) (die : Nat) (t : Int) : Nat × State :=
  match s.dieTemps.find? (fun r => decide (r.1 = die ∧ r.2.1 ≤ t)) with
  | some r => (r.2.2, s)
  | none => ((Config.referenceValue s.freeCtr).toNat, s.fresh)

/-- R169 to R173: linearise an aligned word of a channel with temperature T. A coefficient that is not finite makes an
intermediate result that is not, since every coefficient enters one. -/
def State.linearise (s : State) (c : Nat) (y : Sample) (t : Nat) : Nat × Nat × State :=
  let a := s.coefficients c y.inst
  match if f32.finite t && a.all f32.finite then polynomial a (voltsOf y.val) t else none with
  | some u => (u, y.tag, s)
  | none => (f32Max, 7, s.bump (0x2800 + c) 0x0E)

/-- R172: value, V-code, tag and span of a reference channel at an instant; nothing while an output is awaited. A
reference with no output there gives a free value with V-code 7 (DESIGN CHOICE, log entry 4). -/
def State.reference (s : State) (r : Nat) (t : Int) : Option (Nat × Nat × Nat × Span × State) :=
  match tapsAt t (s.mill r).taps with
  | .wait => none
  | .early => some ((Config.referenceValue s.freeCtr).toNat, 7, 0, Span.none, s.fresh)
  | .found x0 x1 x2 x3 =>
    let a := s.alignAt t x0 x1 x2 x3
    if s.e (0x2800 + r) 10 = 1 then
      let d := if s.e (0x2800 + r) 11 = 512 then a.2.dieTemp (dieOf r) t else (0, a.2)
      let l := d.2.linearise r a.1 d.1
      some (l.1, a.1.vcode, l.2.1, a.1.span, l.2.2)
    else some (voltsOf a.1.val, a.1.vcode, a.1.tag, a.1.span, a.2)

/-- The input that an aligned stream takes at an instant from the taps found; nothing while its reference is
awaited. -/
def State.alignedInput (s : State) (n : Nat) (t : Int) (angle : List Byte) (x0 x1 x2 x3 : Sample) : Option (RIn × State) :=
  let c := s.src n
  if s.tap n = 3 then
    let a := s.alignAt t x0 x1 x2 x3
    some (⟨a.1.val, 0, a.1.vcode, a.1.tag, t, angle, a.1.span, none⟩, a.2)
  else match s.refChan c with
    | some r =>
      match s.reference r t with
      | none => none
      | some (u, vc, tg, sp, s') =>
        let a := s'.alignAt t x0 x1 x2 x3
        let l := a.2.linearise c a.1 u
        some (⟨0, l.1, max a.1.vcode vc, if tg = 7 then 7 else l.2.1, t, angle, a.1.span, some sp⟩, l.2.2)
    | none =>
      let d := if s.e (0x2800 + c) 11 = 512 then s.dieTemp (dieOf c) t else (0, s)
      let a := d.2.alignAt t x0 x1 x2 x3
      let l := a.2.linearise c a.1 d.1
      some (⟨0, l.1, a.1.vcode, l.2.1, t, angle, a.1.span, none⟩, l.2.2)

/-! ### The time grid (R203, R208) -/

/-- Grid instant k of a second, for rate F. -/
def gridInstant (f : Nat) (sec : Int) (k : Nat) : Int := sec * (fuSec : Int) + rne ((k * fuSec : Nat) : Int) f

/-- The index after k, in the same second or the next. -/
def nextGrid (f : Nat) (g : Int × Nat) : Int × Nat := if g.2 + 1 < f then (g.1, g.2 + 1) else (g.1 + 1, 0)

/-- The first grid instant at or after an instant. -/
def firstGrid (f : Nat) (e : Int) : Int × Nat :=
  let sec := e / (fuSec : Int)
  let k := ((e - sec * (fuSec : Int)) * (f : Int) / (fuSec : Int)).toNat
  let ok := fun (g : Int × Nat) => decide (e ≤ gridInstant f g.1 g.2)
  let g0 := if k < f then (sec, k) else (sec + 1, 0)
  let g1 := nextGrid f g0
  if ok g0 then g0 else if ok g1 then g1 else nextGrid f g1

/-- Effective instant of the second output that Align holds (R208). -/
def secondInst (taps : List Sample) : Option Int := match taps.reverse with | _ :: x :: _ => some x.inst | _ => none

/-- A gap filler at a grid instant or a point. -/
def State.fillAt (s : State) (n idx : Nat) (t : Int) (angle : List Byte) : State :=
  let f := s.filler t angle
  f.2.streamInput n idx f.1

/-- One grid instant of a time-grid stream; nothing while an output is awaited. -/
def State.gridStep (s : State) (n : Nat) (e2 : Int) : Option State :=
  let x := s.stream n
  let f := s.rate n
  let g := x.grid.getD (firstGrid f e2)
  let t := gridInstant f g.1 g.2
  let s' := s.setStream n { x with grid := some (nextGrid f g) }
  if t < e2 then some (s'.fillAt n g.2 t [])
  else match tapsAt t (s.mill (s.src n)).taps with
    | .found x0 x1 x2 x3 => (s'.alignedInput n t [] x0 x1 x2 x3).map (fun r => r.2.streamInput n g.2 r.1)
    | _ => none

/-- R221: the angle stamp of a point. -/
def Point.stamp (p : Point) : List Byte := toBytes 4 p.rev ++ toBytes 4 p.angle ++ toBytes 12 (toTime96 p.inst)

/-- Reasons 36 to 41 of R315 for a stream of grid `a`: the event that goes with a point or with a loss, and the window
that the loss or the flip cuts (R242). With nothing produced the sequence is that of the stop marker (DESIGN CHOICE, log entry 24). -/
def State.gridMark (s : State) (n a : Nat) (p : Point) : State :=
  if p.mark = 0 then s
  else
    let s := if p.mark = 40 then s else s.dropWindow n
    let x := s.stream n
    let next := s.e (strm n) 0x13
    let m := Led.of 0x14 n p.mark (if 40 ≤ p.mark then next else (next + 0xFFFFFFFF) % 2 ^ 32) 0 p.inst 0
    s.streamEvent n { m with
      flags := if p.mark < 40 ∧ !x.produced then 4 else 0
      detailB := toBytes 1 a ++ (if p.mark = 41 then [] else toBytes 4 p.rev ++ toBytes 4 p.angle) }

/-- Losses of synchronisation at the head of a stream's points are reported. -/
def State.headMarks : Nat → State → Nat → State
  | 0, s, _ => s
  | k + 1, s, n =>
    let x := s.stream n
    match x.points with
    | p :: ps =>
      if 36 ≤ p.mark ∧ p.mark < 40 then
        State.headMarks k ((s.setStream n { x with points := ps }).gridMark n (s.gridOf n) p) n
      else s
    | [] => s

/-- R208: the point lies at or after the second output of the run, or the stream has begun already. -/
def State.pointBegun (s : State) (n : Nat) (p : Point) : Bool :=
  (s.stream n).grid.isSome || (match (s.mill (s.src n)).second with | some e => decide (e ≤ p.inst) | none => false)

/-- One point of an angle-grid stream; nothing while an output is awaited. A point that has no taps of its own is a gap
filler once the stream has begun, and no output before that (R208, R220); a point at or before the last output, after
a backward step, is none either (R40). -/
def State.pointStep (s : State) (n : Nat) (e2 : Int) : Option State :=
  let x := s.stream n
  match x.points with
  | [] => none
  | p :: ps =>
    let s0 := (s.setStream n { x with points := ps }).gridMark n (s.gridOf n) p
    let s' := s0.setStream n { s0.stream n with grid := some (0, 0) }
    if p.torn ∨ p.inst < e2 then some (if s.pointBegun n p then s'.fillAt n p.index p.inst p.stamp else s0)
    else if x.produced ∧ p.inst ≤ x.lastInst then some s0
    else match tapsAt p.inst (s.mill (s.src n)).taps with
      | .found x0 x1 x2 x3 => (s'.alignedInput n p.inst p.stamp x0 x1 x2 x3).map (fun r => r.2.streamInput n p.index r.1)
      | _ => none

/-- Every instant that a stream can place, at most `fuel`. -/
def State.pumpBy : Nat → State → Nat → State
  | 0, s, _ => s
  | k + 1, s, n =>
    let s := State.headMarks (s.stream n).points.length s n
    match secondInst (s.mill (s.src n)).taps with
    | none => s
    | some e2 =>
      match if s.onTime n then s.gridStep n e2 else s.pointStep n e2 with
      | some s' => State.pumpBy k s' n
      | none => s

/-- Instants that may still be placed, a bound on the work of one pump. -/
def State.pumpFuel (s : State) (n : Nat) : Nat :=
  let x := s.stream n
  if s.onTime n then
    match (s.mill (s.src n)).taps with
    | y :: _ =>
      let f := s.rate n
      let t := match x.grid with
        | some g => gridInstant f g.1 g.2
        | none => (secondInst (s.mill (s.src n)).taps).getD y.inst
      ((y.inst - t) * (f : Int) / (fuSec : Int)).toNat + 2
    | [] => 0
  else x.points.length

/-- R208: the second Millstone output of the run fixes the first grid instant of a time-grid stream. -/
def State.fixGrid (s : State) (n : Nat) : State :=
  match (s.mill (s.src n)).second, (s.stream n).grid with
  | some e2, none =>
    if s.onTime n then s.setStream n { s.stream n with grid := some (firstGrid (s.rate n) e2) } else s
  | _, _ => s

/-- Align serves a stream after a new output of its channel or of its reference, or after a new point. -/
def State.pump (s : State) (n : Nat) : State :=
  let s := s.fixGrid n
  let s' := State.pumpBy (s.pumpFuel n) s n
  -- R40: every filler of a forward step is out once an instant was interpolated or the second output is passed
  match secondInst (s'.mill (s'.src n)).taps, (s'.stream n).stepTask, (s'.stream n).grid with
  | some e2, some t, some g =>
    if s'.onTime n && !t.done && decide (e2 ≤ gridInstant (s'.rate n) g.1 g.2) then s'.stepDone n else s'
  | _, _, _ => s'

/-- R208: Align takes an output of a channel after FIR, or discards it when it is not later than the last one held. -/
def State.alignTake (s : State) (c : Nat) (x : Sample) : State :=
  let m := s.mill c
  let users := (s.streamsOn c).filter s.aligned
  if users = [] then s
  else
    let late := match m.taps with | y :: _ => decide (x.inst ≤ y.inst) | [] => false
    if late then s.bump 0x2F10 2
    else users.foldl (fun s n => s.pump n) (s.setMill c { m with
      taps := x :: m.taps, aligned := m.aligned + 1, second := if m.aligned = 1 then some x.inst else m.second })

end Sys2Proof.Machine
end

