-- ==== Sys2Proof/Machine/Tone.lean ====
section
/-! DEFINITION. The tone generators of Sounding (R135 to R138, R141): the phases of a tone, its current and the voltage
that removal takes off, the count of hold-phase samples, and the early fall of a tone. -/

namespace Sys2Proof.Machine

/-- Sounding on a port die. -/
def State.tone (s : State) (die : Nat) : Tone := Tbl.get Tone.reset s.tones die

/-- Replace it. -/
def State.setTone (s : State) (die : Nat) (t : Tone) : State := { s with tones := Tbl.set Tone.reset s.tones die t }

/-! ### The phases of a tone (R135) -/

/-- A tone of a channel starts with the settings as they are; they hold until it has fallen (Table 05-5). -/
def State.toneStart (s : State) (die c : Nat) : State :=
  s.setTone die { s.tone die with
    chan := some c, freq := s.e 0x2698 1, amp := s.e 0x2698 2, hold := s.e 0x2698 3
    startTick := s.gov.ticks, startAt := s.now, periods := 0, holdFrom := 8, holdAt := none, fallFrom := none, fallAt := none
    samples := 0, leftOut := 0, broke := false, cancelled := false, estimate := none }

/-- R135: a period of the tone has ended: the frequency is held to the Governor tick. -/
def State.tonePeriodDue (s : State) (die : Nat) : Bool :=
  let t := s.tone die
  t.chan.isSome && decide (t.startTick + ceilDiv ((t.periods + 1) * 400000000) (max 1 t.freq) ≤ s.gov.ticks)

/-- The tone stands on its hold phase. -/
def Tone.holding (t : Tone) : Bool := t.holdAt.isSome && t.fallFrom.isNone

/-- R135: the fall over 8 periods is over. -/
def Tone.fallen (t : Tone) : Bool := match t.fallFrom with | some f => decide (f + 8 ≤ t.periods) | none => false

/-- R135: one more period has passed: the hold phase begins after the rise, and the fall after the hold periods. -/
def Tone.nextPeriod (t : Tone) (now : Int) : Tone :=
  let n := t.periods + 1
  let t := { t with periods := n }
  if t.fallFrom.isSome then t
  else if n = t.holdFrom then { t with holdAt := some now }
  else if n = t.holdFrom + t.hold then { t with fallFrom := some n, fallAt := some now }
  else t

/-- R135, R138: a tone period ends; the estimate of the tone's voltage is taken anew. -/
def State.tonePeriod (s : State) (die : Nat) : State :=
  (s.setTone die { (s.tone die).nextPeriod s.now with estimate := some s.freeCtr }).fresh

/-- R141: the tone of a die falls early, and its channel's result is CANCELLED; a tone that falls already falls on. -/
def State.toneFalls (s : State) (die : Nat) : State :=
  let t := s.tone die
  if t.chan.isNone then s.setTone die { t with todo := [] }
  else s.setTone die { t with
    todo := [], cancelled := true
    fallFrom := some (t.fallFrom.getD t.periods), fallAt := some (t.fallAt.getD s.now) }

/-- R137: a range step during the hold phase of its channel starts the hold phase again, from the next period on
(DESIGN CHOICE, log entry 17). -/
def State.toneHoldAgain (s : State) (c : Nat) : State :=
  let t := s.tone (dieOf c)
  if t.chan = some c ∧ t.holding then
    s.setTone (dieOf c) { t with holdFrom := t.periods + 1, holdAt := none, samples := 0, leftOut := 0 }
  else s

/-- R137: a raw sample of the hold phase, or a missing conversion of it, is counted; one with a V-code other than 0 is
left out. -/
def State.toneSample (s : State) (c vcode : Nat) (stamp : Int) : State :=
  let t := s.tone (dieOf c)
  let begun : Bool := match t.holdAt with | some h => decide (h ≤ stamp) | none => false
  let before : Bool := match t.fallAt with | some f => decide (stamp < f) | none => true
  if t.chan = some c ∧ begun ∧ before then
    s.setTone (dieOf c) { t with samples := t.samples + 1, leftOut := if vcode = 0 then t.leftOut else t.leftOut + 1 }
  else s

/-- R142: the wire of a channel is found open while it is being sounded. -/
def State.toneBroken (s : State) (c : Nat) : State :=
  let t := s.tone (dieOf c)
  if t.chan = some c then s.setTone (dieOf c) { t with broke := true } else s

/-! ### The tone's current and its voltage (R135, R138) -/

/-- Sine of `x` in [0, π/2], both in units of 2^-30, by its series. -/
def sineSeries (x : Int) : Int :=
  let sq := rhe (x * x) 30
  let term := fun (t : Int) (k : Nat) => -(rne (rhe (t * sq) 30) ((2 * k) * (2 * k + 1)))
  ((List.range 7).foldl (fun (a : Int × Int) k => let t := term a.2 (k + 1); (a.1 + t, t)) (x, x)).1

/-- Sine of the turn `n / d`, in units of 2^-30 (its rounding is a DESIGN CHOICE, log entry 17). -/
def sineOf (n : Int) (d : Nat) : Int :=
  let k := (rne (n * 2 ^ 32) d) % 2 ^ 32
  let quarter := k / 2 ^ 30
  let x := k % 2 ^ 30
  let y := sineSeries (rhe ((if quarter % 2 = 0 then x else 2 ^ 30 - x) * 1686629713) 30)
  if quarter < 2 then y else -y

/-- R135: the envelope of a tone at an instant, in units of 2^-30: linear over the first 8 periods, then 1, and linear to
0 over the 8 periods of the fall. -/
def Tone.envelope (t : Tone) (at_ : Int) : Int :=
  let span : Int := 8 * (fuSec : Int)
  let rise := fun (u : Int) => clampI 0 (2 ^ 30) (rne ((u - t.startAt) * (t.freq : Int) * 2 ^ 30) span.toNat)
  match t.fallAt with
  | some f =>
    if at_ < f then rise at_
    else rhe (rise f * clampI 0 (2 ^ 30) (2 ^ 30 - rne ((at_ - f) * (t.freq : Int) * 2 ^ 30) span.toNat)) 30
  | none => rise at_

/-- R135: the tone current at an instant, in phase or a quarter turn ahead, in units of 2^-30 × 0.1 µA. -/
def Tone.current (t : Tone) (ahead : Bool) (at_ : Int) : Int :=
  let turns := (at_ - t.startAt) * (t.freq : Int) * 4 + (if ahead then (fuSec : Int) else 0)
  rhe ((t.amp : Int) * t.envelope at_ * sineOf turns (4 * fuSec)) 30

/-- R135: the current into CHnnn_P and out of CHnnn_N of a channel at an instant; in half-bridge mode only the first
flows. -/
def State.toneCurrents (s : State) (c : Nat) (at_ : Int) : Int × Int :=
  let t := s.tone (dieOf c)
  if t.chan = some c then
    let i := t.current false at_
    (i, if s.e (0x2400 + c) 1 = 3 then 0 else i)
  else (0, 0)

/-- R138: the tone voltage I(t) × Z to be removed from a sample of a sounded channel, in common units of
10.24 V / 2^25: Z is the running estimate, of which the spec gives no value (log entry 4), in mΩ. -/
def State.toneDrop (s : State) (c : Nat) (stamp : Int) : Int :=
  let t := s.tone (dieOf c)
  if t.chan = some c ∧ s.e 0x2698 4 = 1 then
    match t.estimate with
    | some k =>
      let re := signed 32 (Config.toneReal k).toNat
      let im := signed 32 (Config.toneImaginary k).toNat
      rne ((re * t.current false stamp + im * t.current true stamp) * 2 ^ 25) (2 ^ 30 * 102400000000)
    | none => 0
  else 0

end Sys2Proof.Machine
end

