-- ==== Sys2Proof/Machine/Mill.lean ====
section
/-! DEFINITION. A channel's Millstone (chapter 06): the common scale, compensation and tone removal, rank filters, CIC,
FIR, and the outputs at its three tap points. -/

namespace Sys2Proof.Machine

/-! ### The common scale (R147, R148) -/

/-- R147: the common value of a code on a range. -/
def commonOf (code : Int) (r : Nat) : Int := code * (4 ^ (4 - r) : Nat)

/-- R148: the widest range permitted to a channel. -/
def State.widest (s : State) (c : Nat) : Nat := if s.e (0x2400 + c) 2 = 1 then s.e (0x2400 + c) 4 else s.e (0x2400 + c) 3

/-- R147, R148: the common value of a raw sample. -/
def State.normalise (s : State) (c : Nat) (code : Int) (tag : Nat) : Int :=
  commonOf code (if tag = 7 then s.widest c else tag)

/-- A value kept in the 26-bit common scale; the spec states none outside it (DESIGN CHOICE, log entry 4). -/
def State.inScale (s : State) (v : Int) : Int × State :=
  if -(2 ^ 25) ≤ v ∧ v < 2 ^ 25 then (v, s) else (signed 26 (Config.outOfScale s.freeCtr).toNat, s.fresh)

/-- R66: the lead voltage that a 2-wire RTD's raw value loses, in common units. -/
def State.leadDrop (s : State) (c : Nat) : Int :=
  rne ((s.e (0x2400 + c) 9 * s.e (0x2600 + grp c) 6 * 32768 : Nat) : Int) 10000000

/-- R66, R67: compensation of a normalised value: value, V-code, tag. -/
def State.compensate (s : State) (c : Nat) (v : Int) (vcode tag : Nat) : Int × Nat × Nat × State :=
  let mode := s.e (0x2400 + c) 1
  if mode = 7 then let a := s.inScale (v - s.leadDrop c); (a.1, vcode, tag, a.2)
  else if mode = 8 then
    match (s.mill (c + 1)).latest with
    | none => (v, max vcode 2, tag, s)
    | some (w, vc, tg) => let a := s.inScale (v - w); (a.1, max vcode vc, if tg = 7 then 7 else tag, a.2)
  else (v, vcode, tag, s)

/-! ### Stages -/

/-- The median of an odd number of words (R152). -/
def median (xs : List Int) : Int := (sortI xs).getD ((xs.length - 1) / 2) 0

/-- An output formed from several samples, oldest first, with a value of its own. -/
def fromSamples (val : Int) (sat : Bool) (xs : List Sample) (inst : Int) : Sample :=
  let j := joinSamples xs
  ⟨val, j.1, if sat then 7 else j.2.1, inst, j.2.2⟩

/-- R152, R153: the pre-rank filter takes an input and gives its output once its window is full. -/
def preRank (w : Nat) (m : Mill) (x : Sample) : Mill × Option Sample :=
  if w = 0 then (m, some x)
  else
    let xs := (x :: m.pre).take w
    ({ m with pre := xs }, if xs.length = w then
      let ys := xs.reverse
      some (fromSamples (median (ys.map Sample.val)) false ys x.inst) else none)

/-- One pass of the integrators, each taking what the one before it has become (R156). -/
def integrate (v : Nat) : List Nat → List Nat
  | [] => []
  | i :: is => let j := (i + v) % 2 ^ 106; j :: integrate j is

/-- One pass of the combs: the result and the new delays (R156). -/
def combine (v : Nat) : List Nat → Nat × List Nat
  | [] => (v, [])
  | d :: ds => let r := combine ((v + 2 ^ 106 - d) % 2 ^ 106) ds; (r.1, v :: r.2)

/-- R156: the gain correction of a comb result. -/
def cicScale (n r : Nat) (c : Int) : Int :=
  let g := r ^ n
  let b := ceilLog2 g
  rhe (c * rne ((2 ^ (b + 31) : Nat) : Int) g) (b + 25)

/-- R155, R156: the CIC takes an input and gives every R_c-th time an output. -/
def cic (n r : Nat) (m : Mill) (x : Sample) : Mill × Option Sample :=
  if n = 0 then (m, some x)
  else
    let k := m.cicIn
    let integ := integrate (unsigned 106 (x.val / 64)) (if m.integ = [] then List.replicate n 0 else m.integ)
    let codes := if x.vcode = 0 then m.cicCodes else Tbl.put m.cicCodes x.vcode k
    let m := { m with integ := integ, cicIn := k + 1, cicCodes := codes, cicTag7 := if x.tag = 7 then k + 1 else m.cicTag7 }
    if (k + 1) % r ≠ 0 then (m, none)
    else
      let c := combine (integ.getLast?.getD 0) (if m.comb = [] then List.replicate n 0 else m.comb)
      let lo := k - n * (r - 1)
      let vc := maxNat ((codes.filter (fun p => decide (lo ≤ p.2))).map Prod.fst)
      ({ m with comb := c.2 },
       some ⟨cicScale n r (signed 106 c.1), vc, if lo < m.cicTag7 then 7 else x.tag, x.inst, ⟨m.startAt + lo, x.span.hi, x.span.last⟩⟩)

/-- R159: the FIR takes an input and gives every R_f-th time an output; the flag says that it was saturated. -/
def fir (taps : List Int) (r : Nat) (m : Mill) (x : Sample) : Mill × Option Sample × Bool :=
  if taps = [] then (m, some x, false)
  else
    let us := (x :: m.fir).take taps.length
    let m := { m with fir := us, firIn := m.firIn + 1 }
    if m.firIn % r ≠ 0 then (m, none, false)
    else
      let acc := sumInt ((taps.zip us).map (fun p => p.1 * p.2.val))
      let y := rhe acc 22
      let z := clampI (-(2 ^ 31)) (2 ^ 31 - 1) y
      (m, some (fromSamples z (decide (z ≠ y)) us.reverse x.inst), decide (z ≠ y))

/-- R154: the post-rank filter takes an input and gives its output from the (h + 1)-th on, padded with copies of the
first input. -/
def postRank (w : Nat) (m : Mill) (x : Sample) : Mill × Option Sample :=
  if w = 0 then (m, some x)
  else
    let xs := (x :: m.post).take w
    let m := { m with post := xs, postIn := m.postIn + 1 }
    if m.postIn ≤ (w - 1) / 2 then (m, none)
    else
      let ys := xs.reverse
      let pad := match ys with | f :: _ => List.replicate (w - ys.length) f.val | [] => []
      (m, some (fromSamples (median (pad ++ ys.map Sample.val)) false ys x.inst))

/-- R166: the first W outputs at a tap point after a start carry V-code 1 or more. -/
def warm (w count : Nat) (x : Sample) : Sample := if count < w then { x with vcode := max x.vcode 1 } else x

/-! ### A raw sample through a Millstone -/

/-- Streams of the plan at a Millstone tap of a channel. -/
def State.tapStreams (s : State) (c tap : Nat) : List Nat := (s.streamsOf c).filter (fun n => decide (s.tap n = tap))

/-- An output reaches the streams at a Millstone tap. -/
def State.tapOut (s : State) (c tap : Nat) (x : Sample) : State :=
  (s.tapStreams c tap).foldl (fun s n => s.streamInput n 0 ⟨x.val, 0, x.vcode, x.tag, x.inst, [], x.span, none⟩) s

/-- R144: a sample on the common scale goes through the stages of its channel. It answers the outputs at the tap
points, by tap, in the order in which they arose. -/
def State.stages (s : State) (c : Nat) (x : Sample) : State × List (Nat × Sample) :=
  let eff := fun tap (y : Sample) => { y with inst := s.effective c tap x.inst }
  let a := preRank (s.e (0x2800 + c) 1) (s.mill c) x
  match a.2 with
  | none => (s.setMill c a.1, [])
  | some p =>
    let m := a.1
    let o0 := warm (s.warmup c 0) m.outRank (eff 0 p)
    let b := cic (s.cicN c) (s.cicR c) { m with outRank := m.outRank + 1 } p
    match b.2 with
    | none => (s.setMill c b.1, [(0, o0)])
    | some q =>
      let m := b.1
      let o1 := warm (s.warmup c 1) m.outCic (eff 1 q)
      let f := fir (if s.firSet c = 0xFF then [] else s.taps (s.firSet c)) (s.firR c) { m with outCic := m.outCic + 1 } q
      let s := if f.2.2 then s.bump (0x2800 + c) 0x0D else s
      match f.2.1 with
      | none => (s.setMill c f.1, [(0, o0), (1, o1)])
      | some r =>
        let g := postRank (s.e (0x2800 + c) 6) f.1 r
        match g.2 with
        | none => (s.setMill c g.1, [(0, o0), (1, o1)])
        | some t =>
          let o2 := warm (s.warmup c 2) g.1.outFir (eff 2 t)
          let m := { g.1 with outFir := g.1.outFir + 1 }
          let s := if m.outFir ≥ s.warmup c 2 then s.setE (0x2800 + c) 12 1 else s
          (s.setMill c m, [(0, o0), (1, o1), (2, o2)])

/-- Channels whose compensation draws on a channel: the code 8 partner of a code 10 channel (R66). -/
def State.drawnBy (s : State) (c : Nat) : List Nat :=
  if s.e (0x2400 + c) 1 = 10 ∧ 0 < c ∧ s.e (0x2400 + (c - 1)) 1 = 8 then [c - 1] else []

/-- R17, R315: a raw sample with a new index of a code 8 channel: it extends the range of every gap of its partner that
still stands in for the partner's latest value. -/
def State.partnerGap (s : State) (c idx : Nat) : State :=
  if s.e (0x2400 + c) 1 = 8 ∧ ((s.mill (c + 1)).latest.map (fun l => l.2.1)) = some 7 then
    (s.streamsOn c).foldl (fun s n =>
      let x := s.stream n
      s.setStream n { x with gapTasks := x.gapTasks.map (fun t =>
        if t.on = c ∧ t.chan = c + 1 ∧ t.more then { t with lo := min t.lo idx, hi := idx } else t) }) s
  else s

/-- R17: a raw sample of a code 10 channel ends the ranges of its gaps on its partner. -/
def State.partnerBack (s : State) (c vcode : Nat) : State :=
  if vcode = 7 then s
  else (s.drawnBy c).foldl (fun s d => (s.streamsOn d).foldl (fun s n =>
    let x := s.stream n
    s.setStream n { x with gapTasks := x.gapTasks.map (fun t => if t.on = d ∧ t.chan = c then { t with more := false } else t) }) s) s

/-- One raw sample of a channel, or a missing conversion in its place (R149), as a sample on the common scale. -/
def State.intake (s : State) (c : Nat) (code : Int) (tag vcode : Nat) (stamp : Int) : Sample × State :=
  let v := s.normalise c code tag
  let s := ((s.toneSample c vcode stamp).partnerGap c (s.mill c).raws).partnerBack c vcode
  let m := s.mill c
  let s := s.setMill c { m with raws := m.raws + 1, latest := some (v, vcode, tag) }
  let k := s.compensate c v vcode tag
  let z := k.2.2.2.inScale (k.1 - s.toneDrop c stamp)
  (⟨z.1 * 64, k.2.1, k.2.2.1, stamp, ⟨m.raws, m.raws, stamp⟩⟩, z.2)

/-- R149, R165: a Millstone starts: every stage is cleared and counts from 0, and no raw sample came before. -/
def State.startMill (s : State) (c : Nat) : State :=
  let m := s.mill c
  let s := s.setMill c { m with
    running := true, startAt := m.raws, lastRaw := none, pre := [], integ := [], comb := [], cicIn := 0, cicCodes := [], cicTag7 := 0,
    fir := [], firIn := 0, post := [], postIn := 0, outRank := 0, outCic := 0, outFir := 0 }
  let s := s.setE (0x2800 + c) 12 (if s.warmup c 2 = 0 then 1 else 2)
  (s.tapStreams c 0 ++ s.tapStreams c 1 ++ s.tapStreams c 2).foldl State.dropWindow s

/-- The channels that a group converts. -/
def State.convertedOf (s : State) (g : Nat) : List Nat :=
  ((List.range 4).map (fun i => 4 * g + i)).filter s.converted

/-- R165: the Millstones of a group's channels start; each counts in 0x2700.25 of the group. -/
def State.startMills (s : State) (g : Nat) : State :=
  (s.convertedOf g).foldl (fun s c => (s.startMill c).bump (0x2700 + g) 0x25) s

/-! ### Marking after a wire break (R131) -/

/-- Raise the V-code of a sample that draws on a raw sample at or after an instant. -/
def Sample.markFrom (tu : Int) (x : Sample) : Sample :=
  if !x.span.isNone && decide (tu ≤ x.span.last) then { x with vcode := max x.vcode 5 } else x

/-- Everything that a Millstone still holds. -/
def Mill.markFrom (tu : Int) (m : Mill) : Mill :=
  let newest := match m.pre with
    | x :: _ => decide (tu ≤ x.span.last)
    | [] => match m.lastRaw with | some r => decide (tu ≤ r.stamp) | none => false
  { m with
    pre := m.pre.map (Sample.markFrom tu)
    cicCodes := if newest && decide (0 < m.cicIn) then Tbl.put m.cicCodes 5 (m.cicIn - 1) else m.cicCodes
    fir := m.fir.map (Sample.markFrom tu)
    post := m.post.map (Sample.markFrom tu)
    taps := m.taps.map (Sample.markFrom tu) }

/-- A span that reaches an instant. -/
def Span.reaches (tu : Int) (p : Span) : Bool := !p.isNone && decide (tu ≤ p.last)

/-- An input that waits in a reduction window. -/
def RIn.markFrom (tu : Int) (own : Bool) (r : RIn) : RIn :=
  let p := if own then r.own else r.ref.getD Span.none
  if p.reaches tu then { r with vcode := max r.vcode 5 } else r

/-- An output that waits in a block. -/
def Out.markFrom (tu : Int) (own : Bool) (fmt : Nat) (o : Out) : Out :=
  let p := if own then o.own else o.ref.getD Span.none
  if p.reaches tu then o.mark fmt 5 else o

/-- R131: mark what is still in the chain of a channel. -/
def State.markChain (s : State) (c : Nat) (tu : Int) : State :=
  let s := s.setMill c ((s.mill c).markFrom tu)
  let g := grp c
  let s := s.setGroup g { s.group g with buf := (s.group g).buf.map (fun r =>
    if r.chan = c ∧ tu ≤ r.stamp then { r with vcode := max r.vcode 5 } else r) }
  (s.streamsOn c).foldl (fun s n =>
    let own := decide (s.src n = c)
    let blk := fun (b : Block) => { b with outs := b.outs.map (Out.markFrom tu own (s.format n)) }
    let x := s.stream n
    s.setStream n { x with
      win := x.win.map (RIn.markFrom tu own)
      openBlk := x.openBlk.map blk
      closed := x.closed.map blk }) s

end Sys2Proof.Machine
end

