-- ==== Sys2Proof/Machine/Front.lean ====
section
/-! DEFINITION. The front ends: blanking (R87), V-codes of a conversion (R88, R113 to R119), auto-ranging (R70, R71),
open-wire checks and excursions (R123 to R133), and the conversion itself (R97, R98, R110 to R112). -/

namespace Sys2Proof.Machine

/-! ### Blank sources (R87) -/

/-- R87: start of the latest occurrence of window `w` at or before an instant. -/
def State.windowStart (s : State) (w : Nat) (t : Int) : Option Int :=
  let i := 0x2681 + w
  let start := ofTime96 (s.e i 2)
  let period := s.e i 4 * fuNs
  if s.e i 1 = 0 ∨ t < start then none
  else if period = 0 then some start
  else
    let n := ((t - start) / (period : Int)).toNat
    let r := s.e i 5
    let k := if r ≠ 0 ∧ r ≤ n then r - 1 else n
    some (start + ((k * period : Nat) : Int))

/-- R87: is window `w` active at an instant? -/
def State.windowActive (s : State) (w : Nat) (t : Int) : Bool :=
  match s.windowStart w t with
  | some a => decide (t < a + ((s.e (0x2681 + w) 3 * fuNs : Nat) : Int))
  | none => false

/-- R87: is BLANK pin `k` active at an instant? The first 150 ns after it asserts are open. -/
def State.pinActive (s : State) (k : Nat) (t : Int) : Bool :=
  let b := Tbl.get (Blank.mk none none) s.blanks k
  let on := match b.asserted with
    | some a => if a + 150 * fuNs ≤ t then true else Config.blankedEarly s.freeCtr
    | none => false
  let hang := match b.hangEnd with | some h => decide (t < h) | none => false
  on || hang

/-- R87: a blank source that the channel selects is active at an instant. -/
def State.blanked (s : State) (c : Nat) (t : Int) : Bool :=
  let sel := s.e (0x2400 + c) 12
  (List.range 4).any (fun k => bit sel k && s.pinActive k t) || (List.range 8).any (fun w => bit sel (4 + w) && s.windowActive w t)

/-- The level of a BLANK pin that asserts it, under its mode. -/
def State.blankAsserted (s : State) (k : Nat) : Bool :=
  let m := s.e 0x2680 (1 + k)
  (m = 1 && bit s.pins.blank k) || (m = 2 && !bit s.pins.blank k)

/-- R87: take the present level of a BLANK pin. Pulses shorter than 100 ns are ignored. -/
def State.takeBlank (s : State) (k : Nat) : State :=
  let b := Tbl.get (Blank.mk none none) s.blanks k
  let put := fun (x : Blank) => { s with blanks := Tbl.set (Blank.mk none none) s.blanks k x }
  match b.asserted, s.blankAsserted k with
  | none, true => put { b with asserted := some s.now }
  | some a, false =>
    if s.now - a < 100 * fuNs then put { b with asserted := none }
    else put ⟨none, some (s.now + fuUs (s.e 0x2680 (5 + k)))⟩
  | _, _ => s

/-! ### V-codes (R88, R113) -/

/-- The channel is a bridge (R73, R74). -/
def State.isBridge (s : State) (c : Nat) : Bool := decide (s.e (0x2400 + c) 1 = 2 ∨ s.e (0x2400 + c) 1 = 3)

/-- R88: the largest V-code of the conditions that apply to a conversion at an instant, those of held values apart. -/
def State.frontVcode (s : State) (c : Nat) (t : Int) : Nat :=
  let p := s.xport (grp c)
  let x := s.chan c
  let open_ := x.broken.isSome || x.iepeOpen
  let suspect := x.iepeFolded || (s.isBridge c && (p.senseFault || p.foldback)) ||
    (p.senseFault && decide (s.e (0x2600 + grp c) 1 ≠ 1))
  let settling := p.discharging || p.deferred || decide (p.settleFrom ≤ t ∧ t < p.settleTo)
  if open_ then 6 else if suspect then 5 else if s.blanked c t then 4 else if settling then 3 else 0

/-! ### Ranges (R70, R71, R116, R117) -/

/-- R68: full scale of a range in common units. -/
def fullScale (r : Nat) : Int := commonOf 131072 r

/-- The range that a channel's next conversion uses. -/
def State.targetRange (s : State) (c : Nat) : Nat := (s.chan c).nextRange.getD (s.e (0x2400 + c) 13)

/-- R116, R117: start, or start again, the replacement of the channel's raw samples. -/
def State.startHold (s : State) (c : Nat) : State := s.setChan c { s.chan c with hold := s.e (0x2400 + c) 7 }

/-- R70, R137: a range step, effective at the channel's next conversion. -/
def State.rangeStep (s : State) (c r : Nat) : State :=
  if r = s.targetRange c then s
  else
    let s := (s.setChan c { s.chan c with nextRange := some r }).bump (0x2400 + c) 14
    (s.startHold c).toneHoldAgain c

/-- R70: the range that the settings give to a channel. -/
def State.rangeOfSettings (s : State) (c : Nat) : Nat :=
  let i := 0x2400 + c
  if s.e i 2 = 0 then s.e i 3 else min (max (s.targetRange c) (s.e i 4)) (s.e i 5)

/-- R70: the decision after a raw sample that takes part in ranging. -/
def State.autoRange (s : State) (c : Nat) (code : Int) : State :=
  let i := 0x2400 + c
  let r := s.targetRange c
  let x := s.chan c
  let saturated := decide (code = -131072 ∨ code = 131071)
  if s.e i 2 = 0 then s
  else if saturated ∧ s.e i 4 < r then s.rangeStep c (s.e i 4)
  else if 117965 ≤ code.natAbs ∧ s.e i 4 < r then (s.setChan c { x with below := 0 }).rangeStep c (r - 1)
  else if code.natAbs ≤ 26214 ∧ r < s.e i 5 then
    if x.below + 1 = s.e i 6 then (s.setChan c { x with below := 0 }).rangeStep c (r + 1)
    else s.setChan c { x with below := x.below + 1 }
  else s.setChan c { x with below := 0 }

/-! ### Wire breaks (R129 to R133, R505) -/

/-- The plan start instant S (0x2790.03). -/
def State.planStart (s : State) : Int := ofTime96 (s.e 0x2790 3)

/-- R123, R64: pull-current checks are on; they do not apply to an IEPE channel. -/
def State.checksOn (s : State) (c : Nat) : Bool := decide (s.e (0x2400 + c) 17 ≠ 0 ∧ s.e (0x2400 + c) 1 ≠ 4)

/-- R129: the instant from which the channel's readings are uncertain. -/
def State.uncertainFrom (s : State) (c : Nat) : Int :=
  ((if s.checksOn c then (s.chan c).lastClean else (s.chan c).lastCalm)).getD s.planStart

/-- A Ledger event for every stream that draws on a channel, or one hub-wide event where there is none. -/
def State.wireEvents (s : State) (c : Nat) (reason : Nat) (a b : Int) (detail : List Byte)
    (range : State → Nat → Nat × Nat) : State :=
  match s.streamsOn c with
  | [] => s.hubEvent reason 0 a b detail
  | ns => ns.foldl (fun s n =>
      let r := range s n
      (s.streamEvent n { Led.of 0x14 n reason r.1 r.2 a b with detailB := detail }).fresh) s

/-- R132: the outputs of a stream that could not be marked and draw on a raw sample at or after T_u. With none the
count is 0 and the first sequence is open (DESIGN CHOICE, log entry 4). -/
def State.fixedRange (s : State) (c : Nat) (tu : Int) (n : Nat) : Nat × Nat :=
  let own := decide (s.src n = c)
  match (s.stream n).fixed.filter (fun f => decide (tu ≤ if own then f.2.1 else f.2.2)) with
  | [] => ((Config.emptyRangeFirst s.freeCtr).toNat, 0)
  | f :: fs => (f.1, fs.length + 1)

/-- R130 to R132: the wire of a channel is found open. -/
def State.wireBreak (s : State) (c detector : Nat) (td : Int) : State :=
  if s.e (0x2400 + c) 22 = 1 then s
  else
    let tu := s.uncertainFrom c
    let s := s.markChain c tu
    let s := (s.setChan c { s.chan c with broken := some td, cleanRun := 0 }).toneBroken c
    let s := (s.setE (0x2400 + c) 22 1).bump (0x2400 + c) 23
    let d := toBytes 2 c ++ toBytes 1 detector
    (s.event 2 0x0501 d).wireEvents c 33 tu td d (fun s n => s.fixedRange c tu n)

/-- R133: the wire of a channel is restored. -/
def State.wireRestored (s : State) (c : Nat) (at_ : Int) : State :=
  let s := s.setChan c { s.chan c with broken := none, cleanRun := 0 }
  (s.setE (0x2400 + c) 22 0).wireEvents c 34 at_ 0 (toBytes 2 c) (fun s n => (s.e (strm n) 0x13, 0))

/-- R133, R505: one clean check, or one conversion that is no excursion with the checks off. -/
def State.cleanEvidence (s : State) (c : Nat) (at_ : Int) : State :=
  match s.e (0x2400 + c) 22 with
  | 2 => s.setE (0x2400 + c) 22 0
  | 1 =>
    let n := (s.chan c).cleanRun + 1
    let s := s.setChan c { s.chan c with cleanRun := n }
    if s.e (0x2400 + c) 21 ≤ n then s.wireRestored c at_ else s
  | _ => s

/-! ### Checks (R123 to R127) -/

/-- R125: a check of a channel is due at a check entry with the given scheduled instant. -/
def State.checkDue (s : State) (c : Nat) (sched : Int) : Bool :=
  s.checksOn c && (match (s.chan c).lastCheck with
    | none => true
    | some t => decide (t + fuMs (s.e (0x2400 + c) 18) - ((s.np (grp c) * slotFu : Nat) : Int) < sched))

/-- R126: the verdict of a check conversion that is judged. -/
def State.judgeCheck (s : State) (c : Nat) (code : Int) (last : Int) (at_ : Int) : State :=
  let r := s.e (0x2400 + c) 13
  let delta := commonOf code r - s.toneDrop c at_ - last
  let open_ := decide (code = -131072 ∨ code = 131071 ∨ fullScale r * (s.e (0x2400 + c) 19 : Int) ≤ 100 * delta)
  let s := s.setChan c { s.chan c with lastCheck := some at_ }
  if open_ then (s.setChan c { s.chan c with cleanRun := 0 }).wireBreak c 0 at_
  else
    let s := s.setChan c { s.chan c with lastClean := some at_ }
    (s.setE (0x2400 + c) 24 (toTime96 at_)).cleanEvidence c at_

/-- R128: the excursion verdict of a conversion. -/
def State.excursion (s : State) (c : Nat) (beyond : Bool) (at_ : Int) : State :=
  if s.e (0x2400 + c) 20 = 0 ∨ s.e (0x2400 + c) 1 = 4 ∨ s.blanked c at_ then s
  else
    let x := s.chan c
    if beyond then
      let s := s.setChan c { x with excRun := x.excRun + 1, cleanRun := if s.checksOn c then x.cleanRun else 0 }
      if 2 ≤ x.excRun + 1 then s.wireBreak c 1 at_ else s
    else
      let s := s.setChan c { x with excRun := 0, lastCalm := some at_ }
      if s.checksOn c then s else s.cleanEvidence c at_

/-! ### Raw words for a ready standby (R356, R357) -/

/-- R356: a raw word (Table 13-2). -/
def rawWord (chan entry : Nat) (phase held : Bool) (tag vcode kind : Nat) (exc : Bool) (value off : Nat) : Nat :=
  chan * 2 ^ 55 + entry * 2 ^ 51 + (if phase then 2 ^ 50 else 0) + (if held then 2 ^ 49 else 0) + tag * 2 ^ 46 +
  vcode * 2 ^ 43 + kind * 2 ^ 40 + (if exc then 2 ^ 39 else 0) + value * 2 ^ 21 + off

/-- Raw words wait for the T port. -/
def State.queueWords (s : State) (ws : List Nat) : State :=
  { s with twin := { s.twin with words := s.twin.words ++ ws, ahead := s.twin.ahead + ws.length } }

/-- R357: an anchor is owed for a rotation of a group. -/
def State.oweAnchor (s : State) (g : Nat) (r : Int) : State :=
  if s.feeds then { s with twin := { s.twin with anchorDue := s.twin.anchorDue ++ [(g, r)] } } else s

/-- R357: the anchor that a group owes goes ahead of the first word of its rotation. -/
def State.sendAnchor (s : State) (g : Nat) (sched : Int) : State :=
  let due := fun (p : Nat × Int) => decide (p.1 = g ∧ p.2 ≤ sched)
  match (s.twin.anchorDue.filter due).getLast? with
  | some (_, r) =>
    let t := toTime96 r
    { s with twin := { s.twin with anchorDue := s.twin.anchorDue.filter (fun p => !due p) } }.queueWords
      [rawWord g 0 false false 0 0 3 false 0 0, t / 2 ^ 64, t % 2 ^ 64]
  | none => s

/-- R356, R372: a conversion scheduled for an instant is mirrored; after a planned swap is fixed, only those before it. -/
def State.mirrorsAt (s : State) (sched : Int) : Bool :=
  s.feeds && (match s.twin.swapAt with | some x => decide (sched < x) | none => true)

/-- R356: mirror a raw record to the standby. -/
def State.mirrorRaw (s : State) (r : Raw) : State :=
  if s.mirrorsAt r.sched then
    (s.sendAnchor (grp r.chan) r.sched).queueWords
      [rawWord r.chan r.entry r.phase r.held r.tag r.vcode (if r.gap then 1 else 0) r.exc
        (if r.gap then r.code.toNat else unsigned 18 r.code) (r.stamp - r.sched).toNat]
  else s

/-- R134, R356: mirror the result of a check that was judged. -/
def State.mirrorCheck (s : State) (c entry : Nat) (open_ : Bool) (sched : Int) : State :=
  if s.mirrorsAt sched then
    (s.sendAnchor (grp c) sched).queueWords
      [rawWord c entry false false 0 0 2 false (if open_ then 1 else 0) (s.now - sched).toNat]
  else s

/-! ### The raw buffer (R110 to R112) -/

/-- R110: the largest count that a gap record carries. -/
def gapMax : Nat := 262143

/-- R112: keep count of a conversion at instant `t` that found the buffer full. What exceeds a gap record's count goes
into a further one (DEDUCED, log entry 21). -/
def addMissing (c : Nat) (t sched : Int) : List Missing → List Missing
  | [] => [⟨c, t, [sched]⟩]
  | m :: r =>
    if m.chan = c ∧ m.scheds.length < gapMax then { m with scheds := m.scheds ++ [sched] } :: r
    else m :: addMissing c t sched r

/-- R110: the gap record of missing conversions. Table 04-4 does not say what Entry, Interleave phase, Held, Range tag
and V-code hold in it: the model writes 0, 0, 0, 0 and 7 (DESIGN CHOICE, log entry 21). -/
def Missing.record (m : Missing) : Raw :=
  ⟨m.chan, 0, false, false, 0, 7, true, m.scheds.length, m.first, m.scheds.headD m.first, false, m.scheds⟩

/-- R110: the 160-bit raw record of Table 04-4. -/
def Raw.word (r : Raw) : Nat :=
  r.chan * 2 ^ 151 + r.entry * 2 ^ 147 + (if r.phase then 2 ^ 146 else 0) + (if r.held then 2 ^ 145 else 0) +
  r.tag * 2 ^ 142 + r.vcode * 2 ^ 139 + (if r.gap then 2 ^ 138 else 0) + unsigned 18 r.code * 2 ^ 118 + toTime96 r.stamp

/-- R255: set a PACE_LOW bit; the event log takes every setting. -/
def State.paceBit (s : State) (i : Nat) : State :=
  if s.flagged 0x2D00 9 i then s else (s.flag 0x2D00 9 i true).event 1 0x0601 (toBytes 1 i)

/-- R112: gap records of a group go out while the buffer has room, oldest first. -/
def State.sendGaps (s : State) (g : Nat) : State := go (s.group g).missing.length s
where
  go : Nat → State → State
    | 0, s => s
    | k + 1, s =>
      let x := s.group g
      match x.missing with
      | [] => s
      | m :: r =>
        if 64 ≤ x.buf.length then s
        else
          let n := m.scheds.length
          let s := ((s.setGroup g { x with buf := x.buf ++ [m.record], missing := r }).mirrorRaw m.record).bump (0x2700 + g) 0x22 n
          go k ((s.paceBit 3).event 1 0x0402 (toBytes 1 g ++ toBytes 2 m.chan ++ toBytes 4 n))

/-- A raw record enters its group's buffer and is mirrored (R356), or is counted as missing (R112). -/
def State.pushRaw (s : State) (g : Nat) (r : Raw) : State :=
  let s := s.sendGaps g
  let x := s.group g
  if x.buf.length < 64 ∧ x.missing = [] then (s.setGroup g { x with buf := x.buf ++ [r] }).mirrorRaw r
  else s.setGroup g { x with missing := addMissing r.chan r.stamp r.sched x.missing }

/-! ### Conversions (R94, R97) -/

/-- Scheduled instant of an entry of the rotation in progress (R97, R107). -/
def State.scheduled (s : State) (g : Nat) (origin : Int) (i : Nat) (second : Bool) : Int :=
  origin + ((slotFu * slotsBefore (s.entries g) i : Nat) : Int) + if second then ((slotFu / 2 : Nat) : Int) else 0

/-- An entry in which the converter acts: a channel entry, or a check entry whose check is due and whose port is not
discharging (R94, R127). -/
def State.acts (s : State) (g : Nat) (origin : Int) (i : Nat) : Bool :=
  let w := (s.entries g).getD i 0
  if entryKind w = 0 then true
  else if entryKind w = 2 then s.checkDue (entryChan g w) (s.scheduled g origin i false) && !(s.xport g).discharging
  else false

/-- The first entry from `i` on, of the rotation that began at `origin`, in which the converter acts. -/
def State.entryFrom (s : State) (g : Nat) (origin : Int) (i : Nat) : Option Nat :=
  ((List.range (s.rotLen g)).drop i).find? (s.acts g origin)

/-- The next entry of the rotation in progress in which the converter acts. -/
def State.nextEntry (s : State) (g : Nat) (origin : Int) : Option Nat := s.entryFrom g origin (s.group g).entry

/-! ### The multiplexer and the pull current (R98, R123, R124) -/

/-- R98: the entry that the multiplexer goes to from entry `i` on, in rotation order; after the last entry it wraps to
the rotation that follows. -/
def State.muxTarget (s : State) (g : Nat) (origin : Int) (i : Nat) : Option Nat :=
  match s.entryFrom g origin i with
  | some k => some k
  | none => s.entryFrom g (origin + ((s.np g * slotFu : Nat) : Int)) 0

/-- R98: the multiplexer of a group will switch 40 ns after the conversion in entry `i` began. -/
def State.muxSwitch (s : State) (g i : Nat) : State :=
  let x := s.group g
  s.setGroup g { x with mux := ⟨some i, s.muxTarget g (x.origin.getD 0) (i + 1), s.now + 40 * fuNs⟩ }

/-- With no conversion before it (a plan start, a burst, a step of domain 0) the multiplexer goes at once to the entry
that comes next, if it does not stand there already (DESIGN CHOICE, log entry 21). -/
def State.muxAim (s : State) (g : Nat) (origin : Int) : State :=
  let x := s.group g
  let i := s.muxTarget g origin x.entry
  if x.mux.next = i then s else s.setGroup g { x with mux := ⟨none, i, s.now⟩ }

/-- The entry on which the multiplexer of a group stands. -/
def State.muxEntry (s : State) (g : Nat) : Option Nat :=
  let m := (s.group g).mux
  if m.at_ ≤ s.now then m.next else m.last

/-- R98, R124: time since the multiplexer switched: the acquisition of a channel entry, the dwell of a check entry. -/
def State.dwell (s : State) (g : Nat) : Int := s.now - (s.group g).mux.at_

/-- R123, R124, R86: the pull current of a channel is on: the multiplexer stands on a check entry for it, to which it
goes only while the check is due. A member in listen mode applies none. -/
def State.pullOn (s : State) (c : Nat) : Bool :=
  match s.muxEntry (grp c) with
  | none => false
  | some i =>
    let w := (s.entries (grp c)).getD i 0
    decide (entryKind w = 2 ∧ entryChan (grp c) w = c) && s.checksOn c && !s.listening

/-- R123: current in µA out of the source at CHnnn_P and into the sink at CHnnn_N; in half-bridge mode only the source
acts. -/
def State.pullCurrents (s : State) (c : Nat) : Nat × Nat :=
  if s.pullOn c then
    let i := if s.e (0x2400 + c) 17 = 1 then 1 else 10
    (i, if s.e (0x2400 + c) 1 = 3 then 0 else i)
  else (0, 0)

/-- R70: the channel's pending range takes effect. -/
def State.applyRange (s : State) (c : Nat) : State :=
  match (s.chan c).nextRange with
  | some r => (s.setChan c { s.chan c with nextRange := none }).setE (0x2400 + c) 13 r
  | none => s

/-- R126, R127, R89: a check conversion: judged, unless the channel has no raw sample yet in the run or is blanked. It
is a conversion of the channel, so a pending range takes effect (R70; DEDUCED, log entry 21). -/
def State.checkConversion (s : State) (c : Nat) (code : Int) (at_ : Int) : State :=
  let s := s.applyRange c
  match (s.chan c).lastRaw with
  | none => s
  | some last => if s.blanked c at_ then s else s.judgeCheck c code last at_

/-- R109: the code of a conversion: that of converter 2k + 1 is trimmed. -/
def State.trimmed (s : State) (g : Nat) (phase : Bool) (code : Int) : Int :=
  match (s.group g).trim with
  | some k => if phase then (Config.trimmed k (BitVec.ofInt 18 code)).toInt else code
  | none => code

/-- R82, R97, R110, R116: a conversion of a channel: what its port die makes of the code. It answers the raw record.
Where the discharge of R82 and the hold of R116 both ask for a value of their own, the held value goes out; a sample of
a blanked channel takes no part in ranging whatever larger V-code it carries (DESIGN CHOICES, log entries 14 and 16). -/
def State.sample (s : State) (c entry : Nat) (phase : Bool) (code : Int) (beyond : Bool) (at_ : Int) : Raw × State :=
  let g := grp c
  let code := s.trimmed g phase code
  let discharging := (s.xport g).discharging
  let s := if discharging then s else if s.listening then s.applyRange c else (s.applyRange c).excursion c beyond at_
  let range := s.e (0x2400 + c) 13
  let own : Int × Nat := (code, if code = -131072 ∨ code = 131071 then 7 else range)
  let x := s.chan c
  let conv := if discharging then x.lastConv else own
  let held := decide (0 < x.hold)
  let out := if held then x.held.getD (0, range) else conv
  let blank := s.blanked c at_
  let vcode := max (s.frontVcode c at_) (if held then 2 else 0)
  let s := s.setChan c { x with
    lastConv := conv
    hold := x.hold - 1
    held := if held then x.held else some out
    lastRaw := some (s.normalise c out.1 out.2 - s.toneDrop c at_) }
  let s := if discharging || held || blank then s else s.autoRange c code
  (⟨c, entry, phase, held, out.2, vcode, false, out.1, at_, at_, beyond, []⟩, s.fresh)

/-- Where the rotation and the multiplexer stand after an action in an entry. -/
def State.advance (s : State) (g i : Nat) (second : Bool) : State :=
  let x := s.group g
  let s := s.setGroup g (if s.interleaved g && !second then { x with second := true } else { x with entry := i + 1, second := false })
  s.muxSwitch g i

end Sys2Proof.Machine
end

