-- ==== Sys2Proof/Machine/Excitation.lean ====
section
/-! DEFINITION. Excitation ports: energy classes and limits (R75 to R79), switching on and off with discharge (R81 to
R84, R504), settle intervals (R118, R119), and faults of ports and IEPE sources (R64, R73, R74). -/

namespace Sys2Proof.Machine

/-- Port die of a group: 0 A, 1 B. -/
def dieOfGroup (g : Nat) : Nat := g / 64

/-- VEXC of a port die as measured, in mV (0x2690.02, .03). -/
def State.vexc (s : State) (die : Nat) : Nat := s.e 0x2690 (2 + die)

/-- Table 03-6: Uo in mV, Io in µA, Po in mW of an energy class; nothing for a seal fault. -/
def classCaps : Nat → Option (Nat × Nat × Nat)
  | 0 => some (28000, 32000, 900)
  | 1 => some (24000, 20000, 480)
  | 2 => some (16000, 15000, 240)
  | 3 => some (12000, 10000, 120)
  | 4 => some (7500, 5000, 40)
  | _ => none

/-- IEPE channels of a group. -/
def State.iepeChans (s : State) (g : Nat) : List Nat :=
  ((List.range 4).map (fun i => 4 * g + i)).filter (fun c => decide (s.e (0x2400 + c) 1 = 4))

/-- Sum of the IEPE currents of a group, in µA. -/
def State.iepeSum (s : State) (g : Nat) : Nat := sumNat ((s.iepeChans g).map (fun c => s.e (0x2400 + c) 10))

/-- R79: U in mV and I in µA of a port's settings; nothing with Port mode 0. -/
def State.portUI (s : State) (g : Nat) : Option (Nat × Nat) :=
  let i := 0x2600 + g
  match s.e i 1 with
  | 1 => some (s.e i 2 + s.e i 3, s.e i 5)
  | 2 => some (s.e i 7, s.e i 6)
  | 3 => some (s.e i 7, s.iepeSum g)
  | _ => none

/-- R79: the port's settings exceed the class. Under a seal fault no settings of a port that has a mode fit, so that a
write of them is refused as an enable is, of which alone R78 speaks (DESIGN CHOICE, log entry 14). -/
def State.overClass (s : State) (g : Nat) : Bool :=
  match s.portUI g with
  | none => false
  | some (u, i) =>
    match classCaps (s.e 0x2690 1) with
    | none => true
    | some (uo, io, po) =>
      decide (uo < u) || decide (io < i) || decide (po * 1000000 < u * i) || decide (s.e (0x2600 + g) 1 = 3 ∧ 3 ≤ s.e 0x2690 1)

/-- R75: VEXC in mV that the port needs. -/
def State.vexcNeed (s : State) (g : Nat) : Nat :=
  let i := 0x2600 + g
  if s.e i 1 = 1 then s.e i 2 + s.e i 3 + 1500 else s.e i 7 + 1000

/-- R76: planned dissipation of a port in nW (mV × µA), from its settings and VEXC as measured. -/
def State.dissipation (s : State) (g : Nat) : Nat :=
  let i := 0x2600 + g
  let v := s.vexc (dieOfGroup g)
  match s.e i 1 with
  | 1 => (v - s.e i 2) * s.e i 5
  | 2 => (v - 2000) * s.e i 6
  | 3 => (v - 2000) * s.iepeSum g
  | _ => 0

/-- Ports of a die. -/
def State.portsOf (s : State) (die : Nat) : List Nat :=
  ((List.range 64).map (fun i => 64 * die + i)).filter (fun g => decide (g < s.groupCount))

/-- Ports of a die whose output is on. -/
def State.onPorts (s : State) (die : Nat) : List Nat := (s.portsOf die).filter (fun g => (s.xport g).on)

/-- R76: total planned dissipation of a die's enabled ports, in nW. -/
def State.dieTotal (s : State) (die : Nat) : Nat := sumNat ((s.onPorts die).map s.dissipation)

/-- R76: report the planned dissipation of every port and die in mW, rounded (DESIGN CHOICE, log entry 14). -/
def State.reportDissipation (s : State) (die : Nat) : State :=
  let mw := fun n => (rne ((n : Nat) : Int) 1000000).toNat
  let s := (s.portsOf die).foldl (fun s g =>
    s.setE (0x2600 + g) 14 (if (s.xport g).on then mw (s.dissipation g) else 0)) s
  s.setE 0x2690 (4 + die) (mw (s.dieTotal die))

/-- R76: the die's total exceeds the budget with the port's settings as they are, the port counted as on. -/
def State.overBudget (s : State) (g : Nat) : Bool :=
  let d := dieOfGroup g
  let others := sumNat (((s.onPorts d).filter (fun h => decide (h ≠ g))).map s.dissipation)
  decide (s.e 0x2690 6 * 1000000 < others + s.dissipation g)

/-! ### Switching (R81, R84, R118, R504) -/

/-- R84, R118: an excitation change starts, or starts again, the port's settle interval. -/
def State.settle (s : State) (g : Nat) : State :=
  let x := s.xport g
  s.setXport g { x with settleFrom := s.now, settleTo := s.now + fuMs (s.e (0x2600 + g) 8) }

/-- Every port that is fitted. -/
def State.allPorts (s : State) : List Nat := s.portsOf 0 ++ s.portsOf 1

/-- R370: EXCITATION_DEFERRED clears with the last port that was deferred. -/
def State.deferredLeft (s : State) : State :=
  if s.allPorts.any (fun g => (s.xport g).deferred) then s else s.flag 0x3600 2 6 false

/-- R370: a port waits no longer for its output to fall below 0.5 V. -/
def State.undefer (s : State) (g : Nat) : State :=
  if (s.xport g).deferred then (s.setXport g { s.xport g with deferred := false }).deferredLeft else s

/-- A port comes on; the order in which ports come on counts for R77. -/
def State.portOn (s : State) (g : Nat) : State :=
  let s := s.undefer g
  let n := s.orders + 1
  let s := { s.setXport g { s.xport g with on := true, discharging := false, waitRun := false, order := n } with orders := n }
  (s.settle g).reportDissipation (dieOfGroup g)

/-- R64: the IEPE sources of a group are off, and with them their faults. -/
def State.iepeOff (s : State) (g : Nat) : State :=
  ((List.range 4).map (fun i => 4 * g + i)).foldl (fun s c =>
    s.setChan c { s.chan c with iepeOpen := false, iepeFolded := false }) s

/-- R81: a port that is on switches off and discharges. -/
def State.portOff (s : State) (g : Nat) : State :=
  let s := s.undefer g
  let x := s.xport g
  if x.on then
    ((s.setXport g { x with on := false, discharging := true, currentLimit := false, foldback := false, senseFault := false }).iepeOff g).reportDissipation (dieOfGroup g)
  else s

/-- R75, R76, R79, R83: what an enable of a port is refused with, in the order of the codes (DESIGN CHOICE, log entry 14); the
refusal bit. -/
def State.enableTest (s : State) (g : Nat) : Option (Nat × Option Nat) :=
  if s.overClass g ∨ (classCaps (s.e 0x2690 1)).isNone ∨ s.power.classChanged then some (0x05000003, some 6)
  else if s.overBudget g then some (0x05000004, some 7)
  else if s.vexc (dieOfGroup g) < s.vexcNeed g then some (0x05000005, none)
  else if (s.xport g).dischargeFail then some (0x05000006, none)
  else none

/-- R504: a port whose Output enable is 1 comes on again, or stays off with its refusal bit and Output enable 0. A port
that still waits for the next Run command, or for its output to fall below 0.5 V (R370), stays off. A port whose Port
mode was set to 0 while it was off comes on in mode 0, since R504 names no test of it (DESIGN CHOICE, log entry 14). -/
def State.comeOn (s : State) (g : Nat) : State :=
  let i := 0x2600 + g
  if s.e i 9 = 0 ∨ (s.xport g).on ∨ (s.xport g).waitRun ∨ (s.xport g).deferred then s
  else match s.enableTest g with
    | none => s.portOn g
    | some (_, b) =>
      let s := match b with | some k => s.flag i 10 k true | none => s
      s.setE i 9 0

/-- R459, R504: every port whose Output enable is 1 stays off until the next Run command, or waits for it no longer. -/
def State.portsWait (s : State) (wait : Bool) : State :=
  (s.allPorts.filter (fun g => decide (s.e (0x2600 + g) 9 = 1) || (s.xport g).waitRun)).foldl (fun s g =>
    s.setXport g { s.xport g with waitRun := wait }) s

/-- Every port switches off with discharge. -/
def State.allOff (s : State) : State := s.allPorts.foldl State.portOff s

/-- R77: switch off ports of a die, most recently enabled first, until its total fits the budget. -/
def State.shedBy : Nat → State → Nat → State
  | 0, s, _ => s
  | k + 1, s, die =>
    if s.dieTotal die ≤ s.e 0x2690 6 * 1000000 then s
    else
      let newest := (s.onPorts die).foldl (fun (a : Option Nat) g => match a with
        | none => some g
        | some h => if (s.xport h).order < (s.xport g).order then some g else some h) none
      match newest with
      | none => s
      | some g =>
        let total := s.dieTotal die
        let s := ((s.portOff g).flag (0x2600 + g) 10 7 true).setE (0x2600 + g) 9 0
        State.shedBy k (s.event 1 0x0304 (toBytes 1 g ++ toBytes 1 die ++ toBytes 2 (rne (total : Int) 1000000).toNat)) die

/-- R77: the budget check of a die. -/
def State.shed (s : State) (die : Nat) : State := (State.shedBy 64 s die).reportDissipation die

/-- R82, R83: the discharge of a port ends. -/
def State.dischargeDone (s : State) (g : Nat) : State :=
  let x := s.xport g
  if x.discharging then (s.setXport g { x with discharging := false, dischargeFail := false }).settle g else s

end Sys2Proof.Machine
end

