-- ==== Sys2Proof/Machine/Lanes.lean ====
section
/-! DEFINITION. The lanes of a Leat port (chapter 12): 8b/10b symbols with running disparity, columns, the ordered sets
of Table 12-2, the fields of a TRAIN set, and the pseudorandom bits of a lane test. -/

namespace Sys2Proof.Machine

/-! ### 8b/10b (R322) -/

/-- Bits 0 to `n - 1` of a number that are 1. -/
def onesBelow : Nat → Nat → Nat
  | 0, _ => 0
  | k + 1, v => onesBelow k v + (if v.testBit k then 1 else 0)

/-- The 5b/6b sub-blocks abcdei at negative running disparity, by EDCBA (PRESUMED, log entry 34). -/
def six : List Nat :=
  [0b100111, 0b011101, 0b101101, 0b110001, 0b110101, 0b101001, 0b011001, 0b111000,
   0b111001, 0b100101, 0b010101, 0b110100, 0b001101, 0b101100, 0b011100, 0b010111,
   0b011011, 0b100011, 0b010011, 0b110010, 0b001011, 0b101010, 0b011010, 0b111010,
   0b110011, 0b100110, 0b010110, 0b110110, 0b001110, 0b101110, 0b011110, 0b101011]

/-- The 3b/4b sub-blocks fghj of data characters at negative running disparity, by HGF. -/
def fourD : List Nat := [0b1011, 0b1001, 0b0101, 0b1100, 0b1101, 0b1010, 0b0110, 0b1110]

/-- The 3b/4b sub-blocks of control characters at negative running disparity. -/
def fourK : List Nat := [0b1011, 0b0110, 0b1010, 0b1100, 0b1101, 0b0101, 0b1001, 0b0111]

/-- The alternate D.x.A7 is used. -/
def alternate7 (x : Nat) (rd : Bool) : Bool := (if rd then [11, 13, 14] else [17, 18, 20]).contains x

/-- The first sub-block of a character at a running disparity (true for positive), and the disparity after it. -/
def sixOf (control : Bool) (x : Nat) (rd : Bool) : Nat × Bool :=
  let b := if control && x == 28 then 0b001111 else six.getD x 0
  let even := onesBelow 6 b == 3
  (if rd && (!even || x == 7) then 63 - b else b, if even then rd else !rd)

/-- The second sub-block. -/
def fourOf (control : Bool) (x y : Nat) (rd : Bool) : Nat × Bool :=
  let b := if control then fourK.getD y 0 else if y == 7 && alternate7 x rd then 0b0111 else fourD.getD y 0
  let even := onesBelow 4 b == 2
  (if rd && (control || !even || y == 3) then 15 - b else b, if even then rd else !rd)

/-- The 10-bit symbol of a character, first bit on the line most significant, and the running disparity after it. -/
def lineSymbol (control : Bool) (v : Nat) (rd : Bool) : Nat × Bool :=
  let a := sixOf control (v % 32) rd
  let b := fourOf control (v % 32) (v / 32) a.2
  (a.1 * 16 + b.1, b.2)

/-! ### Columns (R322) -/

/-- One symbol time on both lanes: a control character on both, or two data bytes. -/
inductive Col where
  | control (v : Nat)
  | data (a b : Nat)
  deriving DecidableEq, Repr

/-- R322: bytes striped across the lanes, byte 2i on lane 0 and byte 2i + 1 on lane 1. -/
def stripe : List Byte → List Col
  | a :: b :: r => .data a.toNat b.toNat :: stripe r
  | [a] => [.data a.toNat 0]
  | [] => []

/-- The symbols of columns on the two lanes, and the running disparities after them. -/
def codeCols : Bool → Bool → List Col → List (Nat × Nat) × Bool × Bool
  | r0, r1, [] => ([], r0, r1)
  | r0, r1, c :: cs =>
    let p := match c with
      | .control v => (lineSymbol true v r0, lineSymbol true v r1)
      | .data a b => (lineSymbol false a r0, lineSymbol false b r1)
    let t := codeCols p.1.2 p.2.2 cs
    ((p.1.1, p.2.1) :: t.1, t.2)

/-! ### Ordered sets (R323, R326) -/

/-- Kx.y. -/
def kChar (x y : Nat) : Nat := 32 * y + x

/-- Table 12-4: the 8 data bytes of a TRAIN set; each field that a flag goes with is 0 without it. -/
def trainBytes (t : TrainSet) : List Byte :=
  let f := fun (b : Bool) (i : Nat) => if b then 2 ^ i else 0
  toBytes 1 (if t.hostKind then 1 else 0) ++ toBytes 1 t.maxRate.toNat ++
  toBytes 1 (f t.seen 0 + f t.go 1 + f t.chainEnd 2 + f t.twinB 3 + f t.resume 4 + f t.testStart 5 + f t.testAccept 6) ++
  toBytes 1 (if t.go then t.agreed.toNat else 0) ++
  toBytes 2 (if t.resume then t.nextExpected.toNat else 0) ++
  toBytes 2 (if t.testStart then t.duration.toNat else 0)

/-- Data bytes followed by their bitwise complements. -/
def withInverse (b : List Byte) : List Byte := b ++ b.map (fun x => ~~~x)

/-- The data bytes of an ACK or NAK (Table 12-2). -/
def answerBytes (seq window : Nat) : List Byte := withInverse (toBytes 2 seq ++ toBytes 2 window)

/-- Table 12-2: the columns of an ordered set. -/
def OrdSet.columns : OrdSet → List Col
  | .idle => [.control (kChar 28 5), .data 0xB5 0xB5]
  | .skip => [.control (kChar 28 0)]
  | .train t => .control (kChar 28 5) :: .control (kChar 28 2) :: stripe (withInverse (trainBytes t))
  | .ack seq window => .control (kChar 28 3) :: stripe (answerBytes seq window)
  | .nak seq window => .control (kChar 28 6) :: stripe (answerBytes seq window)

/-- R331: the columns of a frame: SOF, header, payload and check striped, EOF. -/
def frameColumns (b : List Byte) : List Col := .control (kChar 27 7) :: stripe b ++ [.control (kChar 29 7)]

/-- R323: the complement bytes of a received ACK or NAK match its fields. -/
def answerSound (seq window : Checked) : Bool := decide (seq.inv = ~~~seq.value ∧ window.inv = ~~~window.value)

/-! ### PRBS31 (R330) -/

/-- The next bits of the sequence of x^31 + x^28 + 1, and the register after them. -/
def prbsBits : Nat → Nat → Nat × Nat
  | 0, r => (0, r)
  | k + 1, r =>
    let b := if r.testBit 30 == r.testBit 27 then 0 else 1
    let t := prbsBits k (r * 2 % 2 ^ 31 + b)
    (b * 2 ^ k + t.1, t.2)

end Sys2Proof.Machine
end

