-- ==== Sys2Proof/Machine/Leat.lean ====
section
/-! DEFINITION. Leat and Weir (chapter 12): frames and their check, routing, the transmitter's choice at a frame
boundary, acknowledge and replay, bring-up of a port, credits and enumeration. -/

namespace Sys2Proof.Machine

/-- Table 12-1: index of a port. -/
def portIdx : Port → Nat
  | .N => 0 | .NX => 1 | .S => 2 | .SX => 3 | .T => 4

/-! ### Frames (R331, R332) -/

/-- Table 12-6: the header, with the hop sequence of this hop. -/
def Frame.header (f : Frame) (hop : Nat) : List Byte :=
  toBytes 1 (f.ftype * 16 + 1) ++
  toBytes 1 ((if f.south then 128 else 0) + (if f.broadcast then 64 else 0) + (if f.neighbour then 32 else 0)
    + (if f.hubOrigin then 16 else 0) + f.queue) ++
  toBytes 2 hop ++ toBytes 3 f.hubId ++ [0] ++ toBytes 2 f.payload.length ++ toBytes 2 f.offset ++ toBytes 4 f.recNum

/-- R331: header, payload and frame check. -/
def Frame.bytes (f : Frame) (hop : Nat) : List Byte :=
  let b := f.header hop ++ f.payload
  b ++ toBytes 4 (crc32 b)

/-- Bytes that a frame takes on a port: with the SOF and EOF columns. -/
def Frame.size (f : Frame) : Nat := 24 + f.payload.length

/-- The frame that a string of bytes from header to frame check spells. -/
def Frame.ofBytes (b : List Byte) : Frame :=
  let u := fun i n => Machine.ofBytes ((b.drop i).take n)
  ⟨u 0 1 / 16, bit (u 1 1) 7, bit (u 1 1) 6, bit (u 1 1) 5, bit (u 1 1) 4, u 1 1 % 8, u 4 3 % 2 ^ 18, u 10 2, u 12 4,
    (b.drop 16).take (b.length - 20)⟩

/-- Table 12-7: replayed types. -/
def replayed (t : Nat) : Bool := decide (t ≠ 4)

/-- Table 12-7: a defined type with a payload length in its range. -/
def lengthOk (t n : Nat) : Bool :=
  match t with
  | 1 => decide (8 ≤ n ∧ n ≤ 1024 ∧ n % 8 = 0)
  | 2 => decide (n = 44)
  | 3 => decide (8 ≤ n ∧ n ≤ 256 ∧ n % 2 = 0)
  | 4 => decide (n = 28)
  | 5 => decide (20 ≤ n ∧ n ≤ 36 ∧ n % 2 = 0)
  | 6 => decide (n = 24)
  | 7 => decide (2 ≤ n ∧ n ≤ 1024)
  | 8 => decide (2 ≤ n ∧ n ≤ 1024)
  | 9 => decide (2 ≤ n ∧ n ≤ 1024)
  | _ => false

/-! ### Ports and routes (R340 to R342) -/

/-- Index of a port's record. -/
def lp (p : Nat) : Nat := 0x3510 + p

/-- The port is UP. -/
def State.up (s : State) (p : Nat) : Bool := decide (s.e (lp p) 2 = 3)

/-- The hub's ID, none while it is unenumerated or unplaced. -/
def State.hubId (s : State) : Option Nat := if s.e 0x3500 1 = 1 then some (s.e 0x1018 3) else none

/-- R27, R353: the hub ID that the samples carry: member A's for a member of a Ladder, whose two members hold the two
positions of a pair; a single hub's own. -/
def State.sampleId (s : State) : Option Nat :=
  s.hubId.map (fun h => if s.role = 0 then h else h - h % 2)

/-- R340: the port that carries frames of a direction onward. -/
def State.onward (s : State) (south : Bool) : Option Nat :=
  let a := if south then 2 else 0
  if s.up a then some a else if s.leat.ladder && s.up (a + 1) then some (a + 1) else none

/-- R342: own frames of a direction whose path is lost are sent the other way. -/
def State.redirect (s : State) (south : Bool) : Bool :=
  if south then !s.flagged 0x3500 4 5 else s.flagged 0x3500 4 4

/-- R341: the direction of own SAMPLE, SCRIM and ANNOUNCE frames. -/
def State.ownSouth (s : State) : Bool := s.redirect (decide (s.e 0x3500 5 = 1))

/-- Put a control frame into the transmit queue of a port. -/
def State.post (s : State) (p : Nat) (f : Frame) : State :=
  let x := s.port p
  s.setPort p { x with control := x.control ++ [f] }

/-- Count a dropped frame. -/
def State.dropFrame (s : State) : State := s.bump 0x3500 0x0C

/-- An own control frame of a direction; one whose onward port is not UP is dropped. -/
def State.sendOwn (s : State) (south : Bool) (ftype : Nat) (payload : List Byte) : State :=
  match s.hubId with
  | none => s
  | some h =>
    match s.onward south with
    | none => s.dropFrame
    | some p => s.post p ⟨ftype, south, false, false, true, 0, h, 0, 0, payload⟩

/-! ### Enumeration frames (R346 to R348) -/

/-- Table 12-10: payload of an ENUM frame. -/
def enumPayload (cmd flags chain pos rev product status identity : Nat) : List Byte :=
  toBytes 1 cmd ++ toBytes 1 flags ++ toBytes 2 chain ++ toBytes 1 pos ++ toBytes 1 rev ++ toBytes 2 product ++
  toBytes 2 status ++ zeros 2 ++ toBytes 8 identity ++ zeros 4

/-- R347: ANNOUNCE. -/
def State.announce (s : State) : State :=
  s.sendOwn s.ownSouth 6 (enumPayload 2 0 (s.e 0x1018 1) (s.e 0x1018 2) (s.e 0x1008 2)
    (if s.pins.mb then 2 else 1) (s.e 0x3500 4) Config.deviceIdentity.toNat)

/-- A change of Chain status is announced (R347). -/
def State.chainStatus (s : State) (v : Nat) : State :=
  if v = s.e 0x3500 4 then s else (s.setE 0x3500 4 v).announce

/-- Set or clear a bit of Chain status. -/
def State.chainBit (s : State) (i : Nat) (b : Bool) : State := s.chainStatus (setBit (s.e 0x3500 4) i b)

/-- A neighbour ENUM frame of this hub on a port. -/
def State.neighbour (s : State) (p : Nat) (payload : List Byte) : State :=
  s.post p ⟨6, decide (p = 2 ∨ p = 3), false, true, true, 0, s.e 0x1018 3 % 2 ^ 18, 0, 0, payload⟩

/-- The port opposite to the one that the hub was assigned from. -/
def opposite (p : Nat) : Nat := if p < 2 then p + 2 else p - 2

/-- Position 63, or a member of pair 31 in a Ladder. -/
def State.atEnd (s : State) : Bool :=
  decide (s.leat.position = some 63) || (s.leat.ladder && decide (s.leat.position = some 62))

/-- R347, R348: what an enumerated hub sends on the port opposite to that of assignment: ASSIGN, or UNPLACE at the
last position when the partner there is a hub. -/
def State.assignNext (s : State) : State :=
  let p := opposite s.leat.assignedOn
  let pos := s.leat.position.getD 0
  if !s.up p then s
  else if s.atEnd && (s.leat.ladder || !s.leat.fromSouth) then
    if s.e (lp p) 5 = 1 then
      let s := s.neighbour p (enumPayload 3 0 0 0 0 0 0 0)
      if p = 2 then s.chainBit 0 true else s
    else s
  else if s.leat.fromSouth && !s.leat.ladder && decide (pos = 0) then s
  else
    let next := if s.leat.ladder then pos / 2 + 1 else if s.leat.fromSouth then pos - 1 else pos + 1
    s.neighbour p (enumPayload 1
      ((if s.leat.ladder then 1 else 0) + (if s.leat.fromSouth then 2 else 0) + (if s.flagged 0x3500 4 8 then 4 else 0))
      (s.leat.chain.getD 0) next 0 0 0 0)

/-- R348: the Unplaced state: nothing that waits in a port is sent any more, and nothing forwarded. -/
def State.unplaced (s : State) : State :=
  let s := (((s.setE 0x3500 1 2).setE 0x1018 1 0xFFFF).setE 0x1018 2 0xFF).setE 0x1018 3 0xFFFFFFFF
  let s := { s with leat := { s.leat with chain := none, position := none, inbox := [], resetAt := none } }
  let s := [0, 1, 2, 3, 4].foldl (fun s p => s.setPort p { s.port p with
    control := [], timing := [], fwd := [], replay := [], resend := 0 }) s
  if s.up 2 then s.neighbour 2 (enumPayload 3 0 0 0 0 0 0 0) else s

/-- R347: take a position of 63 or less. -/
def State.enumerate (s : State) (p : Nat) (ladder fromSouth dual : Bool) (chain pos : Nat) : State :=
  let s := { s with leat := { s.leat with
    chain := some chain, position := some pos, assignedOn := p, ladder := ladder, fromSouth := fromSouth } }
  let s := (((s.setE 0x3500 1 1).setE 0x1018 1 chain).setE 0x1018 2 pos).setE 0x1018 3 (chain * 64 + pos)
  let s := (s.setE 0x3500 6 0).setE 0x3500 7 0
  ((s.flag 0x3500 4 8 dual).announce).assignNext

/-- R347: an ASSIGN on a port. -/
def State.assigned (s : State) (p : Nat) (m : AssignMsg) : State :=
  let pos := if m.ladder then 2 * m.position.toNat + (if s.pins.twinB then 1 else 0) else m.position.toNat
  if s.e 0x3500 1 = 1 then
    if s.leat.chain = some m.chain.toNat ∧ s.leat.position = some pos ∧ s.leat.ladder = m.ladder ∧
        s.flagged 0x3500 4 8 = m.dualHomed then s
    else s.chainBit 3 true
  else if s.e 0x3500 1 = 2 then s
  else if p = 0 ∨ (p = 2 ∧ m.fromSouth) then
    if pos ≤ 63 then s.enumerate p m.ladder m.fromSouth m.dualHomed m.chain.toNat pos else s.unplaced
  else s

/-- R342: PATH_LOST or PATH_RESTORED of this hub, for its N path or its S path. -/
def State.pathNotice (s : State) (cmd : Nat) (southPath : Bool) : State :=
  match s.hubId, s.onward (!southPath) with
  | some h, some p => s.post p ⟨6, !southPath, true, false, true, 0, h, 0, 0,
      enumPayload cmd (if southPath then 8 else 0) 0 0 0 0 0 0⟩
  | _, _ => s

/-- R342: the N port or the S port of a dual-homed hub went down. -/
def State.pathDown (s : State) (p : Nat) : State :=
  if s.flagged 0x3500 4 8 ∧ s.e 0x3500 1 = 1 ∧ (p = 0 ∨ p = 2) then
    let s := s.chainBit (if p = 0 then 4 else 5) true
    let s := { s with leat := { s.leat with lostN := s.leat.lostN || decide (p = 0), lostS := s.leat.lostS || decide (p = 2) } }
    s.pathNotice 5 (decide (p = 2))
  else s

/-- R342: the port is UP again. -/
def State.pathUp (s : State) (p : Nat) : State :=
  if (p = 0 ∧ s.leat.lostN) ∨ (p = 2 ∧ s.leat.lostS) then
    let s := s.chainBit (if p = 0 then 4 else 5) false
    let s := { s with leat := { s.leat with lostN := s.leat.lostN && decide (p ≠ 0), lostS := s.leat.lostS && decide (p ≠ 2) } }
    s.pathNotice 6 (decide (p = 2))
  else s

/-! ### Bring-up (R325 to R328, R338, R339) -/

/-- R320: the lanes of a port are powered. -/
def State.powered (s : State) (p : Nat) : Bool :=
  decide (s.e (lp p) 1 = 1) && !(decide (p = 2) && s.pins.chainEnd)

/-- R347: HOST_ON_S and SOUTH_OPEN follow the S port. -/
def State.southStatus (s : State) : State :=
  s.chainStatus (setBit (setBit (s.e 0x3500 4) 1 (decide (s.e (lp 2) 5 = 2))) 2 (!s.pins.chainEnd && !s.up 2))

/-- Port status with the lanes not locked; PRESET_OVERRIDDEN follows Preset override (R325). -/
def State.unlocked (s : State) (p : Nat) : State := s.setE (lp p) 0x13 (if s.e (lp p) 4 = 0xFF then 0 else 16)

/-- R320: power down a port's lanes. -/
def State.portOff' (s : State) (p : Nat) : State :=
  let s := ((((s.setPort p LPort.reset).setE (lp p) 2 0).setE (lp p) 3 0xFF).setE (lp p) 5 0).setE (lp p) 6 0
  if p = 2 then (s.unlocked p).southStatus else s.unlocked p

/-- R327 step 1: a port starts to train at 6.25 Gbaud with its buffers cleared. -/
def State.train (s : State) (p : Nat) (maxRate : Option Nat) : State :=
  let s := s.portOff' p
  if s.powered p then
    ((s.setPort p { LPort.reset with since := s.gov.ticks, maxRate := maxRate }).setE (lp p) 2 1).unlocked p
  else s

/-- R326: the maximum rate that the port advertises. -/
def State.ownMax (s : State) (p : Nat) : Nat :=
  match (s.port p).maxRate with
  | some r => min r (s.e 0x3500 2)
  | none => s.e 0x3500 2

/-- R327 step 5: a port is UP, with hop sequences from 0, or resumed where the partner stands (R338). -/
def State.portUp (s : State) (p : Nat) (resume : Option Nat) : State :=
  let x := s.port p
  let s := match resume with
    | none => s.setPort p { x with rxNext := 0, txNext := 0, replay := [], resend := 0, window := 2048, sentSince := 0, stalls := 0 }
    | some n =>
      let keep := x.replay.dropWhile (fun (r : Nat × Frame × Nat) => decide ((r.1 + 65536 - n) % 65536 ≥ 32768))
      s.setPort p { x with replay := keep, resend := keep.length, stalls := 0 }
  let s := ((s.setPort p { s.port p with since := s.gov.ticks }).setE (lp p) 2 3).setE (lp p) 3 x.rate
  let s := if p = 4 then { s with twin := { s.twin with partner := none, product := none, energy := none, partnerIdle := false } } else s
  let s := if p = 2 then s.southStatus else s
  let s := s.pathUp p
  if s.e 0x3500 1 = 2 then (if p = 2 then s.neighbour 2 (enumPayload 3 0 0 0 0 0 0 0) else s)
  else if s.e 0x3500 1 = 1 ∧ p = opposite s.leat.assignedOn then s.assignNext else s

/-- R324, R327: both lanes are locked and deskewed. -/
def lanesGood (t : TrainRun) : Bool := t.lock0 && t.lock1 && decide (t.skewPs.toNat ≤ 20000)

/-- R326, R327: what a run of received TRAIN sets does to a port that trains. In RETRAIN a set counts only with RESUME,
which carries the value that the partner expects (R338; DEDUCED, log entry 34). -/
def State.trained (s : State) (p : Nat) (t : TrainRun) : State :=
  let x := s.port p
  let agreed := min (s.ownMax p) t.set.maxRate.toNat
  let again := decide (s.e (lp p) 2 = 4)
  if !lanesGood t || (again && !t.set.resume) then s
  else match x.step with
  | .start => if 64 ≤ t.count then s.setPort p { x with step := .seen, sets := 0 } else s
  | .seen =>
    if t.set.seen ∧ 16 ≤ t.count then
      if agreed = 0 then s.setPort p { x with step := .final, rate := 0 }
      else (s.setPort p { x with step := .go, rate := agreed, sets := 0 }).setE (lp p) 2 2
    else s
  | .go =>
    if t.set.go ∧ t.set.agreed.toNat = x.rate ∧ 16 ≤ t.count ∧ 64 ≤ x.sets then
      s.setPort p { x with step := .high, since := s.gov.ticks, sets := 0 }
    else s
  | .high =>
    if 64 ≤ t.count then
      let s := s.setPort p { x with step := .final, sets := 0 }
      if again then s else s.setE (lp p) 2 1
    else s
  | .final =>
    if t.set.seen ∧ 16 ≤ t.count ∧ 16 ≤ x.sets then
      if t.idle then s.portUp p (if again then some t.set.nextExpected.toNat else none)
      else s.setPort p { x with step := .idle }
    else s
  | .idle => if t.idle then s.portUp p (if again then some t.set.nextExpected.toNat else none) else s

/-- R323, R324, R326: lock, deskew, skew and partner as the receiver reports them; sets whose complement bytes do not
match count as code errors. -/
def State.lanes (s : State) (p : Nat) (t : TrainRun) : State :=
  let skewed := decide (20000 < t.skewPs.toNat)
  let st := (if t.lock0 then 1 else 0) + (if t.lock1 then 2 else 0) + (if lanesGood t then 4 else 0) + (if skewed then 8 else 0)
    + (if s.e (lp p) 4 = 0xFF then 0 else 16)
  let s := s.bump (lp p) 0x0A t.bad.toNat
  let s := ((s.setE (lp p) 0x13 st).setE (lp p) 5 (if t.set.hostKind then 2 else 1)).setE (lp p) 6 t.set.maxRate.toNat
  let s := s.setE (lp p) 7 (min 20000 t.skewPs.toNat)
  if p = 2 then s.southStatus else s

/-- R326: the TRAIN set that a port sends. SEEN stays set while it sends GO, so that the partner can count 16 of them
(DEDUCED, log entry 34). -/
def State.ownTrain (s : State) (p : Nat) : TrainSet :=
  let x := s.port p
  let again := decide (s.e (lp p) 2 = 4)
  let go := decide (x.step = .go)
  { hostKind := false
    maxRate := BitVec.ofNat 2 (s.ownMax p)
    seen := decide (x.step = .seen ∨ x.step = .go ∨ x.step = .final)
    go := go
    chainEnd := s.pins.chainEnd
    twinB := s.pins.twinB
    resume := again
    testStart := decide (x.testing = 1)
    testAccept := decide (x.testing = 3)
    agreed := if go then BitVec.ofNat 2 x.rate else 0
    nextExpected := if again then BitVec.ofNat 16 x.rxNext else 0
    duration := if x.testing = 1 then BitVec.ofNat 16 x.testSecs else 0 }

/-- R338: an UP port enters RETRAIN. -/
def State.retrainPort (s : State) (p : Nat) : State :=
  let x := s.port p
  let s := s.setPort p { x with step := .high, since := s.gov.ticks, resend := 0, sets := 0 }
  (((s.setE (lp p) 2 4).setE (lp p) 3 0xFF).bump (lp p) 0x0B).unlocked p

/-- R303, R340: own SAMPLE frames leave by this port, when it is UP: the port of their direction, or the crossed one of
a Ladder while that one is not UP. -/
def State.carries (s : State) (p : Nat) : Bool :=
  let a := if s.ownSouth then 2 else 0
  decide (p = a) || (decide (p = a + 1) && s.leat.ladder && !s.up a)

/-- R339, R303: a port goes down and starts bring-up again; the queues it carries go back to mark 0. -/
def State.portDownNow (s : State) (p : Nat) : State :=
  let s := if s.carries p then s.rewindAll else s
  let max' := (s.port p).maxRate
  ((s.bump (lp p) 0x0C).train p max').pathDown p

/-! ### Reception (R335 to R337) -/

/-- R336: free space of a port's forward buffer, in 64-byte units. -/
def LPort.freeWindow (x : LPort) : Nat := (131072 - sumNat (x.fwd.map Frame.size)) / 64

/-- R340, R351: forward a frame that arrived on a port; an unenumerated hub drops one that is for another hub. -/
def State.forward (s : State) (p : Nat) (f : Frame) : State :=
  match s.onward f.south with
  | none => s.dropFrame
  | some _ =>
    if s.e 0x3500 1 = 1 ∨ f.broadcast ∨ f.hubOrigin then s.setPort p { s.port p with fwd := (s.port p).fwd ++ [f] }
    else s.dropFrame

/-- Keep a consumed frame for the command that carries its content out. -/
def State.consume (s : State) (f : Frame) : State := { s with leat := { s.leat with inbox := s.leat.inbox ++ [f] } }

/-- R340, R367: a frame with Hub origin 0 is addressed to this hub. -/
def State.isMine (s : State) (f : Frame) : Bool :=
  s.hubId = some f.hubId || (decide (f.ftype = 2) && s.sampleId = some f.hubId)

/-- The ENUM command of a frame. -/
def Frame.enumCmd (f : Frame) : Nat := if f.ftype = 6 then Machine.ofBytes (f.payload.take 1) else 0

/-- R43: the message of a timing frame. -/
def Frame.message (f : Frame) : Nat := field (Machine.ofBytes (f.payload.take 1)) 4 2

/-- R340, R346, R348: what becomes of an accepted frame. A timing frame of the reserved message 0b11 is dropped (R43) and
counted with the frames dropped (DEDUCED, log entry 34). -/
def State.route (s : State) (p : Nat) (f : Frame) : State :=
  let isReset := decide (f.enumCmd = 4)
  if !lengthOk f.ftype f.payload.length ∨ (p = 4 ∧ f.ftype < 7) ∨ (p ≠ 4 ∧ 7 ≤ f.ftype) then s.dropFrame
  else if f.ftype = 6 ∧ (f.enumCmd = 0 ∨ 6 < f.enumCmd) then s.dropFrame
  else if s.e 0x3500 1 = 2 then
    if isReset && !f.hubOrigin && (f.broadcast || f.neighbour) then s.consume f else s
  else if f.ftype = 4 ∧ f.message = 3 then s.dropFrame
  else if p = 4 ∨ f.ftype = 4 ∨ f.neighbour then s.consume f
  else if f.broadcast then
    let s := if isReset then { s with leat := { s.leat with resetAt := some s.gov.ticks } } else s
    (s.consume f).forward p f
  else if !f.hubOrigin && s.isMine f then s.consume f
  else s.forward p f

/-- R335: judge a frame from header to frame check that arrived on an UP port. Where the frame check of a timing frame
fails, the domain bits of the damaged payload say which domain's 0x2301.0E counts it, on whichever port it arrived (R45,
R46; DESIGN CHOICE, log entry 12). -/
def State.receive (s : State) (p : Nat) (b : List Byte) (codeError : Bool) : State :=
  let x := s.port p
  let f := Frame.ofBytes b
  let check := decide (20 ≤ b.length) && decide (crc32 (b.take (b.length - 4)) = Machine.ofBytes (b.drop (b.length - 4)))
  let hop := Machine.ofBytes ((b.drop 2).take 2)
  let sound := check && !codeError && decide (Machine.ofBytes ((b.drop 8).take 2) = f.payload.length)
  let s := if codeError then s.bump (lp p) 0x0A else s
  let s := if check then s else s.bump (lp p) 9
  if f.ftype = 4 then
    if sound then s.route p f else s.bump (0x2301 + Machine.ofBytes (f.payload.take 1) % 4) 0x0E
  else if sound ∧ hop = x.rxNext then
    (s.setPort p { x with rxNext := (hop + 1) % 65536, ackDue := true, nakAt := none }).route p f
  else if check ∧ 1 ≤ (x.rxNext + 65536 - hop) % 65536 ∧ (x.rxNext + 65536 - hop) % 65536 ≤ 32768 then
    s.setPort p { x with ackDue := true }
  else
    match x.nakAt with
    | some t => if t + tickUs 10 ≤ s.gov.ticks then s.setPort p { x with nakDue := true, nakAt := some s.gov.ticks } else s
    | none => s.setPort p { x with nakDue := true, nakAt := some s.gov.ticks }

/-- R337: an ACK. -/
def LPort.acked (x : LPort) (seq window : Nat) : LPort :=
  let keep := x.replay.dropWhile (fun r => decide ((seq + 65536 - r.1) % 65536 < 32768))
  { x with
    replay := keep, resend := min x.resend keep.length, window := window, sentSince := 0
    stalls := if keep.length < x.replay.length then 0 else x.stalls }

/-- R337: resend in order from an expected hop sequence. -/
def LPort.resendFrom (x : LPort) (seq : Nat) : LPort :=
  let late := x.replay.dropWhile (fun r => decide ((r.1 + 65536 - seq) % 65536 ≥ 32768))
  { x with resend := late.length, stalls := x.stalls + 1 }

/-! ### The frame boundary (R334, R343, R344) -/

/-- Island ticks that a stretch of 65,536 bytes takes at a rate, rounded up. -/
def stretchTicks : Nat → Nat
  | 0 => 20972 | 1 => 13108 | 2 => 10486 | _ => 8192

/-- Control bytes of the present stretch. -/
def LPort.controlBytes (x : LPort) (now : Nat) : Nat :=
  sumNat ((x.ctl.filter (fun c => decide (now < c.1 + stretchTicks x.rate))).map (·.2))

/-- Account control bytes put on the lanes. -/
def LPort.account (x : LPort) (now n : Nat) : LPort :=
  { x with ctl := (now, n) :: x.ctl.filter (fun c => decide (now < c.1 + stretchTicks x.rate)) }

/-- R334: room is left for `n` bytes in the reserved share, 1/16 of a stretch of 65,536 bytes; 16 bytes of it are kept
for SKIP columns, of which a stretch holds at most 8 (log entry 34). -/
def LPort.share (x : LPort) (now n : Nat) : Bool := decide (x.controlBytes now + n ≤ 4080)

/-- R322: put columns on the lanes. -/
def State.lay (s : State) (p : Nat) (cols : List Col) : State :=
  let x := s.port p
  let c := codeCols x.rd0 x.rd1 cols
  s.setPort p { x with line := x.line ++ c.1, rd0 := c.2.1, rd1 := c.2.2, sinceSkip := x.sinceSkip + cols.length }

/-- R323: send an ordered set. -/
def State.sendSet (s : State) (p : Nat) (o : OrdSet) : State :=
  (s.setPort p { s.port p with lastSet := some o }).lay p o.columns

/-- R324: a SKIP column goes in time for one in every 5,000 columns, whatever the longest frame and its answer take. -/
def State.skipDue (s : State) (p : Nat) : State :=
  if (s.port p).sinceSkip < 4400 then s
  else
    let s := s.setPort p ((s.port p).account s.gov.ticks 2)
    let s := s.sendSet p .skip
    s.setPort p { s.port p with sinceSkip := 0 }

/-- R337: a frame fits the replay buffer and the partner's window. -/
def LPort.fits (x : LPort) (f : Frame) : Bool :=
  decide (sumNat (x.replay.map (fun r => r.2.1.size)) + f.size ≤ 65536) &&
  decide (x.sentSince + f.size ≤ 64 * x.window)

/-- Put a replayed frame on the lanes. -/
def State.transmit (s : State) (p : Nat) (f : Frame) (control : Bool) : State :=
  let x := s.port p
  let x := if control then x.account s.gov.ticks f.size else x
  (s.setPort p { x with
    txNext := (x.txNext + 1) % 65536, sentSince := x.sentSince + f.size
    replay := x.replay ++ [(x.txNext, f, s.gov.ticks)], lastSent := f.bytes x.txNext }).lay p (frameColumns (f.bytes x.txNext))

/-- R332, R334: a frame goes within the reserved share: the control frames, and the items and commands of the T port
(R358). -/
def sharedType (t : Nat) : Bool := decide (t ≠ 1 ∧ t ≠ 7)

/-- R337: resend the first frame that is to be resent, once the window and the share take it. -/
def State.retransmit (s : State) (p : Nat) : State :=
  let x := s.port p
  let i := x.replay.length - x.resend
  match x.replay[i]? with
  | none => s.setPort p { x with resend := 0 }
  | some (h, f, _) =>
    let shared := sharedType f.ftype
    if 64 * x.window < x.sentSince + f.size ∨ (shared ∧ !x.share s.gov.ticks f.size) then s
    else
      let x := if shared then x.account s.gov.ticks f.size else x
      ((s.setPort p { x with
        resend := x.resend - 1, replay := x.replay.set i (h, f, s.gov.ticks), sentSince := x.sentSince + f.size
        lastSent := f.bytes h }).lay p (frameColumns (f.bytes h))).bump (lp p) 8

/-- R335, R336: the ordered set that answers what was received, when one is due and the share takes it. -/
def State.answerSets (s : State) (p : Nat) : State :=
  let x := s.port p
  if (x.ackDue || x.nakDue) && x.share s.gov.ticks 10 then
    let o := if x.nakDue then OrdSet.nak x.rxNext x.freeWindow else .ack ((x.rxNext + 65535) % 65536) x.freeWindow
    (s.setPort p { x.account s.gov.ticks 10 with ackDue := false, nakDue := false }).sendSet p o
  else s

/-- Forwarded frames that leave by a port: the first of a kind in a forward buffer. -/
def State.forwarded (s : State) (p : Nat) (sample : Bool) : Option (Nat × Frame) :=
  [0, 1, 2, 3].findSome? (fun q =>
    ((s.port q).fwd.find? (fun f => decide (f.ftype = 1) == sample && s.onward f.south == some p)).map (fun f => (q, f)))

/-- Take a frame out of a forward buffer. -/
def State.takeForwarded (s : State) (q : Nat) (f : Frame) : State :=
  s.setPort q { s.port q with fwd := (s.port q).fwd.erase f }

/-- R334: the control frame that goes next on a port, and the state without it. -/
def State.nextControl (s : State) (p : Nat) : Option (Frame × State) :=
  let x := s.port p
  match x.control with
  | f :: r => some (f, s.setPort p { x with control := r })
  | [] => if p = 4 then none else (s.forwarded p false).map (fun a => (a.2, s.takeForwarded a.1 a.2))

/-! #### Own SAMPLE frames -/

/-- R344: bytes of a queue from its read position on, and where they stop being ready (R367). -/
def HQueue.ready (q : HQueue) (limit : Nat) : Nat :=
  sumNat (((q.recs.drop (q.read - q.release)).take (limit - q.read)).map (fun r => r.bytes.length)) - q.sent

/-- R333, R344: take bytes at the read position; a record leaves it when its last byte is sent. -/
def HQueue.takeBytes : Nat → HQueue → Nat → List Byte × HQueue
  | 0, q, _ => ([], q)
  | k + 1, q, n =>
    if n = 0 then ([], q)
    else match q.at? q.read with
      | none => ([], q)
      | some r =>
        let b := (r.bytes.drop q.sent).take n
        if q.sent + b.length = r.bytes.length then
          let q' := { q with read := q.read + 1, sent := 0, front := max q.front (q.read + 1) }
          let q' := match q'.relPend with
            | some pos => q'.freeTo pos
            | none => q'
          let t := HQueue.takeBytes k q' (n - b.length)
          (b ++ t.1, t.2)
        else (b, { q with sent := q.sent + b.length })

/-- Position up to which records of a queue may be sent: all, or those that a ready standby confirmed (R367). -/
def State.sendLimit (s : State) (q : Nat) : Nat :=
  if s.feeds then Tbl.get 0 s.twin.confirmed q else (s.hq q).commit

/-- R353: the role sends SAMPLE frames. -/
def State.sends (s : State) : Bool := decide (s.role = 0 ∨ s.role = 4 ∨ s.role = 5)

/-- Bytes of a queue that are ready to send. -/
def State.readyBytes (s : State) (q : Nat) : Nat := (s.hq q).ready (s.sendLimit q)

/-- R343: credits left, in 256-byte units. -/
def State.credits (s : State) : Nat :=
  let d := (s.e 0x3500 6 + 2 ^ 32 - s.e 0x3500 7) % 2 ^ 32
  if d < 2 ^ 31 then d else 0

/-- R343: payload of a queue's next frame. -/
def State.payloadSize (s : State) (q : Nat) : Nat := min 1024 (min (s.readyBytes q) (256 * s.credits))

/-- R344: the queue whose frame goes next, and the bytes its turn has sent before it. -/
def State.turnQueue (s : State) : Option (Nat × Nat) :=
  let cur := s.leat.turn
  let p := s.payloadSize cur
  if 0 < p ∧ (s.leat.turnBytes = 0 ∨ s.leat.turnBytes + p ≤ 1024 * s.e (0x3520 + cur) 1) then some (cur, s.leat.turnBytes)
  else ((List.range 8).map (fun i => (cur + 1 + i) % 8)).findSome? (fun q =>
    if 0 < s.payloadSize q then some (q, 0) else none)

/-- R333, R343: send a SAMPLE frame of a queue on a port. -/
def State.sendSample (s : State) (p q before : Nat) : State :=
  let n := s.payloadSize q
  let h := s.hq q
  let t := h.takeBytes (n + 1) n
  let f : Frame := ⟨1, s.ownSouth, false, false, true, q, s.sampleId.getD 0, h.sent, wrap32 h.read, t.1⟩
  let s := s.setHq q t.2
  let s := if h.relPend.isSome && t.2.relPend.isNone then s.spaceFreed else s
  let s := { s with leat := { s.leat with turn := q, turnBytes := before + n, stalled := false } }
  ((s.wrapAdd 32 0x3500 7 (ceilDiv n 256)).wrapAdd 64 (0x3520 + q) 2 n).transmit p f false

/-- Record bytes wait in some queue. -/
def State.bytesWait (s : State) : Bool := (List.range 8).any (fun q => decide (0 < s.readyBytes q))

/-- Own SAMPLE frames may go on a port. -/
def State.ownSamples (s : State) (p : Nat) : Bool :=
  s.sends && s.hubId.isSome && decide (p < 4) && s.onward s.ownSouth == some p

/-- R343: an episode of waiting for credit is counted once, whatever else goes on the port meanwhile. -/
def State.creditStall (s : State) (p : Nat) : State :=
  if !s.ownSamples p then s
  else
    let waits := s.bytesWait && decide (s.credits = 0)
    if waits = s.leat.stalled then s
    else
      let t := { s with leat := { s.leat with stalled := waits } }
      if waits then t.bump 0x3500 8 else t

/-- A SAMPLE frame of this hub, if one can start on the port. -/
def State.tryOwn (s : State) (p : Nat) : Option State :=
  if !s.ownSamples p then none
  else match s.turnQueue with
    | none => none
    | some (q, before) =>
      if (s.port p).fits ⟨1, false, false, false, true, q, 0, 0, 0, List.replicate (s.payloadSize q) 0⟩
      then some (s.sendSample p q before) else none

/-- A forwarded SAMPLE frame, if one can start on the port. -/
def State.tryForwarded (s : State) (p : Nat) : Option State :=
  match s.forwarded p true with
  | none => none
  | some (q, f) => if (s.port p).fits f then some ((s.takeForwarded q f).transmit p f false) else none

/-- R334: own and forwarded SAMPLE frames take turns. -/
def State.sampleTurn (s : State) (p : Nat) : State :=
  let flip := fun (t : State) (own : Bool) => t.setPort p { t.port p with ownTurn := own }
  let own := (s.tryOwn p).map (fun t => flip t false)
  let fwd := (s.tryForwarded p).map (fun t => flip t true)
  (if (s.port p).ownTurn then own.or fwd else fwd.or own).getD s

/-- R334, R337, R358: a control frame goes ahead of SAMPLE frames; one that the buffers or the window cannot take waits,
and one for which the reserved share has no room lets what is not shared pass: a SAMPLE frame, or on the T port the frames
of raw words. -/
def State.controlOrSample (s : State) (p : Nat) : State :=
  match s.nextControl p with
  | some (f, s') =>
    if !sharedType f.ftype ∨ (s.port p).share s.gov.ticks f.size then
      if (s.port p).fits f then s'.transmit p f (sharedType f.ftype) else s
    else s.sampleTurn p
  | none => s.sampleTurn p

/-! #### Timing frames -/

/-- R47: the timing port (R46). The N path of a Ladder counts as lost while the N port is not UP (DESIGN CHOICE, log
entry 12). -/
def State.timingPort (s : State) : Nat :=
  if s.flagged 0x3500 4 8 ∧ s.flagged 0x3500 4 4 then 2
  else if s.leat.ladder ∧ !s.up 0 then 1 else 0

/-- Table 02-3: the payload of a timing frame of this hub, with the time given. -/
def State.timingPayload (s : State) (t : TimingFrame) (time : Int) : List Byte :=
  let i := 0x2301 + t.domain
  let x := s.dom t.domain
  let st := s.e i 7
  let nt := decide (st ≠ 3) || x.notTraceable || !s.pins.ocxoRdy
  let hold := decide (st = 4 ∨ st = 5)
  toBytes 1 (t.domain + (if nt then 4 else 0) + (if hold then 8 else 0) + 16 * t.message) ++ toBytes 1 t.exponent ++
  toBytes 2 t.seq ++ toBytes 12 (toTime96 time) ++ toBytes 8 (if t.message = 1 then 0 else s.e i 0x0C) ++
  toBytes 2 (x.hops + 1) ++ zeros 2

/-- R44, R45: serialise the timing frame that is due first; its departure time is inserted. -/
def State.sendTiming (s : State) (p : Nat) (t : TimingFrame) : State :=
  let x := s.port p
  let time := if t.message = 2 then t.t4 else s.time t.domain
  let f : Frame := ⟨4, decide (2 ≤ p), false, true, true, 0, s.e 0x1018 3 % 2 ^ 18, 0, 0, s.timingPayload t time⟩
  let s := (s.setPort p { x.account s.gov.ticks f.size with timing := x.timing.drop 1, lastSent := f.bytes 0 }).lay p
    (frameColumns (f.bytes 0))
  let d := s.dom t.domain
  match d.xchg with
  | some g => if t.message = 1 ∧ g.reqSeq = t.seq then s.setDom t.domain { d with xchg := some { g with t3 := some time } } else s
  | none => s

/-- IDLE goes where nothing else went. -/
def State.idleFill (s : State) (p : Nat) : State := if (s.port p).line = [] then s.sendSet p .idle else s

/-- A frame boundary begins: what went before has left the lanes. -/
def State.openBoundary (s : State) (p : Nat) : State := (s.setPort p { s.port p with line := [] }).skipDue p

/-- Everything of a frame boundary but timing frames. -/
def State.afterTiming (s : State) (p : Nat) : State :=
  let s := s.answerSets p
  (if 0 < (s.port p).resend then s.retransmit p else s.controlOrSample p).idleFill p

/-- R334, R348: what goes onto the lanes of an UP port at a frame boundary. A timing frame for which the reserved share has
no room waits too (DESIGN CHOICE, log entry 34). -/
def State.boundary (s : State) (p : Nat) : State :=
  let s := (s.openBoundary p).creditStall p
  match (s.port p).timing with
  | t :: _ => if (s.port p).share s.gov.ticks 48 then s.sendTiming p t else s.afterTiming p
  | [] => s.afterTiming p

/-- R323, R326, R327, R330: what goes onto the lanes of a powered port that is not UP: TRAIN sets, IDLE once 16 sets with
SEEN were sent and received, and after 64 sets of a test PRBS31 on the line bits. -/
def State.trainBoundary (s : State) (p : Nat) : State :=
  let s := s.openBoundary p
  let x := s.port p
  if x.step = .idle then s.sendSet p .idle
  else if 2 ≤ x.testing ∧ 64 ≤ x.sets then
    let a := prbsBits 10 x.prbs.1
    let b := prbsBits 10 x.prbs.2
    s.setPort p { x with line := [(a.1, b.1)], prbs := (a.2, b.2) }
  else
    let s := s.sendSet p (.train (s.ownTrain p))
    s.setPort p { s.port p with sets := x.sets + 1 }

/-! ### Credits (R345) -/

/-- R345: the release items of a CREDIT payload, in queue order; a refused item counts. -/
def State.creditReleases (s : State) (m : CreditMsg) : State :=
  (List.range 8).foldl (fun s q =>
    if bit m.mask.toNat q then
      let a := s.releaseThrough q (m.release.toList.getD q 0).toNat
      if a.2 then a.1.bump 0x3500 0x0B else a.1
    else s) s

/-- R345: the rewind. -/
def State.creditRewind (s : State) (m : CreditMsg) : State :=
  if m.rewind then
    match s.rewindQueue m.queue.toNat m.rewindTo.toNat with
    | some t => t
    | none => s.bump 0x3500 0x0B
  else s

/-- R345: the credit limit. -/
def State.creditLimit (s : State) (v : Nat) : State :=
  if (v + 2 ^ 32 - s.e 0x3500 6) % 2 ^ 32 < 2 ^ 31 then s.setE 0x3500 6 v else s

/-- Table 12-9: the payload of a CREDIT frame. -/
def creditBytes (m : CreditMsg) : List Byte :=
  toBytes 4 m.limit.toNat ++ toBytes 1 m.mask.toNat ++ toBytes 1 ((if m.rewind then 128 else 0) + m.queue.toNat) ++
  zeros 2 ++ toBytes 4 m.rewindTo.toNat ++ m.release.toList.flatMap (fun r => toBytes 4 r.toNat)

/-- Remove the first consumed frame that satisfies a test: the command carries its content out. -/
def State.take (s : State) (f : Frame → Bool) : State :=
  { s with leat := { s.leat with inbox := s.leat.inbox.eraseP f } }

end Sys2Proof.Machine
end

