-- ==== Sys2Proof/Machine/Serve.lean ====
section
/-! DEFINITION. What SERVICE answers (R411 to R419) and the records of long operations (R431 to R434): shared by every
family whose commands answer a host write or end an operation. -/

namespace Sys2Proof.Machine

/-! ### Frames of SERVICE (R411, R412) -/

/-- Table 15-1 with the data: a request or a response. -/
def serviceBytes (cmd txn idx sub : Nat) (toggle last : Bool) (len : Nat) (data : List Byte) : List Byte :=
  toBytes 1 cmd ++ toBytes 1 txn ++ toBytes 2 idx ++ toBytes 1 sub ++
  toBytes 1 ((if toggle then 1 else 0) + (if last then 2 else 0)) ++ toBytes 2 len ++ data ++
  zeros (data.length % 2)

/-- R341: a response travels opposite to the request it answers. -/
def State.sendResponse (s : State) (south : Bool) (b : List Byte) : State := s.sendOwn (s.redirect (!south)) 3 b

/-- Replace the open transactions; 0x1300.01 counts them. -/
def State.setTxns (s : State) (l : List (Nat × Txn)) : State :=
  { s with svc := { s.svc with txns := l } }.setE 0x1300 1 l.length

/-- R417: a request completed: its response is sent and kept. -/
def State.complete (s : State) (txn : Nat) (south : Bool) (req resp : List Byte) : State :=
  let s := s.setTxns (Tbl.drop s.svc.txns txn)
  let kept := s.svc.stored.filter (fun e => decide (e.1 ≠ txn))
  { s with svc := { s.svc with stored := (txn, req, resp) :: kept } }.sendResponse south resp

/-- Count an ABORT that is sent (0x1300.02 to .04). -/
def State.countAbort (s : State) (idx sub code : Nat) : State :=
  ((s.bump 0x1300 2).setE 0x1300 3 code).setE 0x1300 4 (idx * 256 + sub)

/-- The ABORT response. -/
def abortBytes (txn idx sub code : Nat) : List Byte := serviceBytes 0xFF txn idx sub false false 4 (toBytes 4 code)

/-- R419: a request is refused; its transaction is closed. -/
def State.refuse (s : State) (txn : Nat) (south : Bool) (req : List Byte) (idx sub code : Nat) : State :=
  (s.countAbort idx sub code).complete txn south req (abortBytes txn idx sub code)

/-- An answer under a transaction that stays open: ABORT without effect (R416). -/
def State.reject (s : State) (txn : Nat) (south : Bool) (idx sub code : Nat) : State :=
  (s.countAbort idx sub code).sendResponse south (abortBytes txn idx sub code)

/-- A write is answered: WRITE_DONE, or ABORT where a code is given. -/
def State.answerReq (s : State) (txn : Nat) (south : Bool) (req : List Byte) (idx sub code : Nat) : State :=
  if code = 0 then s.complete txn south req (serviceBytes 0x82 txn idx sub false false 0 [])
  else s.refuse txn south req idx sub code

/-- The answer that the hub owes under a transaction that is executing (R416). -/
def State.answer (s : State) (txn code : Nat) : State :=
  match s.svc.txns.lookup txn with
  | none => s
  | some t => if t.xfer = .executing then s.answerReq txn t.south t.req t.idx t.sub code else s

/-! ### Long operations (R431 to R434) -/

/-- Record of an operation. -/
def opr (code : Nat) : Nat := 0x1400 + code

/-- The operation is RUNNING or CANCELLING. -/
def State.running (s : State) (code : Nat) : Bool := decide (s.e (opr code) 2 = 1 ∨ s.e (opr code) 2 = 2)

/-- R431: an accepted start. -/
def State.opStart (s : State) (code : Nat) : State :=
  let i := opr code
  ((((((((s.setE i 2 1).setE i 3 0).setE i 4 0).setE i 6 0).setE i 7 0).setE i 8 s.stamp).setE i 9 0).bump i 0x0A)

/-- R432: progress, which never falls, and position. -/
def State.opProgress (s : State) (code permille pos : Nat) : State :=
  (s.setE (opr code) 3 (max (s.e (opr code) 3) (min permille 1000))).setE (opr code) 4 (pos % 65536)

/-- An operation leaves RUNNING or CANCELLING for a state of Table 15-9. -/
def State.opLeave (s : State) (code st : Nat) : State :=
  ((s.setE (opr code) 2 st).setE (opr code) 4 0xFFFF).setE (opr code) 9 s.stamp

/-- R431: COMPLETED with a result. -/
def State.opDone (s : State) (code result : Nat) : State :=
  ((s.opLeave code 3).setE (opr code) 3 1000).setE (opr code) 6 result

/-- R433: CANCELLED. -/
def State.opCancelled (s : State) (code : Nat) : State := s.opLeave code 4

/-- R434: ABORTED for a reason, if it was running. -/
def State.opAbort (s : State) (code reason : Nat) : State :=
  if s.running code then (s.opLeave code 5).setE (opr code) 7 reason else s

/-- A reset ends every operation: its record reads NEVER_RUN and every entry its default (R434). -/
def State.opsReset (s : State) : State :=
  { s with dict := s.dict.filter (fun p => decide (p.1 / 256 < 0x1410 ∨ 0x1440 < p.1 / 256)) }

/-! ### Sounding ends early (R141) -/

/-- R141: the sweep is aborted: channels not yet reached are given up, and the tones begin to fall. -/
def State.abortSweep (s : State) (reason : Nat) : State :=
  if s.running 0x21 then [0, 1].foldl State.toneFalls (s.opAbort 0x21 reason) else s

end Sys2Proof.Machine
end

