-- ==== Sys2Proof/Machine/Safety.lean ====
section
/-! DEFINITION. The safety functions (R379 to R401): inputs with debounce and discrepancy, comparators, trips with
readback and test pulses, reaction times and the seal. -/

namespace Sys2Proof.Machine

/-- A safety input. -/
def State.input (s : State) (i : Nat) : SafeIn := Tbl.get SafeIn.reset s.inputs i
/-- Replace a safety input. -/
def State.setInput (s : State) (i : Nat) (x : SafeIn) : State := { s with inputs := Tbl.set SafeIn.reset s.inputs i x }
/-- A comparator's runs. -/
def State.cmp (s : State) (l : Nat) : CmpRun := Tbl.get CmpRun.reset s.cmps l
/-- Replace a comparator's runs. -/
def State.setCmp (s : State) (l : Nat) (x : CmpRun) : State := { s with cmps := Tbl.set CmpRun.reset s.cmps l x }
/-- A trip. -/
def State.trip (s : State) (n : Nat) : TripRun := Tbl.get TripRun.reset s.trips n
/-- Replace a trip. -/
def State.setTrip (s : State) (n : Nat) (x : TripRun) : State := { s with trips := Tbl.set TripRun.reset s.trips n x }

/-! ### Inputs (R381 to R386) -/

/-- Record of a safety input. -/
def sin (i : Nat) : Nat := 0x3800 + i

/-- R381: channel A shows healthy; channel B shows healthy under the mode. -/
def State.healthyA (s : State) (i : Nat) : Bool := s.flagged (sin i) 5 0
/-- Channel B shows healthy. -/
def State.healthyB (s : State) (i : Nat) : Bool :=
  match s.e (sin i) 1 with
  | 1 => s.flagged (sin i) 5 1
  | 2 => !s.flagged (sin i) 5 1
  | _ => s.flagged (sin i) 5 0

/-- R384: accepted levels neither both healthy nor both safe. -/
def State.disagrees (s : State) (i : Nat) : Bool :=
  decide (s.e (sin i) 1 = 1 ∨ s.e (sin i) 1 = 2) && (s.healthyA i != s.healthyB i)

/-- R383: what the input reads. -/
def State.inputReads (s : State) (i : Nat) : Bool :=
  decide (s.e (sin i) 1 ≠ 0) && s.healthyA i && s.healthyB i && !s.flagged (sin i) 5 3

/-- R383: the input's state follows. -/
def State.inputFollow (s : State) (i : Nat) : State := s.setE (sin i) 4 (if s.inputReads i then 1 else 0)

/-- A pin level at one more tick: how long it has stood. -/
def stood (level pin : Bool) (ticks : Nat) : Nat := if level = pin then ticks + 1 else 1

/-- R382: accept the level of a channel once it has stood for Debounce time. Channel B is not read in single-channel
mode (R381). -/
def State.debounce (s : State) (i : Nat) (chB : Bool) : State :=
  let x := s.input i
  let ticks := if chB then x.ticksB else x.ticksA
  if chB ∧ s.e (sin i) 1 = 3 then s
  else if 0 < ticks ∧ s.e (sin i) 2 ≤ ticks then s.flag (sin i) 5 (if chB then 1 else 0) (if chB then x.levelB else x.levelA) else s

/-- R384: latch DISCREPANCY_FAULT once the count has reached N. -/
def State.discrepancy (s : State) (i : Nat) : State :=
  if s.disagrees i ∧ 100 * s.e (sin i) 3 ≤ (s.input i).disagree ∧ !s.flagged (sin i) 5 3 then
    ((s.flag (sin i) 5 3 true).bump (sin i) 7).inputFollow i
  else s

/-- One tick of an input. -/
def State.inputTick (s : State) (i : Nat) (a b : Bool) : State :=
  let x := s.input i
  let s := s.setInput i { x with levelA := a, ticksA := stood x.levelA a x.ticksA, levelB := b, ticksB := stood x.levelB b x.ticksB }
  let s := (s.debounce i false).debounce i true
  let d := s.disagrees i
  let s := s.flag (sin i) 5 2 d
  let s := s.setInput i { s.input i with disagree := if d then (s.input i).disagree + 1 else 0 }
  (s.discrepancy i).inputFollow i

/-- R386: an acknowledge that was written since the previous tick. -/
def State.inputAck (s : State) (i : Nat) : State :=
  match (s.input i).ack with
  | none => s
  | some t =>
    let s := s.setInput i { s.input i with ack := none }
    if s.e (sin i) 1 = 0 ∨ (!s.healthyA i ∧ !s.healthyB i) then ((s.flag (sin i) 5 3 false).inputFollow i).answer t 0
    else s.answer t 0x05000006

/-! ### Comparators (R387, R388) -/

/-- Record of a comparator. -/
def cmpr (l : Nat) : Nat := 0x3A00 + l

/-- A comparator's state goes to 0. -/
def State.cmpDemand (s : State) (l : Nat) : State :=
  let s := s.setCmp l { s.cmp l with inside := 0 }
  if s.e (cmpr l) 0x0A = 1 then (s.setE (cmpr l) 0x0A 0).bump (cmpr l) 0x0C else s

/-- R387: the sample is beyond the limit. -/
def State.beyondLimit (s : State) (l : Nat) (v : Int) : Bool :=
  let m := s.e (cmpr l) 4
  (decide (m ≠ 2) && decide (s.eI 32 (cmpr l) 6 < v)) || (decide (m ≠ 1) && decide (v < s.eI 32 (cmpr l) 5))

/-- R387: the sample is back inside with the hysteresis to spare. -/
def State.backInside (s : State) (l : Nat) (v : Int) : Bool :=
  let m := s.e (cmpr l) 4
  let h : Int := s.e (cmpr l) 7
  (decide (m = 2) || decide (v ≤ s.eI 32 (cmpr l) 6 - h)) && (decide (m = 1) || decide (s.eI 32 (cmpr l) 5 + h ≤ v))

/-- R388: the state is 0 when samples with V-code 1 to 4 have followed one another for longer than Invalid hold. -/
def State.cmpInvalid (s : State) (l : Nat) : Bool :=
  match (s.cmp l).invalid with
  | some t => decide (t + tickUs (1000 * s.e (cmpr l) 9) < s.gov.ticks)
  | none => false

/-- R388: no sample has arrived within 3 nominal periods of the tap. -/
def State.cmpStale (s : State) (l : Nat) : Bool :=
  match (s.cmp l).last with
  | none => true
  | some t =>
    let c := s.e (cmpr l) 2
    let p := s.rawPeriod c
    decide (3 * p.1 * s.ratio c (s.e (cmpr l) 3) < (s.gov.ticks - t) * fuTick * p.2)

/-- R387, R388: a comparator takes a sample of its tap. -/
def State.cmpSample (s : State) (l : Nat) (v : Int) (vcode : Nat) : State :=
  let x := { s.cmp l with last := some s.gov.ticks }
  let k := s.e (cmpr l) 8
  if 1 ≤ vcode ∧ vcode ≤ 4 then
    let s := s.setCmp l { x with invalid := some (x.invalid.getD s.gov.ticks) }
    if s.cmpInvalid l then s.cmpDemand l else s
  else if 5 ≤ vcode ∨ s.beyondLimit l v then
    let s := s.setCmp l { x with invalid := none, beyond := x.beyond + 1, inside := 0 }
    if k ≤ x.beyond + 1 then s.cmpDemand l else s
  else if s.backInside l v then
    let s := s.setCmp l { x with invalid := none, beyond := 0, inside := x.inside + 1 }
    if k ≤ x.inside + 1 then s.setE (cmpr l) 0x0A 1 else s
  else s.setCmp l { x with invalid := none, beyond := 0, inside := 0 }

/-- Comparators that are enabled: each is listed in the store, since Comparator enable is 0 by default. -/
def State.enabledCmps (s : State) : List Nat :=
  (s.dict.filter (fun p => decide (p.1 % 256 = 1 ∧ 0x3A00 ≤ p.1 / 256 ∧ p.1 / 256 < 0x3B00 ∧ p.2 = 1))).map (fun p => p.1 / 256 - 0x3A00)

/-- Every comparator on a tap of a channel takes its output, while the safety functions run. -/
def State.comparators (s : State) (c tap : Nat) (x : Sample) : State :=
  if s.safeOn then
    (s.enabledCmps.filter (fun l => decide (s.e (cmpr l) 2 = c ∧ s.e (cmpr l) 3 = tap))).foldl
      (fun s l => s.cmpSample l x.val x.vcode) s
  else s

/-- Comparators that have fallen stale or have been held invalid too long go to 0 (R388). -/
def State.cmpRefresh (s : State) (l : Nat) : State := if s.cmpStale l || s.cmpInvalid l then s.cmpDemand l else s

/-! ### Trips (R389 to R394) -/

/-- Record of a trip. -/
def tripr (n : Nat) : Nat := 0x3820 + n

/-- R403, R406: data bit b of a consume connection. -/
def State.scrimBit (s : State) (k b : Nat) : Bool :=
  let i := 0x3B00 + k
  decide (s.e i 1 = 1 ∧ s.e i 2 = 0 ∧ s.e i 8 = 2 ∧ b / 8 < s.e i 7) &&
    bit ((Tbl.get [] s.blobs (ekey i 0x0A)).getD (b / 8) 0).toNat (b % 8)

/-- Table 14-2: what a term reads; nothing for an unused one. -/
def State.term (s : State) (w : Nat) : Option Bool :=
  let x := w % 8192
  match w / 8192 with
  | 0 => none
  | 1 => some (decide (x < 16) && decide (s.e (sin x) 1 ≠ 0) && decide (s.e (sin x) 4 = 1))
  | 2 => some (decide (x < 256) && decide (s.e (cmpr x) 1 = 1) && decide (s.e (cmpr x) 0x0A = 1))
  | 3 => some (s.scrimBit (x / 128) (x % 128))
  | _ => some false

/-- The terms of a trip. -/
def State.termWords (s : State) (n : Nat) : List Nat := (List.range 32).map (fun i => s.e (tripr n) (0x10 + i))

/-- SEAL_MISMATCH, SEAL_CHANGED, SAFETY_FAULT or TICK_OVERRUN is set. -/
def State.safetyFaulted (s : State) : Bool := decide (s.e 0x3810 4 / 2 % 16 ≠ 0)

/-- R390: the trip demands. -/
def State.demands (s : State) (n : Nat) : Bool :=
  let used := (s.termWords n).filterMap s.term
  let v := s.e (tripr n) 2
  s.safetyFaulted || decide (used.length < v) || decide (v ≤ (used.filter (fun b => !b)).length)

/-- The trip is enabled. -/
def State.tripOn (s : State) (n : Nat) : Bool := decide (s.e (tripr n) 1 = 1)

/-- Trip state of Table 14-3. -/
def State.tripState (s : State) (n : Nat) : Nat := s.e (tripr n) 9

/-- Level that a trip pin should have: high while HEALTHY and not pulsed; after an overrun the tick watchdog holds it low
(R379). -/
def State.pinLevel (s : State) (n : Nat) (chB : Bool) : Bool :=
  s.tripOn n && !s.flagged 0x3810 4 4 && decide (s.tripState n = 0) && (if chB then (s.trip n).pulseB.isNone else (s.trip n).pulseA.isNone)

/-- Drive one trip pin, noting when it changes. -/
def State.drivePin (s : State) (n : Nat) (chB level : Bool) : State :=
  if chB then
    if bit s.pins.tob n = level then s
    else { s with pins := { s.pins with tob := setBit s.pins.tob n level } }.setTrip n { s.trip n with sinceB := s.safeTicks, diffB := 0 }
  else
    if bit s.pins.toa n = level then s
    else { s with pins := { s.pins with toa := setBit s.pins.toa n level } }.setTrip n { s.trip n with sinceA := s.safeTicks, diffA := 0 }

/-- Drive both pins of a trip as its state says. -/
def State.drive (s : State) (n : Nat) : State := (s.drivePin n false (s.pinLevel n false)).drivePin n true (s.pinLevel n true)

/-- Pulse-in-progress bit of Trip status. -/
def State.pulseBit (s : State) (n : Nat) : State :=
  s.flag (tripr n) 0x0A 3 ((s.trip n).pulseA.isSome || (s.trip n).pulseB.isSome)

/-- R391: a trip enters a de-energised state: pulses end, both pins go low, Last trip is written. -/
def State.tripTo (s : State) (n st : Nat) : State :=
  let s := if s.tripState n = 0 then s.bump (tripr n) 0x0C else s
  let s := s.setTrip n { s.trip n with pulseA := none, pulseB := none }
  (((s.setE (tripr n) 9 st).setE (tripr n) 0x0D s.stamp).pulseBit n).drive n

/-- R393: a channel's readback fault; a trip already in FAULT only shows it. -/
def State.readbackFault (s : State) (n : Nat) (chB : Bool) : State :=
  let t := s.flag (tripr n) 0x0A (if chB then 2 else 1) true
  if s.tripState n = 3 then t else t.tripTo n 3

/-- R393: one channel of an enabled trip against its readback pin: consecutive differences, and FAULT at the second.
At the last tick of a test pulse one difference is enough (R394). -/
def State.readback (s : State) (n : Nat) (chB tf : Bool) : State :=
  let x := s.trip n
  let pin := bit (if chB then s.pins.tob else s.pins.toa) n
  let since := if chB then x.sinceB else x.sinceA
  let diff := if chB then x.diffB else x.diffA
  let pulse := if chB then x.pulseB else x.pulseA
  let width := ceilDiv (s.e (tripr n) 4) 10
  let lastTick := match pulse with | some t => decide (s.safeTicks + 1 = t + width) | none => false
  if tf = pin then s.setTrip n (if chB then { x with diffB := 0 } else { x with diffA := 0 })
  else if lastTick then s.readbackFault n chB
  else if s.e (tripr n) 6 ≤ 10 * (s.safeTicks - since) then
    let s := s.setTrip n (if chB then { x with diffB := diff + 1 } else { x with diffA := diff + 1 })
    if 2 ≤ diff + 1 then s.readbackFault n chB else s
  else s

/-- R355: the member emits test pulses. -/
def State.pulses (s : State) : Bool := decide (s.role = 0 ∨ s.role = 4 ∨ s.role = 5)

/-- R394: the instant of a test pulse, in safety ticks from the start of the safety functions. -/
def State.pulseDue (s : State) (n : Nat) (chB : Bool) : Bool :=
  let i := 100000 * s.e (tripr n) 5
  decide (0 < i) && decide (s.safeTicks % i = if chB then i / 2 else 0)

/-- R394: start a test pulse that is due; one that finds the trip not HEALTHY is skipped. -/
def State.startPulse (s : State) (n : Nat) (chB : Bool) : State :=
  let x := s.trip n
  if s.pulses && s.tripOn n && decide (s.tripState n = 0) && s.pulseDue n chB && (if chB then x.pulseB.isNone else x.pulseA.isNone) then
    ((s.setTrip n (if chB then { x with pulseB := some s.safeTicks } else { x with pulseA := some s.safeTicks })).pulseBit n).drive n
  else s

/-- R394: a pulse ends after its width. -/
def State.endPulse (s : State) (n : Nat) (chB : Bool) : State :=
  let x := s.trip n
  let width := ceilDiv (s.e (tripr n) 4) 10
  match if chB then x.pulseB else x.pulseA with
  | some t =>
    if t + width ≤ s.safeTicks then (s.setTrip n (if chB then { x with pulseB := none } else { x with pulseA := none })).pulseBit n else s
  | none => s

/-- Table 14-3: the acknowledge of a trip at its tick: the refusal code, 0 when taken. -/
def State.tripAckCode (s : State) (n : Nat) (p : SafetyPins) : Nat :=
  if s.demands n then 0x05000006
  else if s.tripState n = 3 ∧ (bit p.tfa.toNat n ∨ bit p.tfb.toNat n) then 0x05000006
  else 0

/-- R391: apply an acknowledge that was written since the previous tick. -/
def State.tripAck (s : State) (n : Nat) (p : SafetyPins) : State :=
  match (s.trip n).ack with
  | none => s
  | some t =>
    let code := s.tripAckCode n p
    let s := s.setTrip n { s.trip n with ack := none }
    let s :=
      if code = 0 ∧ s.tripOn n ∧ 2 ≤ s.tripState n ∧ !(s.trip n).parked then
        ((s.flag (tripr n) 0x0A 1 false).flag (tripr n) 0x0A 2 false).setE (tripr n) 9 0
      else s
    s.answer t code

/-- R391: evaluate a trip at a tick. A disabled trip reads TRIPPED; a readback fault that no acknowledge has cleared
holds an enabled one in FAULT (R393). -/
def State.tripEval (s : State) (n : Nat) : State :=
  let d := s.demands n
  let s := s.flag (tripr n) 0x0A 0 d
  if !s.tripOn n then (if s.tripState n = 0 then s.tripTo n 1 else s.setE (tripr n) 9 1)
  else if (s.trip n).parked then s
  else if s.tripState n ≠ 3 ∧ (s.flagged (tripr n) 0x0A 1 ∨ s.flagged (tripr n) 0x0A 2) then s.tripTo n 3
  else if d ∧ s.tripState n = 0 then s.tripTo n (if s.e (tripr n) 3 = 1 then 2 else 1)
  else if !d ∧ s.tripState n = 1 then s.setE (tripr n) 9 0
  else s

/-- One tick of a trip. -/
def State.tripTick (s : State) (n : Nat) (p : SafetyPins) : State :=
  let s := (s.tripAck n p).tripEval n
  let s := (s.endPulse n false).endPulse n true
  let s := s.drive n
  let s := if s.tripOn n then (s.readback n false (bit p.tfa.toNat n)).readback n true (bit p.tfb.toNat n) else s
  (s.startPulse n false).startPulse n true

/-- R379: SAFETY_FAULT, which counts when it is set. -/
def State.safetyFault (s : State) : State :=
  if s.flagged 0x3810 4 3 then s else (s.flag 0x3810 4 3 true).bump 0x3810 5

/-- R379: a safety tick, in the order of the rule. -/
def State.tick10 (s : State) (p : SafetyPins) (mismatch : Bool) : State :=
  let s := { s with safeTicks := s.safeTicks + 1, pins := { s.pins with
    sia := p.sia.toNat, sib := p.sib.toNat, tfa := p.tfa.toNat, tfb := p.tfb.toNat } }
  let s := (List.range 16).foldl (fun s i => s.inputTick i (bit p.sia.toNat i) (bit p.sib.toNat i)) s
  let s := (Tbl.keys s.cmps).foldl State.cmpRefresh s
  let s := (List.range 16).foldl State.inputAck s
  let s := if mismatch then s.safetyFault else s
  (List.range 8).foldl (fun s n => s.tripTick n p) s

/-- R379: every trip pin is driven low. -/
def State.pinsLow (s : State) : State :=
  (List.range 8).foldl (fun s n => (s.drivePin n false false).drivePin n true false) s

/-! ### Reaction times (R395, R396) -/

/-- G of R395, in slots: the longest interval between two channel entries of a channel, the wrap included. -/
def State.longestSlots (s : State) (c : Nat) : Nat :=
  let g := grp c
  let es := s.entries g
  let at_ := (List.range es.length).filter (fun i => entryKind (es.getD i 0) = 0 ∧ entryChan g (es.getD i 0) = c)
  let starts := at_.map (slotsBefore es)
  match starts with
  | [] => s.np g
  | a :: _ => ((starts.zip (starts.drop 1 ++ [a + s.np g])).map (fun p => p.2 - p.1)).foldl max 0

/-- R395: a comparator's reaction time in µs, rounded up. -/
def State.cmpReaction (s : State) (l : Nat) : Nat :=
  let c := s.e (cmpr l) 2
  let tap := s.e (cmpr l) 3
  let p := s.rawPeriod c
  let h := if s.e (0x2400 + c) 2 = 0 then 0 else s.e (0x2400 + c) 7
  let g := if s.interleaved (grp c) then slotFu / 2 else s.longestSlots c * slotFu
  let n := g * p.2 + (s.delay2 c tap + h + s.e (cmpr l) 8 * s.ratio c tap) * p.1
  ceilDiv n (p.2 * 1000 * fuNs) + 1000 * s.e (cmpr l) 9 + 60

/-- R395: reaction time of a term in µs; nothing for an unused term. -/
def State.termReaction (s : State) (w : Nat) : Option Nat :=
  match w / 8192 with
  | 0 => none
  | 1 => some (10 * s.e (sin (w % 8192)) 2 + 40)
  | 2 => some (s.cmpReaction (w % 8192))
  | _ => some (1000 * s.e (0x3B00 + w % 8192 / 128) 5 + 40)

/-- R396: the reaction time of every trip; a comparator's is computed as it is read. -/
def State.reactions (s : State) : State :=
  (List.range 8).foldl (fun s n => s.setE (tripr n) 8 (sat32 (maxNat ((s.termWords n).filterMap s.termReaction)))) s

/-! ### The seal (R397 to R401) -/

/-- Encoded bytes of an entry that is not a byte string. -/
def State.entryBytes (s : State) (idx : Nat) (r : Row) (sub : Nat) : List Byte :=
  if r.ty = .domain then Tbl.get [] s.blobs (ekey idx sub) else toBytes r.ty.size (s.e idx sub)

/-- Subindices of a row. -/
def Row.subs (r : Row) : List Nat := (List.range (r.hi + 1 - r.lo)).map (fun i => r.lo + i)

/-- The entries of a run of records that pass a test, most significant byte first, with nothing between them. -/
def State.setBytes (s : State) (base count : Nat) (rows : List Row) (keep : Row → Bool) : List Byte :=
  (List.range count).flatMap (fun i => (rows.filter keep).flatMap (fun r => r.subs.flatMap (fun sub =>
    s.entryBytes (base + i) r sub)))

/-- R398: CRC-32C of the safety parameter set. -/
def State.safetyDigest (s : State) : Nat :=
  let k := fun (r : Row) => decide (r.acc = .rwSeal)
  crc32C (s.setBytes 0x3800 16 Rows.safetyInput k ++ s.setBytes 0x3820 8 Rows.trip k ++
    s.setBytes 0x3A00 256 Rows.comparator k ++ s.setBytes 0x3B00 64 Rows.scrim k)

/-- R399, R400: compare the seal at start with the digest. -/
def State.sealCompare (s : State) : State :=
  let w := s.e 0x3810 1
  if bit w 15 then
    let s := s.flag 0x3810 4 0 false
    if w % 4096 = s.safetyDigest % 4096 then s else s.flag 0x3810 4 1 true
  else s.flag 0x3810 4 0 true

/-- R406: at a start an enabled consume connection is OPENING; sequences start at 0 (R404). -/
def State.openScrims (s : State) : State :=
  let on := (s.dict.filter (fun p => decide (p.1 % 256 = 1 ∧ 0x3B00 ≤ p.1 / 256 ∧ p.1 / 256 < 0x3B40 ∧ p.2 = 1))).map (fun p => p.1 / 256)
  on.foldl (fun s i => if s.e i 2 = 0 then s.setE i 8 1 else s.setE i 8 0) { s with scrims := [] }

/-- The acknowledges that wait for a tick that does not come are given up with their transactions. -/
def State.safetyStop (s : State) : State :=
  { s.pinsLow with safeOn := false, inputs := [], cmps := [], trips := [], scrims := [] }

/-- R388, R391: a start of the safety functions. -/
def State.safetyStart (s : State) : State :=
  let s := { s.pinsLow with safeOn := true, safeTicks := 0, inputs := [], cmps := [], trips := [] }
  let s := (List.range 8).foldl (fun s n =>
    (s.setE (tripr n) 9 (if s.tripOn n ∧ s.e (tripr n) 3 = 1 then 2 else 1)).setE (tripr n) 0x0A 0) s
  let s := s.enabledCmps.foldl (fun s l => s.setE (cmpr l) 0x0A 0) s
  (s.openScrims).reactions

end Sys2Proof.Machine
end

