-- ==== Sys2Proof/Machine/Scrim.lean ====
section
/-! DEFINITION. Scrim, the safety connection protocol (R402 to R406). -/

namespace Sys2Proof.Machine

/-- Record of a connection. -/
def scr (k : Nat) : Nat := 0x3B00 + k

/-- A connection's state beyond its record. -/
def State.scrim (s : State) (k : Nat) : ScrimRun := Tbl.get ScrimRun.reset s.scrims k
/-- Replace it. -/
def State.setScrim (s : State) (k : Nat) (x : ScrimRun) : State := { s with scrims := Tbl.set ScrimRun.reset s.scrims k x }

/-- A byte of eight signals. -/
def bitsByte (f : Nat → Bool) : Byte := BitVec.ofNat 8 (sumNat ((List.range 8).map (fun b => if f b then 2 ^ b else 0)))

/-- Table 14-5: a signal byte. -/
def State.signal (s : State) (x : Nat) : Byte :=
  if x ≤ 1 then bitsByte (fun b => decide (s.e (sin (8 * x + b)) 4 = 1))
  else if x ≤ 0x21 then bitsByte (fun b => decide (s.e (cmpr (8 * (x - 2) + b)) 0x0A = 1))
  else if x = 0x22 then bitsByte (fun b => s.tripOn b && decide (s.tripState b = 0))
  else if x = 0x23 then bitsByte (fun b => decide (s.tripState b ≠ 3))
  else if x ≤ 0x2B then bitsByte (fun b => let i := scr (8 * (x - 0x24) + b); decide (s.e i 1 = 1 ∧ s.e i 2 = 0 ∧ s.e i 8 = 2))
  else if x = 0x2C then bitsByte (fun b =>
    (decide (b = 0) && s.sealed && !s.flagged 0x3810 4 1) || (decide (b = 1) && !s.flagged 0x3810 4 3) || (decide (b = 2) && s.pulses))
  else 0

/-- R404: the data of a produce connection. -/
def State.produceData (s : State) (k : Nat) : List Byte :=
  (List.range (s.e (scr k) 7)).map (fun j => s.signal (s.e (scr k) (0x10 + j)))

/-- Table 14-4: a message. -/
def scrimBytes (k identity seq : Nat) (time : Int) (data : List Byte) : List Byte :=
  let b := toBytes 1 k ++ toBytes 1 data.length ++ toBytes 2 seq ++ toBytes 12 (toTime96 time) ++ data ++ zeros (data.length % 2)
  b ++ toBytes 4 (crc32CSeed identity b)

/-- R404: a produce connection is due: its period has passed, or its data changed and 100 µs have passed. -/
def State.produceDue (s : State) (k : Nat) : Bool :=
  decide (s.e (scr k) 1 = 1 ∧ s.e (scr k) 2 = 1) && s.safeOn &&
    (match (s.scrim k).sentAt with
      | none => true
      | some t =>
        decide (t + tickUs (100 * s.e (scr k) 6) ≤ s.gov.ticks) ||
        (decide (t + tickUs 100 ≤ s.gov.ticks) && decide (s.produceData k ≠ (s.scrim k).sentData)))

/-- R404: send the message. -/
def State.produce (s : State) (k : Nat) : State :=
  let x := s.scrim k
  let d := s.produceData k
  let s := s.setScrim k { x with seq := wrap16 (x.seq + 1), sentAt := some s.gov.ticks, sentData := d }
  s.sendOwn s.ownSouth 5 (scrimBytes k (s.e (scr k) 3) x.seq s.now d)

/-- R406: the connection fails with a cause of Table 14-6. -/
def State.scrimFail (s : State) (k cause : Nat) : State :=
  ((s.setE (scr k) 8 3).setE (scr k) 9 cause).bump (scr k) 0x0D

/-- R406: a message is accepted. -/
def State.scrimAccept (s : State) (k seq : Nat) (data : List Byte) : State :=
  let s := s.setScrim k { s.scrim k with lastAt := some s.gov.ticks, reference := none }
  { s with blobs := Tbl.set [] s.blobs (ekey (scr k) 0x0A) data }.setE (scr k) 0x0C seq

/-- R405: format, check and age of a message for a connection: the cause of Table 14-6, or none. -/
def State.scrimFault (s : State) (k : Nat) (b : List Byte) : Option Nat :=
  let u := fun i n => Machine.ofBytes ((b.drop i).take n)
  let n := u 1 1
  let age := s.now - ofTime96 (u 4 12)
  if b.length ≠ 20 + n + n % 2 ∨ n ≠ s.e (scr k) 7 ∨ 16 < n ∨ 64 ≤ u 0 1 then some 5
  else if crc32CSeed (s.e (scr k) 3) (b.take (b.length - 4)) ≠ u (b.length - 4) 4 then some 1
  else if fuMs (s.e (scr k) 5) < age ∨ age < -fuMs 1 then some 3
  else none

/-- R405: sequence test of an OPEN connection comes before the age. -/
def State.scrimOpen (s : State) (k : Nat) (b : List Byte) : State :=
  let seq := Machine.ofBytes ((b.drop 2).take 2)
  let data := (b.drop 16).take (s.e (scr k) 7)
  let f := s.scrimFault k b
  if f = some 5 ∨ f = some 1 then s.scrimFail k (f.getD 0)
  else if seq = s.e (scr k) 0x0C then s.bump (scr k) 0x0E
  else if seq ≠ wrap16 (s.e (scr k) 0x0C + 1) then s.scrimFail k 2
  else match f with
    | some c => s.scrimFail k c
    | none => s.scrimAccept k seq data

/-- R406: OPENING: a good message becomes the reference, or opens the connection when it follows the reference. -/
def State.scrimOpening (s : State) (k : Nat) (b : List Byte) : State :=
  let seq := Machine.ofBytes ((b.drop 2).take 2)
  if (s.scrimFault k b).isSome then s
  else if (s.scrim k).reference.map (fun r => wrap16 (r + 1)) = some seq then
    (s.scrimAccept k seq ((b.drop 16).take (s.e (scr k) 7))).setE (scr k) 8 2
  else s.setScrim k { s.scrim k with reference := some seq }

/-- R405, R406: a consume connection takes a message. -/
def State.scrimTake (s : State) (k : Nat) (b : List Byte) : State :=
  match s.e (scr k) 8 with
  | 1 => s.scrimOpening k b
  | 2 => s.scrimOpen k b
  | _ => s

/-- Enabled consume connections that name a peer connection. -/
def State.consumers (s : State) (peer : Nat) : List Nat :=
  (List.range 64).filter (fun k => decide (s.e (scr k) 1 = 1 ∧ s.e (scr k) 2 = 0 ∧ s.e (scr k) 4 = peer))

/-- R405: a received message. -/
def State.scrimReceive (s : State) (b : List Byte) : State :=
  match s.consumers (Machine.ofBytes (b.take 1)) with
  | [] => s.bump 0x3810 6
  | ks => ks.foldl (fun s k => s.scrimTake k b) s

/-- R405: no accepted message for Watchdog while OPEN. -/
def State.scrimLate (s : State) (k : Nat) : Bool :=
  decide (s.e (scr k) 8 = 2) && (match (s.scrim k).lastAt with
    | some t => decide (t + tickUs (1000 * s.e (scr k) 5) ≤ s.gov.ticks)
    | none => true)

/-- R404, R406: an enable or a Reset: OPENING for a consume connection, sequence from 0 for a produce connection. -/
def State.scrimBegin (s : State) (k : Nat) : State :=
  let s := s.setScrim k ScrimRun.reset
  if s.e (scr k) 1 = 1 ∧ s.e (scr k) 2 = 0 then s.setE (scr k) 8 1 else s.setE (scr k) 8 0

/-- R402: an enable is refused: identity 0 or that of another enabled connection. -/
def State.scrimConflict (s : State) (k : Nat) : Bool :=
  let id := s.e (scr k) 3
  decide (id = 0) || (List.range 64).any (fun j => decide (j ≠ k ∧ s.e (scr j) 1 = 1 ∧ s.e (scr j) 3 = id))

end Sys2Proof.Machine
end

