-- ==== Sys2Proof/Machine/Intake.lean ====
section
/-! DEFINITION. The Intake region (R144, R149): a raw record or a raw gap goes through its channel's Millstone, to the
comparators, to the streams at the Millstone taps and to Align. -/

namespace Sys2Proof.Machine

/-- Outputs at the tap points reach their takers. -/
def State.deliver (s : State) (c : Nat) (outs : List (Nat × Sample)) : State :=
  outs.foldl (fun s o =>
    let s := (s.comparators c o.1 o.2).tapOut c o.1 o.2
    if o.1 = 2 then s.alignTake c o.2 else s) s

/-- One raw sample on its way through the chain. -/
def State.rawSample (s : State) (c : Nat) (code : Int) (tag vcode : Nat) (stamp : Int) : State :=
  let a := s.intake c code tag vcode stamp
  let b := a.2.stages c a.1
  b.1.deliver c b.2

/-- Offsets of a channel's conversions within a rotation, in fraction units, rising (R97, R107). -/
def State.convOffsets (s : State) (c : Nat) : List Nat :=
  let g := grp c
  let es := s.entries g
  let at_ := (List.range es.length).filter (fun i => entryKind (es.getD i 0) = 0 ∧ entryChan g (es.getD i 0) = c)
  at_.flatMap (fun i =>
    let o := slotFu * slotsBefore es i
    if s.interleaved g then [o, o + slotFu / 2] else [o])

/-- R315: every stream that draws on a channel follows a raw gap of it; a stream of the code 8 channel that the channel
compensates follows it over the samples for which the gap stands in (R17, R66). -/
def State.followGap (s : State) (c : Nat) (first last : Int) (n : Nat) : State :=
  let note := fun (s : State) (d : Nat) (t : GapTask) =>
    (s.streamsOn d).foldl (fun s k => s.setStream k { s.stream k with gapTasks := (s.stream k).gapTasks ++ [t] }) s
  let lo := (s.mill c).raws
  let s := note s c ⟨c, c, false, lo, lo + n - 1, first, last, n, 0, 0⟩
  (s.drawnBy c).foldl (fun s d =>
    let k := (s.mill d).raws
    note s d ⟨c, d, true, max 1 k, max 1 k - 1, first, last, n, 0, 0⟩) s

/-- R112, R149: a raw gap record: its missing conversions enter the chain one by one. -/
def State.takeGap (s : State) (r : Raw) : State :=
  let c := r.chan
  let last := match (s.mill c).lastRaw with
    | some x => (x.code, x.tag)
    | none => (0, s.e (0x2400 + c) 13)
  r.lost.foldl (fun s t => s.rawSample c last.1 last.2 7 t) (s.followGap c r.stamp (r.lost.getLast?.getD r.stamp) r.lost.length)

/-- R144: a raw record that the Intake region takes; a Millstone that is stopped takes none. -/
def State.takeRecord (s : State) (r : Raw) : State :=
  if !(s.mill r.chan).running then s
  else if r.gap then s.takeGap r
  else
    let s := s.rawSample r.chan r.code r.tag r.vcode r.stamp
    s.setMill r.chan { s.mill r.chan with lastRaw := some r }

/-- The oldest record of a group's raw buffer is taken out; gap records follow while the buffer has room (R112). -/
def State.popRaw (s : State) (g : Nat) : Option (Raw × State) :=
  let x := s.group g
  match x.buf with
  | [] => none
  | r :: rest => some (r, (s.setGroup g { x with buf := rest }).sendGaps g)

/-- Take every record that a group still holds, at most `fuel`. -/
def State.drainBy : Nat → State → Nat → State
  | 0, s, _ => s
  | k + 1, s, g =>
    match s.popRaw g with
    | none => s
    | some (r, s') => State.drainBy k (s'.takeRecord r) g

/-- Raw samples already taken continue through the Millstones (R102); a ready standby's own reach none (R365). -/
def State.drain (s : State) (g : Nat) : State :=
  if s.role = 3 then s else State.drainBy ((s.group g).buf.length + (s.group g).missing.length) s g

end Sys2Proof.Machine
end

