-- ==== Sys2Proof/Machine/Plan.lean ====
section
/-! DEFINITION. The sample plan: rotations, bursts and EVT inputs (R92 to R109), the start and the stop of the plan
(R99 to R102), the checks of a Run command (R122) and what a step of domain 0 does to it (R40, R101, R167). -/

namespace Sys2Proof.Machine

/-- Groups with a rotation, in group order. -/
def State.usedGroups (s : State) : List Nat := (List.range s.groupCount).filter (fun g => decide (0 < s.rotLen g))

/-- Rotation period in fraction units. -/
def State.period (s : State) (g : Nat) : Int := ((s.np g * slotFu : Nat) : Int)

/-! ### Rotations (R97, R100, R104) -/

/-- The rotation in progress has performed its last action and its period has passed. -/
def State.rotationDone (s : State) (g : Nat) : Bool :=
  match (s.group g).origin with
  | none => true
  | some r => (s.nextEntry g r).isNone && decide (r + s.period g ≤ s.now)

/-- R165: Millstones start with the group's first rotation of the run, or of a burst with Burst restart at 1; what the
raw buffer holds from before goes through them first. Those of a ready standby start with its active's (R365). -/
def State.beginRotation (s : State) (g : Nat) (r : Int) (burst : Bool) : State :=
  let x := s.group g
  let start := (x.fresh || (burst && decide (s.e (0x2700 + g) 0x24 = 1))) && decide (s.role ≠ 3)
  let s := if start then s.drain g else s
  let s := if x.origin.isSome then s.wrapAdd 32 (0x2700 + g) 0x23 1 else s
  let s := s.setGroup g { s.group g with
    origin := some r, entry := 0, second := false, nextStart := some (r + s.period g), fresh := false, anchor := false }
  let s := if x.fresh || burst || x.anchor then s.oweAnchor g r else s
  let s := if burst then s.muxAim g r else s
  (if start then s.startMills g else s).setE (0x2700 + g) 0x21 2

/-- A rotation is due: the plan runs, the one before it is done, and its start instant has come. -/
def State.rotationDue (s : State) (g : Nat) : Option Int :=
  let x := s.group g
  match x.nextStart with
  | some r =>
    if s.planState = 1 ∧ r ≤ s.now ∧ s.rotationDone g ∧ (s.trigger g = 0 ∨ 0 < x.burstLeft) then some r else none
  | none => none

/-- R100, R104: start the rotation that is due. -/
def State.rotate (s : State) (g : Nat) : State :=
  match s.rotationDue g with
  | some r =>
    let s := s.beginRotation g r false
    s.setGroup g { s.group g with burstLeft := (s.group g).burstLeft - 1 }
  | none => s

/-! ### EVT inputs (R103 to R105) -/

/-- Groups that an EVT input triggers. -/
def State.triggered (s : State) (k : Nat) : List Nat := s.usedGroups.filter (fun g => decide (s.trigger g = k + 1))

/-- A group triggered by the input is still in its burst, or a burst of the input is about to start (DEDUCED, log entry 20). -/
def State.inBurst (s : State) (k : Nat) : Bool :=
  (s.triggered k).any (fun g => (s.group g).origin.isSome) || (s.evtFire.lookup k).isSome

/-- R104: the pulse qualifies under the input's mode; nothing when it is none of the mode's polarity. -/
def State.qualifies (s : State) (k : Nat) (high : Bool) (width : Nat) : Option Bool :=
  let i := 0x2780 + k
  let lo := decide (s.e i 2 ≤ width)
  match s.e i 1 with
  | 1 => if high then some lo else none
  | 2 => if high then none else some lo
  | 3 => if high then some (lo && decide (width ≤ s.e i 3)) else none
  | 4 => if high then none else some (lo && decide (width ≤ s.e i 3))
  | _ => none

/-- R104, R105: an EVT pulse, judged at its qualification instant or at its end. -/
def State.evtPulse (s : State) (k : Nat) (high : Bool) (width : Nat) : State :=
  let i := 0x2780 + k
  match s.qualifies k high width with
  | none => s
  | some false => s.bump i 7
  | some true =>
    if s.inBurst k then s.bump i 6
    else
      let s := (s.setE i 8 s.stamp).bump i 5
      if s.planState = 1 ∧ s.triggered k ≠ [] then
        { s with evtFire := Tbl.put s.evtFire k (s.now + ((s.e i 4 * fuTick : Nat) : Int)) }
      else s

/-- R104: the bursts of an input start. -/
def State.startBursts (s : State) (k : Nat) : State :=
  let s := { s with evtFire := Tbl.drop s.evtFire k }
  if s.planState = 1 then
    (s.triggered k).foldl (fun s g =>
      let s := s.beginRotation g s.now true
      s.setGroup g { s.group g with burstLeft := s.e (0x2700 + g) 4 - 1 }) s
  else s

/-- R104: the last rotation of a burst is done. -/
def State.burstDone (s : State) (g : Nat) : Bool :=
  decide (s.planState = 1 ∧ s.trigger g ≠ 0 ∧ (s.group g).burstLeft = 0) && (s.group g).origin.isSome && s.rotationDone g

/-- A rotation ends and none follows. -/
def State.endRotation (s : State) (g st : Nat) : State :=
  let x := s.group g
  let s := if x.origin.isSome then s.wrapAdd 32 (0x2700 + g) 0x23 1 else s
  (s.setGroup g { x with origin := none, entry := 0, second := false, nextStart := none, burstLeft := 0 }).setE (0x2700 + g) 0x21 st

/-! ### Start (R99, R100) -/

/-- R99: the plan start instant for the moment `c` at which the checks passed, and whether it was substituted. -/
def State.chooseStart (s : State) (c : Int) : Int × Bool :=
  let want := s.e 0x2790 2
  if want ≠ 0 ∧ c + fuMs 1 ≤ ofTime96 want then (ofTime96 want, false)
  else (nextSecond (c + fuMs 1), decide (want ≠ 0))

/-- R99: fix and report S. -/
def State.fixStart (s : State) : State :=
  let a := s.chooseStart s.now
  let s := s.setE 0x2790 3 (toTime96 a.1)
  if a.2 then s.event 0 0x0401 (toBytes 12 (toTime96 a.1)) else s

/-- R100: first rotation instant of a timer group at or after an instant: a multiple of the period, since the period
divides a second. -/
def State.firstRotation (s : State) (g : Nat) (t : Int) : Int :=
  let p := s.period g
  Int.neg ((-t) / p) * p

/-- R230, R282: what a stream starts a run with; a class Y stream begins suspended while YIELDING stands (R317). -/
def State.startStream (s : State) (n : Nat) : State :=
  let x := { Stream.reset with sourceChange := (s.stream n).sourceChange }
  let s := (s.setStream n x).setE (strm n) 0x13 0
  if s.classY n && s.flagged 0x3400 0x0A 0 && !s.listening then
    ((s.setStream n { x with suspended := true }).setE (strm n) 0x12 2).bump (strm n) 0x17
  else s.setE (strm n) 0x12 1

/-- A channel's front end at the start of a run: no raw value, no check and no conversion of the run yet; an
auto-ranged channel begins on its widest range (R70). An open break and its clean evidence carry over (R133), and so do
coefficients that outputs from before a block write still need (R174). -/
def State.startChan (s : State) (c : Nat) : State :=
  let s := s.setChan c { s.chan c with
    lastRaw := none, lastCheck := none, lastClean := none, lastCalm := none, held := none, hold := 0, below := 0
    excRun := 0
    nextRange := some (if s.e (0x2400 + c) 2 = 0 then s.e (0x2400 + c) 3 else s.e (0x2400 + c) 4) }
  s.setMill c { Mill.reset with running := (s.mill c).running, coefOld := (s.mill c).coefOld }

/-- R109: converter 2k + 1 of an interleaved pair is trimmed at the start of each plan. -/
def State.trim (s : State) (g : Nat) : State :=
  if s.interleaved g then (s.setGroup g { s.group g with trim := some s.freeCtr }).fresh else s

/-- Group states at the start of a run (Table 04-8): timer groups run, EVT groups wait, partners are given. -/
def State.startGroup (s : State) (g : Nat) (at_ : Int) : State :=
  if 0 < s.rotLen g then
    let first := if s.trigger g = 0 then some (s.firstRotation g at_) else none
    let s := ((s.setGroup g { Group.reset with nextStart := first, fresh := true }).trim g).muxAim g (first.getD at_)
    s.setE (0x2700 + g) 0x21 (if s.trigger g = 0 then 2 else 3)
  else s.setE (0x2700 + g) 0x21 (if g % 2 = 1 ∧ s.interleaved (g - 1) ∧ 0 < s.rotLen (g - 1) then 4 else 0)

/-! ### Stop (R102, R168, R315) -/

/-- A stream of the plan finishes: nothing pads but a 0960 block, and its stop marker becomes due. -/
def State.finishStream (s : State) (n : Nat) : State :=
  let lost := (s.stream n).points.filter (fun p => decide (36 ≤ p.mark ∧ p.mark < 40))
  let s := lost.foldl (fun s p => s.gridMark n (s.gridOf n) p) (s.setStream n { s.stream n with win := [], points := [] })
  let s := ((s.stream n).gapTasks.filter (fun t => decide (0 < t.count))).foldl (fun s t => s.gapTaskEvent n t) s
  let s := s.setStream n { s.stream n with gapTasks := [] }
  let s := match (s.stream n).stepTask with
    | some t => s.stepEvent n (if t.count = 0 then { t with first := s.e (strm n) 0x13 } else t)
    | none => s
  let s := if s.legacy n then s.pad n else s.closeOpen n 1
  let s := s.setStream n { s.stream n with stopAt := some s.now, grid := none }
  (s.setE (strm n) 0x12 0).tryStop n

/-- R168: a channel's Millstone stops; its partial sums are discarded. -/
def State.stopMill (s : State) (c : Nat) : State :=
  (s.setMill c { s.mill c with running := false }).setE (0x2800 + c) 12 0

/-- The streams of the plan that have not finished do, and the Millstones stop. -/
def State.finishPlan (s : State) : State :=
  let s := ((Tbl.keys s.streams).filter (fun n => decide (s.e (strm n) 0x12 ≠ 0))).foldl State.finishStream s
  (s.usedGroups.flatMap s.convertedOf).foldl State.stopMill s

/-- Every group has stopped: the plan state reads 0, the margins read 1,000 (R254) and the streams finish. Those of a ready standby finish with its
active's (R365, R366). -/
def State.planDone (s : State) : State :=
  let s := s.usedGroups.foldl State.drain s
  let s := ((((s.setE 0x2790 1 0).setE 0x2D00 2 1000).setE 0x2D00 4 1000).setE 0x2D00 6 1000)
  { (if s.role = 3 then s else s.finishPlan) with evtFire := [] }

/-- A group that was told to stop has done so. -/
def State.groupStops (s : State) (g : Nat) : Bool :=
  decide (s.planState = 2) && (s.group g).stopping && s.rotationDone g

/-- R102: the plan stops: each group completes its rotation; a rotation not yet started is not started. -/
def State.planStop (s : State) : State :=
  if s.planState ≠ 1 then s
  else
    let s := s.setE 0x2790 1 2
    s.usedGroups.foldl (fun s g =>
      s.setGroup g { s.group g with stopping := true, nextStart := none, burstLeft := 0 }) s

/-- No group is still to stop. -/
def State.allStopped (s : State) : Bool := s.usedGroups.all (fun g => !(s.group g).stopping)

/-! ### The checks of the Run command (R122) -/

/-- Table 04-9, reason 9: a 3-wire channel of a group lacks its partner: the channel after a code 8 channel, the one
before a code 10 channel. -/
def State.threeWireFault (s : State) (g : Nat) : Bool :=
  let mode := fun c => s.e (0x2400 + c) 1
  ((List.range 4).map (fun i => 4 * g + i)).any (fun c =>
    (decide (mode c = 8) && (decide (c % 4 = 3) || decide (mode (c + 1) ≠ 10) || (s.converted c && !s.converted (c + 1)))) ||
    (decide (mode c = 10) && (decide (c % 4 = 0) || decide (mode (c - 1) ≠ 8))))

/-- Table 04-9: the first reason that a group fails, 0 for none. -/
def State.groupReason (s : State) (g : Nat) : Nat :=
  let es := s.entries g
  let chans := (es.filter (fun w => entryKind w = 0)).map (entryChan g)
  let late := if s.threeWireFault g then 9 else 0
  if es = [] then late
  else if s.np g < sumNat (es.map entryLen) then 1
  else if 5000000 % s.np g ≠ 0 then 2
  else if chans.any (fun c => decide (s.e (0x2400 + c) 1 = 0)) then 3
  else if es.any (fun w => decide (entryKind w = 2) && !chans.contains (entryChan g w)) then 4
  else if s.interleaved g ∧ (es.length ≠ 1 ∨ chans.length ≠ 1 ∨ s.np g ≠ 1) then 5
  else if s.interleaved g ∧ (0 < s.rotLen (g + 1) ∨ (s.xport (g + 1)).on) then 6
  else if chans = [] then 7
  else if s.trigger g ≠ 0 ∧ s.e (0x2780 + (s.trigger g - 1)) 1 = 0 then 8
  else late

/-- R122: the first failing group and its reason. -/
def State.planFault (s : State) : Option (Nat × Nat) :=
  ((List.range s.groupCount).map (fun g => (g, s.groupReason g))).find? (fun p => decide (p.2 ≠ 0))

/-! ### A step of domain 0 (R40, R101, R167) -/

/-- What is left of a group's rotation from an entry on: entries in order, each with its second half where the group
interleaves (R107). -/
def State.actsLeft (s : State) (g i : Nat) (second : Bool) : List (Nat × Bool) :=
  (((List.range (s.rotLen g)).drop i).flatMap (fun k => if s.interleaved g then [(k, false), (k, true)] else [(k, false)])).drop
    (if second then 1 else 0)

/-- R101, R167: where the rotation that began at `r` resumes at an instant, and the channels whose conversions it skips
on the way. -/
def State.resumeAt (s : State) (g : Nat) (r : Int) (i : Nat) (second : Bool) (t : Int) : (Nat × Bool) × List Nat :=
  let left := s.actsLeft g i second
  let gone := left.takeWhile (fun p => decide (s.scheduled g r p.1 p.2 < t))
  let words := gone.map (fun p => (s.entries g).getD p.1 0)
  (((left.drop gone.length).headD (s.rotLen g, false)), (words.filter (fun w => decide (entryKind w = 0))).map (entryChan g))

/-- Rotations of a group resume at the first scheduled instant at or after the new time; it names the channels that lose
a scheduled conversion. A group whose first rotation would have begun begins it there; one that stops begins none. -/
def State.skipTo (s : State) (g : Nat) (t : Int) : State × List Nat :=
  let x := s.group g
  let p := s.period g
  match x.origin with
  | some r =>
    let here := s.resumeAt g r x.entry x.second t
    if t < r + p then (s.setGroup g { x with entry := here.1.1, second := here.1.2 }, here.2)
    else
      let j := ((t - r) / p).toNat
      let r' := r + ((j : Nat) : Int) * p
      let there := s.resumeAt g r' 0 false t
      if !x.stopping && decide (s.trigger g = 0 ∨ j ≤ x.burstLeft) then
        let anchor := s.oweAnchor g r'
        let s' := if (s.nextEntry g r).isNone then anchor.wrapAdd 32 (0x2700 + g) 0x23 1 else anchor
        (s'.setGroup g { x with
          anchor := false, origin := some r', entry := there.1.1, second := there.1.2, nextStart := x.nextStart.map (fun _ => r' + p)
          burstLeft := x.burstLeft - j }, here.2 ++ (if 1 < j then s.convertedOf g else []) ++ there.2)
      else (s.setGroup g { x with entry := s.rotLen g, second := false, burstLeft := 0, nextStart := none },
        here.2 ++ if 0 < x.burstLeft then s.convertedOf g else [])
  | none =>
    match x.nextStart with
    | some r =>
      if t ≤ r then (s, [])
      else
        let r' := r + (t - r) / p * p
        let there := (s.resumeAt g r' 0 false t).1
        if there.1 < s.rotLen g then
          let b := s.beginRotation g r' false
          (b.setGroup g { b.group g with entry := there.1, second := there.2 }, [])
        else (s.setGroup g { x with nextStart := some (r' + p) }, [])
    | none => (s, [])

/-- Gap fillers of a time-grid stream at every grid instant up to the new time (R40). -/
def State.fillTo : Nat → State → Nat → Int → State
  | 0, s, _, _ => s
  | k + 1, s, n, t =>
    let x := s.stream n
    match x.grid with
    | none => s
    | some g =>
      let i := gridInstant (s.rate n) g.1 g.2
      if t < i then s
      else State.fillTo k ((s.setStream n { x with grid := some (nextGrid (s.rate n) g) }).fillAt n g.2 i []) n t

/-- R315: the event of an earlier step that a stream still owes is written before a later one. -/
def State.stepPending (s : State) (n : Nat) : State :=
  match (s.stream n).stepTask with
  | some t => s.stepEvent n (if t.count = 0 then { t with first := s.e (strm n) 0x13 } else t)
  | none => s

/-- R40, R315: a stream follows a step. A Millstone tap loses outputs only where its Millstone starts again (R167);
Align takes no output from before a forward step (R40, R205, R208). -/
def State.stepStream (s : State) (n : Nat) (told tnew : Int) (restarted : Nat → Bool) : State :=
  let s := s.stepPending n
  let task : StepTask := ⟨told, tnew, 0, 0, false⟩
  let now := fun (s : State) => s.streamEvent n (Led.of 0x14 n 32 (s.e (strm n) 0x13) 0 told tnew)
  if s.srcKind n = 1 then now s
  else if tnew ≤ told then now s
  else if s.srcKind n = 0 ∧ !s.aligned n ∧ !restarted (s.src n) then now s
  else
    let s := s.setStream n { s.stream n with stepTask := some task }
    if s.legacy n then (s.pad n).stepDone n
    else if s.onTime n then
      let x := s.stream n
      let k := match x.grid with
        | some g => ((tnew - gridInstant (s.rate n) g.1 g.2) * (s.rate n : Int) / (fuSec : Int)).toNat + 2
        | none => 0
      State.fillTo k s n tnew
    else s

/-- R101: the groups follow a forward step; it names the channels that lose a scheduled conversion. -/
def State.skipGroups (s : State) (tnew : Int) : State × List Nat :=
  s.usedGroups.foldl (fun (a : State × List Nat) g =>
    let b := a.1.skipTo g tnew
    (match (b.1.group g).origin with | some r => b.1.muxAim g r | none => b.1, a.2 ++ b.2.eraseDups)) (s, [])

/-- R165, R167: the Millstones of channels start again in the run; each counts in 0x2700.25 of its group. -/
def State.restartMills (s : State) (cs : List Nat) : State :=
  cs.foldl (fun s c => (s.startMill c).bump (0x2700 + grp c) 0x25) s

/-- R40: Align takes no tap of these channels from before a forward step. -/
def State.dropTaps (s : State) (cs : List Nat) : State := cs.foldl (fun s c => s.setMill c { s.mill c with taps := [] }) s

/-- R40, R101, R167: a step of domain 0 while the plan runs. Raw samples taken before it go through the Millstones first,
and the next rotation of every group owes an anchor (R357). The Millstones and streams of a ready standby follow the
words of its active, not the steps of its own domain 0 (R365). -/
def State.stepPlan (s : State) (told tnew : Int) : State :=
  if s.planState = 0 then s
  else
    let s := s.usedGroups.foldl (fun s g => (s.drain g).setGroup g { (s.drain g).group g with anchor := true }) s
    let a := if told < tnew then s.skipGroups tnew else (s, [])
    let s := a.1
    if s.role = 3 then s
    else
      let s := if told < tnew then (s.restartMills a.2).dropTaps (s.usedGroups.flatMap s.convertedOf) else s
      (Tbl.keys s.streams).foldl (fun s n => s.stepStream n told tnew (fun c => a.2.contains c)) s

end Sys2Proof.Machine
end

