-- ==== Sys2Proof/Machine/Governor.lean ====
section
/-! DEFINITION. The Governor (chapter 02): the tick, steps and their tests, the timing exchange, the servo, domain
states, holdover and PPS_OUT. -/

namespace Sys2Proof.Machine

/-- Record of a domain. -/
def domr (d : Nat) : Nat := 0x2301 + d

/-- Domain state of Table 02-2. -/
def State.domState (s : State) (d : Nat) : Nat := s.e (domr d) 7

/-- The domain is enabled with the chain source. -/
def State.chainDomain (s : State) (d : Nat) : Bool := decide (s.e (domr d) 1 = 1 ∧ s.e (domr d) 2 = 1)

/-- Servo enable is 1. -/
def State.servoOn (s : State) : Bool := decide (s.e 0x2300 2 = 1)

/-- R36: the servo writes the domain's increment and owns its steps. -/
def State.servoOwns (s : State) (d : Nat) : Bool := s.servoOn && decide (s.e (domr d) 2 = 1)

/-! ### The tick (R31, R41, R503) -/

/-- PPS_OUT falls when its width has passed. -/
def State.ppsFallen (s : State) : State :=
  match s.gov.ppsFall with
  | some t =>
    if t ≤ s.gov.ticks then
      { s with gov := { s.gov with ppsFall := none }, pins := { s.pins with pps := false } }
    else s
  | none => s

/-- One 400 MHz tick: the island counts, and in counter mode each domain adds its increment; TWRQ_N rises when its
100 µs have passed (R456). Nothing runs before the PLL locks (R503). -/
def State.tick (s : State) : State :=
  if s.power.phase = .awaitPll then s
  else
    let s := { s with gov := { s.gov with ticks := s.gov.ticks + 1 } }
    let s : State := if s.e 0x2300 1 = 1 then s
      else [0, 1, 2, 3].foldl (fun s d => s.setDom d { s.dom d with counter := (s.dom d).counter + s.inc d }) s
    let s := if !s.pins.twrqN && decide (s.pins.twrqEnd ≤ s.gov.ticks) then { s with pins := { s.pins with twrqN := true } } else s
    if s.pins.pps then s.ppsFallen else s

/-! ### Steps (R38, R40) -/

/-- Jump threshold in fraction units. -/
def State.jump (s : State) : Nat := s.e 0x2300 3 * fuNs

/-- R38: the size of a requested step, the next tick being where it is applied. -/
def State.stepSize (s : State) (d : Nat) (r : StepReq) : Int :=
  match r with
  | .by x => x
  | .half x => rhe x 1
  | .setTo t => t - (s.fine d + (s.inc d : Int)) / (finePerFu : Int)

/-- R38: a step of that size is taken: within the threshold, in an UNSET domain, or armed. -/
def State.stepTaken (s : State) (d : Nat) (size : Int) : Bool :=
  decide (size.natAbs ≤ s.jump) || decide (s.domState d = 0) || decide (s.e 0x2300 4 = 1)

/-- R38: a step is refused and logged. -/
def State.stepRefused (s : State) (d : Nat) (size : Int) : State :=
  (s.flag (domr d) 8 0 true).event 1 0x0201 (toBytes 1 d ++ toBytes 8 (unsigned 64 size))

/-- R38: a step request of the host: the refusal code, 0 when it is made pending. -/
def State.requestStep (s : State) (d : Nat) (r : StepReq) : Nat × State :=
  if (s.dom d).step.isSome then (0x04000004, s)
  else if s.stepTaken d (s.stepSize d r) then (0, s.setDom d { s.dom d with step := some r })
  else (0x04000003, s.stepRefused d (s.stepSize d r))

/-- State of a domain once it has left UNSET by a step (Table 02-2); the loss count of R52 then runs from there where
no measurement has come (DESIGN CHOICE, log entry 11). -/
def State.afterStep (s : State) (d : Nat) : State :=
  if s.domState d = 0 then
    (s.setDom d { s.dom d with lastValid := some ((s.dom d).lastValid.getD s.gov.ticks) }).setE (domr d) 7
      (if s.servoOwns d then 2 else 1)
  else s

/-- R38: apply the pending step of a domain between two ticks; its test is made on the time at which it is applied. -/
def State.applyStep (s : State) (d : Nat) : State :=
  match (s.dom d).step with
  | none => s
  | some r =>
    let s := s.setDom d { s.dom d with step := none }
    let size := match r with | .by x => x | .half x => rhe x 1 | .setTo t => t - s.time d
    if !s.stepTaken d size then s.stepRefused d size
    else
      let new := match r with
        | .by x => s.fine d + x * (finePerFu : Int)
        | .half x => s.fine d + x * ((finePerFu / 2 : Nat) : Int)
        | .setTo t => t * (finePerFu : Int)
      let s := s.setFine d new
      let s := s.setDom d { s.dom d with stepped := true }
      ((s.flag (domr d) 8 5 true).setE 0x2300 4 0).afterStep d

/-! ### Holdover (R51, R52, R53) -/

/-- R37: the runs of consecutive measurements start anew. -/
def State.runsAnew (s : State) (d : Nat) : State := s.setDom d { s.dom d with nearRun := 0, farRun := 0 }

/-- R52: a domain enters HOLDOVER and sets SYNC_LOSS; with the servo on it runs on the mean of the increments of the
last 64 measurements. What it measured before does not count towards LOCKED again: it leaves to ACQUIRING. -/
def State.holdover (s : State) (d : Nat) : State :=
  let s := ((s.runsAnew d).setE (domr d) 7 4).flag (domr d) 8 4 true
  let l := (s.dom d).incs
  if s.servoOwns d ∧ l ≠ [] then s.setInc d (rne (sumNat l : Nat) l.length).toNat else s

/-- Ticks of 2^-n s. -/
def intervalTicks (n : Nat) : Nat := 400000000 / 2 ^ n

/-- R52: no valid measurement within Sync loss count intervals, counted from the last valid measurement, or, with none,
from the reset or from the step or write that gave the domain its state (DESIGN CHOICE, log entry 11). -/
def State.syncLost (s : State) (d : Nat) : Bool :=
  let x := s.dom d
  s.chainDomain d && decide (1 ≤ s.domState d ∧ s.domState d ≤ 3) &&
    decide (x.lastValid.getD 0 + s.e 0x2300 6 * intervalTicks x.exponent ≤ s.gov.ticks)

/-- R51: OCXO_WARMUP of a domain, which has it while it is a chain domain and OCXO_RDY is low. -/
def State.ocxoWarmup (s : State) (d : Nat) : Bool := s.chainDomain d && !s.pins.ocxoRdy

/-- R51: OCXO_RDY changed. -/
def State.ocxoRdy (s : State) (level : Bool) : State :=
  if s.pins.ocxoRdy = level then s
  else
    let s := { s with pins := { s.pins with ocxoRdy := level } }
    let s := [0, 1, 2, 3].foldl (fun s d =>
      if s.chainDomain d ∧ !level ∧ s.domState d = 3 then s.holdover d else s) s
    let b : Nat := if level then 1 else 0
    (s.event 1 0x0202 (toBytes 1 b)).hubEvent 43 b s.now 0 []

/-- R53: domain states after a reset other than power-on. The Servo enable in force at the reset decides between FREE and
HOLDOVER, since the domain runs on from there (DESIGN CHOICE, log entry 11); the interval of the last valid SYNC is
kept, and the loss count of R52 runs from the reset. -/
def State.domainsKept (s : State) : State :=
  [0, 1, 2, 3].foldl (fun s d =>
    let x := s.dom d
    let s := s.setE (domr d) 7 (if !x.stepped then 0 else if !s.servoOwns d then 1 else 4)
    let s := (((s.setE (domr d) 8 0).setE (domr d) 9 0).setE (domr d) 0x0A 0).setE (domr d) 0x0B 0
    s.setDom d { x with
      step := none, xchg := none, lastValid := some s.gov.ticks, integ := none, incs := [], nearRun := 0, farRun := 0
      hops := 0, notTraceable := false, newMaster := if s.domState d = 5 then x.newMaster else none }) s

/-! ### The servo (R37, R39) -/

/-- R37: an increment from its exact value over 51,200,000,000, clamped to 2.5 ns × (1 ∓ slew), then rounded to a
whole count of 2^-48 ns within R31's range. -/
def State.slewed (s : State) (num : Int) : Nat :=
  let k := s.e 0x2300 7
  let b := fun (x : Nat) => ((incNominal * 51200 * x : Nat) : Int)
  (clampI (incMin : Int) (incMax : Int) (rne (clampI (b (1000000 - k)) (b (1000000 + k)) num) 51200000000)).toNat

/-- The servo writes an increment, and keeps the last 64 (R52). -/
def State.servoWrites (s : State) (d v : Nat) : State :=
  let s := s.setInc d v
  s.setDom d { s.dom d with incs := (v :: (s.dom d).incs).take 64 }

/-- R53: the integral term preloaded for the increment in force, in 2^-55 ns. -/
def State.preload (s : State) (d n : Nat) : Int :=
  ((incNominal : Int) - (s.inc d : Int)) * ((200000000 * 2 ^ (8 - n) : Nat) : Int)

/-- R37: one update from a measured offset, in halves of a fraction unit, at an interval of 2^-n s. -/
def State.servoUpdate (s : State) (d : Nat) (o : Int) (n : Nat) : State :=
  let i := (s.dom d).integ.getD (s.preload d n) + (s.e 0x2300 9 : Int) * o * ((2 ^ 22 : Nat) : Int)
  let sum := (s.e 0x2300 8 : Int) * o * ((2 ^ 22 : Nat) : Int) + i
  let v := s.slewed ((incNominal : Int) * 51200000000 - sum * ((2 ^ n : Nat) : Int))
  (s.setDom d { s.dom d with integ := some i }).servoWrites d v

/-- R37: the runs of small and of large offsets (in halves of a fraction unit), over every valid measurement. -/
def State.countRuns (s : State) (d : Nat) (o : Int) : State :=
  let x := s.dom d
  s.setDom d { x with
    nearRun := if o.natAbs ≤ 40 * fuNs then x.nearRun + 1 else 0
    farRun := if 200 * fuNs < o.natAbs then x.farRun + 1 else 0 }

/-- R37: ACQUIRING becomes LOCKED, and LOCKED ACQUIRING, by the runs counted. -/
def State.lockRule (s : State) (d : Nat) : State :=
  let x := s.dom d
  if s.domState d = 3 then if 4 ≤ x.farRun ∨ x.notTraceable then s.setE (domr d) 7 2 else s
  else if s.domState d = 2 ∧ 16 ≤ x.nearRun ∧ s.pins.ocxoRdy ∧ !x.notTraceable then s.setE (domr d) 7 3 else s

/-- R53: the first valid measurement with the servo on preloads the integral term. -/
def State.preloaded (s : State) (d : Nat) : State :=
  s.setDom d { s.dom d with integ := some ((s.dom d).integ.getD (s.preload d (s.dom d).exponent)) }

/-- R39: the increment of a slew at the slew limit, against the sign of the offset. -/
def State.slewAway (s : State) (o : Int) : Nat := s.slewed (if 0 < o then 0 else (incNominal : Int) * 102400000000)

/-- R37 to R39: how the servo answers a valid measurement: with a step, a slew or an update. One that it answers with a
step, and one that comes while a step pends, runs no update of R37 (DESIGN CHOICE, log entry 11). -/
def State.servoActs (s : State) (d : Nat) (o : Int) : State :=
  if (s.dom d).step.isSome then s
  else if s.domState d = 0 then s.setDom d { s.dom d with step := some (.half (-o)) }
  else if 2 * s.jump < o.natAbs then
    if s.e 0x2300 4 = 1 then s.setDom d { s.dom d with step := some (.half (-o)) }
    else (s.stepRefused d (rhe (-o) 1)).servoWrites d (s.slewAway o)
  else s.servoUpdate d o (s.dom d).exponent

/-- R37, R52, R53: a valid measurement with the servo on, in halves of a fraction unit: a domain in FREE or HOLDOVER is
ACQUIRING, the integral term is there, and the measurement counts for LOCKED however it is answered. -/
def State.servo (s : State) (d : Nat) (o : Int) : State :=
  let s := if s.domState d = 4 ∨ s.domState d = 1 then s.setE (domr d) 7 2 else s
  ((((s.preloaded d).countRuns d o).servoActs d o).lockRule d)

/-! ### The timing exchange (R42 to R48) -/

/-- R47: downstream timing ports. -/
def State.downstream (s : State) : List Nat :=
  (if s.timingPort = 2 then [0, 1] else if s.leat.ladder then [2, 3] else [2]).filter s.up

/-- A timing frame becomes due on a port; an unenumerated or unplaced hub sends none (R341, R348). -/
def State.postTiming (s : State) (p : Nat) (t : TimingFrame) : State :=
  if s.e 0x3500 1 = 1 ∧ s.up p then s.setPort p { s.port p with timing := (s.port p).timing ++ [t] } else s

/-- R42: the master identity of a frame on the timing port; it says whether the frame's offset counts. -/
def State.masterRule (s : State) (d id : Nat) : State × Bool :=
  let held := s.e (domr d) 0x0C
  if s.domState d = 5 then (s.setDom d { s.dom d with newMaster := if id = held then (s.dom d).newMaster else some id }, false)
  else if held = 0 then (s.setE (domr d) 0x0C id, true)
  else if id = held then (s, true)
  else
    let s := (s.flag (domr d) 8 1 true).setE (domr d) 7 5
    ((s.runsAnew d).setDom d { (s.runsAnew d).dom d with newMaster := some id, xchg := none }, false)

/-- R45, R46: a frame of a domain is taken on a port; one that is not, and whether it counts. -/
def State.timingTaken (s : State) (p d : Nat) : Bool × State :=
  if p ≠ s.timingPort then (false, s)
  else if s.chainDomain d then (true, s)
  else (false, s.bump (domr d) 0x0E)

/-- R48: a SYNC. -/
def State.takeSync (s : State) (p : Nat) (m : TimingMsg) (dly : Nat) : State :=
  let d := m.domain.toNat
  let a := s.timingTaken p d
  if !a.1 then a.2
  else
    let b := s.masterRule d m.master.toNat
    let s := b.1
    let x := s.dom d
    let n := min 7 m.exponent.toNat
    let seq := wrap16 (x.reqSeq + 1)
    let s := s.setDom d { x with
      exponent := n, hops := m.hops.toNat, notTraceable := m.notTraceable, reqSeq := seq
      xchg := if b.2 then some ⟨ofTime96 m.time.toNat, s.stampAt d dly, seq, none⟩ else none }
    let s := s.flag (domr d) 8 3 m.notTraceable
    let s := if m.notTraceable ∧ s.domState d = 3 then s.setE (domr d) 7 2 else s
    s.postTiming p ⟨d, 1, 0, seq, 0⟩

/-- R47: a DELAY_REQ on a downstream timing port is answered on the same port. -/
def State.takeDelayReq (s : State) (p : Nat) (m : TimingMsg) (dly : Nat) : State :=
  let d := m.domain.toNat
  if !s.downstream.contains p then s
  else if s.chainDomain d then s.postTiming p ⟨d, 2, 0, m.seq.toNat, s.stampAt d dly⟩
  else s.bump (domr d) 0x0E

/-- R48: twice the offset and twice the mean path delay of a completed exchange. -/
def measure (t1 t2 t3 t4 a : Int) : Int × Int :=
  ((t2 - t1) - (t4 - t3) - 2 * a, (t2 - t1) + (t4 - t3))

/-- R48: report a measurement, given twofold. -/
def State.report (s : State) (d : Nat) (o mean : Int) : State :=
  let s := ((s.setE (domr d) 9 (unsigned 64 (rhe o 1))).setE (domr d) 0x0A (unsigned 64 (rhe mean 1))).wrapAdd 32 (domr d) 0x0B 1
  let s := s.setDom d { s.dom d with xchg := none, lastValid := some s.gov.ticks }
  s.flag (domr d) 8 4 false

/-- R48: a DELAY_RESP. -/
def State.takeDelayResp (s : State) (p : Nat) (m : TimingMsg) : State :=
  let d := m.domain.toNat
  let a := s.timingTaken p d
  if !a.1 then a.2
  else
    let b := s.masterRule d m.master.toNat
    let s := b.1
    match b.2, (s.dom d).xchg with
    | true, some ⟨t1, t2, seq, some t3⟩ =>
      if seq ≠ m.seq.toNat then s
      else
        let r := measure t1 t2 t3 (ofTime96 m.time.toNat) (s.eI 32 0x2306 (1 + p))
        let s := s.report d r.1 r.2
        if s.servoOn then s.servo d r.1
        else (if s.domState d = 4 then s.setE (domr d) 7 1 else s).countRuns d r.1
    | _, _ => s

/-- R47: the hub's own SYNC of a domain is due. -/
def State.syncDue (s : State) (d : Nat) : Bool :=
  s.chainDomain d && decide (s.domState d ≠ 0) && decide ((Tbl.get 0 s.gov.nextSync d) ≤ s.gov.ticks)

/-- R47: send it on every downstream timing port. -/
def State.sendSync (s : State) (d : Nat) : State :=
  let n := s.e 0x2300 5
  let x := s.dom d
  let s := { s with gov := { s.gov with nextSync := Tbl.put s.gov.nextSync d (s.gov.ticks + intervalTicks n) } }
  let s := s.setDom d { x with syncSeq := wrap16 (x.syncSeq + 1) }
  s.downstream.foldl (fun s p => s.postTiming p ⟨d, 0, n, x.syncSeq, 0⟩) s

/-- R42: the acknowledge of a new master. The domain has the state of Table 02-2 that fits it at once, before the next
valid exchange (DESIGN CHOICE, log entry 11); the loss count of R52 runs from here. -/
def State.ackMaster (s : State) (d : Nat) : State :=
  if s.domState d ≠ 5 then s
  else
    let x := s.dom d
    let s := match x.newMaster with | some id => s.setE (domr d) 0x0C id | none => s
    let s := s.setDom d { x with newMaster := none, xchg := none, lastValid := some s.gov.ticks }
    s.setE (domr d) 7 (if !x.stepped then 0 else if s.servoOwns d then 2 else 1)

/-- R33: change the Governor mode; every domain's time continues. -/
def State.setMode (s : State) (v : Nat) : State :=
  let t := [0, 1, 2, 3].map (fun d => (d, s.fine d))
  t.foldl (fun s p => s.setFine p.1 p.2) (s.setE 0x2300 1 v)

/-- R53, Table 02-2: Servo enable changes. -/
def State.setServo (s : State) (v : Nat) : State :=
  let was := s.servoOn
  let s := s.setE 0x2300 2 v
  [0, 1, 2, 3].foldl (fun s d =>
    let s := if v = 1 ∧ !was then (s.runsAnew d).setDom d { (s.runsAnew d).dom d with integ := none } else s
    if !s.chainDomain d then s
    else if v = 1 ∧ s.domState d = 1 then s.setE (domr d) 7 2
    else if v = 0 ∧ (s.domState d = 2 ∨ s.domState d = 3) then s.setE (domr d) 7 1
    else s) s

/-! ### PPS_OUT (R55) -/

/-- The latest pulse instant at or before now, in the PPS domain. -/
def State.ppsEdge (s : State) : Int :=
  let ph : Int := s.eI 32 0x2307 4 * (fuNs : Int)
  (s.time (s.e 0x2307 2) - ph) / (fuSec : Int) * (fuSec : Int) + ph

/-- R55: a pulse is due: the shifted second boundary has fallen within the last tick. -/
def State.ppsDue (s : State) : Bool :=
  let d := s.e 0x2307 2
  decide (s.e 0x2307 1 = 1 ∧ s.domState d ≠ 0) && (decide (s.e 0x2307 5 = 0) || decide (s.domState d = 3)) &&
    !s.pins.pps && decide (s.time d - s.ppsEdge < (ceilDiv (s.inc d) finePerFu : Nat))

/-- R55: the pulse rises. -/
def State.ppsRises (s : State) : State :=
  { s with
    gov := { s.gov with ppsFall := some (s.gov.ticks + tickUs (s.e 0x2307 3)) }
    pins := { s.pins with pps := true } }

end Sys2Proof.Machine
end

