-- ==== Sys2Proof/Machine/Twin.lean ====
section
/-! DEFINITION. Twin operation on the Ladder (chapter 13): items and commands of the T port, raw words and anchors,
pairing, commits in step, the comparison of the standby's inputs, switchover and stepping down. -/

namespace Sys2Proof.Machine

/-- The hub is in Ladder operation (R353). -/
def State.ladder (s : State) : Bool := decide (s.role ≠ 0)

/-- Twin status bit. -/
def State.twinBit (s : State) (i : Nat) (b : Bool) : State := s.flag 0x3600 2 i b

/-! ### The configuration digest (R362) -/

/-- R362: CRC-32C over the class P entries of the records that pairing compares. -/
def State.configDigest (s : State) : Nat :=
  let k := fun (r : Row) => decide (r.surv = .P)
  crc32C ((objects.filter (fun o => decide ((0x2400 ≤ o.base ∧ o.base ≤ 0x2C1F) ∨ (0x2E00 ≤ o.base ∧ o.base ≤ 0x2F03) ∨
    (0x3200 ≤ o.base ∧ o.base ≤ 0x3207) ∨ 0x4000 ≤ o.base))).flatMap (fun o => s.setBytes o.base o.count o.rows k))

/-! ### Sending (R356 to R360) -/

/-- A frame of the T port. -/
def State.twinFrame (s : State) (ftype : Nat) (payload : List Byte) : Frame :=
  ⟨ftype, false, false, true, true, 0, s.e 0x1018 3 % 2 ^ 18, 0, 0, payload ++ zeros (payload.length % 2)⟩

/-- R360: a command takes its place in the transmit queue of the T port. -/
def State.twinCmd (s : State) (code : Nat) (args : List Byte) : State := s.post 4 (s.twinFrame 9 (toBytes 2 code ++ args))

/-- R359: the HEARTBEAT item of this hub. -/
def State.sendHeartbeat (s : State) : State :=
  let n := s.twin.hbSeq
  let s := { s with twin := { s.twin with hbSeq := wrap16 (n + 1), sentAt := some s.gov.ticks } }
  s.sendItem (twinItem 1 12 (toBytes 1 s.role ++ zeros 1 ++ toBytes 2 (s.e 0x3600 2) ++ toBytes 4 s.configDigest ++ toBytes 2 n))

/-- Raw words and COPY commands that have gone, of all that were ever queued. -/
def State.twinSent (s : State) : Nat := s.twin.ahead - s.twin.words.length - s.twin.copies.length

/-- Items for a payload of `n` bytes, oldest first, and those that stay: an item waits for the words and commands ahead of
it, and one that does not fit keeps those behind it waiting. -/
def packItems (sent : Nat) : List (Nat × List Byte) → Nat → List Byte × List (Nat × List Byte)
  | [], _ => ([], [])
  | (k, b) :: r, n =>
    if sent < k then let t := packItems sent r n; (t.1, (k, b) :: t.2)
    else if b.length ≤ n then let t := packItems sent r (n - b.length); (b ++ t.1, t.2)
    else let t := packItems sent r 0; (t.1, (k, b) :: t.2)

/-- R363 step 4: PAIR_END gives the commit points; what was committed before it needs no CONFIRM of its own. -/
def State.sendPairEnd (s : State) : State :=
  let s := { s with twin := { s.twin with
    ended := true, confirmed := (List.range 8).foldl (fun t q => Tbl.set 0 t q (s.hq q).commit) [] } }
  s.twinCmd 7 ((List.range 8).flatMap (fun q => toBytes 4 (wrap32 (s.hq q).commit)))

/-- R358, R363: where no command waits, items take a frame, else the next COPY command, else PAIR_END once all is out. -/
def State.twinFill (s : State) : State :=
  if (s.port 4).control ≠ [] then s
  else
    let a := packItems s.twinSent s.twin.items 1024
    if a.1 ≠ [] then { s with twin := { s.twin with items := a.2 } }.post 4 (s.twinFrame 8 a.1)
    else match s.twin.copies with
      | c :: r => { s with twin := { s.twin with copies := r } }.twinCmd 6 c
      | [] => if s.pairing && !s.twin.ended && s.twin.items.isEmpty then s.sendPairEnd else s

/-- R363: progress of TWIN_PAIR as COPY commands go out. -/
def State.copyProgress (s : State) (f : Frame) : State :=
  if s.running 0x40 ∧ f.ftype = 9 ∧ Machine.ofBytes (f.payload.take 2) = 6 then
    let n := s.twin.copied + (f.payload.length - 10)
    { s with twin := { s.twin with copied := n } }.opProgress 0x40 (min 1000 (1000 * n / max 1 s.twin.total))
      (Machine.ofBytes ((f.payload.drop 2).take 1))
  else s

/-- R356, R358: raw words take what the items and commands of the T port leave: up to 127 of them in a frame. -/
def State.sendWords (s : State) : State :=
  if s.twin.words = [] then s
  else
    let w := s.twin.words.take 127
    let f := s.twinFrame 7 (toBytes 2 w.length ++ w.flatMap (toBytes 8))
    if (s.port 4).fits f then { s with twin := { s.twin with words := s.twin.words.drop 127 } }.transmit 4 f false else s

/-- What goes at a frame boundary of the T port that resends nothing: items and commands within the reserved share, else
raw words. A frame that the buffers cannot take waits. -/
def State.twinTurn (s : State) : State :=
  match (s.port 4).control with
  | f :: r =>
    if !(s.port 4).share s.gov.ticks f.size then s.sendWords
    else if (s.port 4).fits f then ((s.setPort 4 { s.port 4 with control := r }).transmit 4 f true).copyProgress f
    else s
  | [] => s.sendWords

/-- A frame boundary of the T port (R320, R334, R358). An Unplaced hub answers what it receives and sends nothing else
(R348). -/
def State.boundaryT (s : State) : State :=
  let s := s.openBoundary 4
  if s.e 0x3500 1 = 2 then (s.answerSets 4).idleFill 4
  else
    let s := s.twinFill.answerSets 4
    (if 0 < (s.port 4).resend then s.retransmit 4 else s.twinTurn).idleFill 4

/-! ### Roles (R353 to R355, R371, R373) -/

/-- Record the role state. -/
def State.setRole (s : State) (r : Nat) : State := s.setE 0x3600 1 r

/-- A member stops committing and discards every block not yet committed (R373). -/
def State.discardBlocks (s : State) : State :=
  let s := (Tbl.keys s.streams).foldl (fun s n => s.setStream n { s.stream n with openBlk := none, closed := [], win := [] }) s
  { s with hop := { s.hop with waiting := s.hop.waiting.filter (fun w => !w.granted) } }

/-- A member feeds no standby any more: what waited for it behind raw words or COPY commands goes with them. -/
def State.unfeed (s : State) : State :=
  { s with twin := { s.twin with
    words := [], copies := [], anchorDue := [], swapped := false
    items := s.twin.items.filter (fun p => decide (p.1 ≤ s.twinSent)) } }

/-- R371, R373: an active member becomes STANDBY_UNPAIRED. -/
def State.stepDown (s : State) : State :=
  let s := ((((s.abortSweep 2).discardBlocks.allOff).unfeed).setRole 1).announce
  { s with twin := { s.twin with swapAt := none } }

/-- 2.5 ns ticks of an hour. -/
def hourTicks : Nat := 1440000000000

/-- R375: operating hours since the last planned swap: those stored, and those that have passed since. -/
def State.hoursSince (s : State) : Nat := sat32 (s.e 0x3600 7 + (s.gov.ticks - s.gov.hourTick) / hourTicks)

/-- R375: a planned swap begins the hours again. -/
def State.hoursAnew (s : State) : State :=
  ({ s with gov := { s.gov with hourTick := s.gov.ticks } }.setE 0x3600 7 0).twinBit 5 false

/-- R354: a member takes its role after the wait. -/
def State.takeRole (s : State) : State :=
  let s := { s with twin := { s.twin with roleWait := none } }
  if s.twin.partner = some 4 ∨ s.twin.partner = some 5 then s.setRole 1
  else if s.up 4 then s.setRole (if s.pins.twinB then 1 else 5)
  else (s.setRole 5).twinBit 1 true

/-- R354: the role can be taken: the partner is known, the T port has been UP without a heartbeat for 100 µs, or 2 s
have passed. -/
def State.roleReady (s : State) : Bool :=
  match s.twin.roleWait with
  | none => false
  | some t =>
    decide (t ≤ s.gov.ticks) || (s.up 4 && (s.twin.partner.isSome || decide ((s.port 4).since + tickUs 100 ≤ s.gov.ticks)))

/-! ### Heartbeat (R359, R371) -/

/-- Tick since which the hub has heard no HEARTBEAT. -/
def State.quietSince (s : State) : Nat := s.twin.heard.getD s.twin.since

/-- R359: heartbeat silence: 100 µs without a HEARTBEAT. -/
def State.silence (s : State) : Bool := !s.twin.silent && decide (s.quietSince + tickUs 100 ≤ s.gov.ticks)

/-- R371: 2 s without a heartbeat. -/
def State.partnerGone (s : State) : Bool := s.ladder && decide (s.quietSince + tickUs 2000000 ≤ s.gov.ticks)

/-- R4: the product code of this hub. -/
def State.product (s : State) : Nat := if s.pins.mb then 2 else 1

/-- R4, R86, R362: what a heartbeat tells of the partner. A difference of the energy class, or on a standby of the
configuration, which holds the sensor and port modes, is logged when it is first seen. -/
def State.judgePartner (s : State) (h : HeartbeatItem) : State :=
  let differs := decide (h.digest.toNat ≠ s.configDigest)
  let energy := decide (s.twin.energy ≠ some h.energyClass.toNat ∧ h.energyClass.toNat ≠ s.e 0x2690 1)
  let modes := differs && !s.flagged 0x3600 2 4
  let s := if s.twin.product ≠ some h.product.toNat ∧ h.product.toNat ≠ s.product then s.event 2 0x0101 (toBytes 2 h.product.toNat) else s
  let s := if s.listening ∧ (energy ∨ modes) then s.event 2 0x0306 (zeros 2) else s
  let s := (s.setE 0x3600 0x0B h.digest.toNat).twinBit 4 differs
  { s with twin := { s.twin with
    product := some h.product.toNat, energy := some h.energyClass.toNat, partnerIdle := h.idle } }

/-- R363: the standby showed STANDBY_READY after PAIR_END: TWIN_PAIR completes and the active is ACTIVE_PAIRED. -/
def State.pairedNow (s : State) : State := (s.opDone 0x40 0).setRole 4

/-- What an active member does about the role that its partner shows: TWIN_PAIR or a planned swap completes with a ready
standby (R363, R372), and a standby that is ready no more is fed no more (R366). -/
def State.followRole (s : State) (r : Nat) : State :=
  if r = 3 then
    if s.twin.ended ∧ s.running 0x40 then s.pairedNow
    else if s.role = 5 ∧ s.twin.swapped then { s.setRole 4 with twin := { s.twin with swapped := false } }
    else s
  else if s.feeds ∧ (r = 1 ∨ r = 2) then s.unfeed.setRole 5
  else s

/-- R359: a HEARTBEAT item; a standby answers it with its own. -/
def State.takeHeartbeat (s : State) (h : HeartbeatItem) : State :=
  let s := { s with twin := { s.twin with
    partner := some h.role.toNat, partnerStatus := h.status.toNat, heard := some s.gov.ticks, silent := false } }
  let s := ((((s.twinBit 0 false).twinBit 1 false).judgePartner h).followRole h.role.toNat)
  if s.listening then s.sendHeartbeat else s

/-! ### Switchover (R369, R370) -/

/-- R370: ports whose Output enable is 1 wait until their output reads below 0.5 V. -/
def State.deferPorts (s : State) : State :=
  let ports := s.allPorts.filter (fun g => decide (s.e (0x2600 + g) 9 = 1) && !(s.xport g).waitRun)
  let s := ports.foldl (fun s g => s.setXport g { s.xport g with deferred := true }) s
  if ports = [] then s else s.twinBit 6 true

/-- R369 step 3: a stream's open block ends with the partner's outputs. -/
def State.closeSource (s : State) (n : Nat) : State := if s.legacy n then s.pad n else s.closeOpen n 3

/-- R369 step 1: own raw records of a group after the partner's last word: those taken for comparison already, and those
in the raw buffer. They carry V-code 3 (R370). -/
def State.ownAfter (s : State) (g : Nat) (rs : List Raw) : List Raw :=
  let after := fun (t : Int) => match s.twin.lastWord.lookup g with | some l => decide (l < t) | none => true
  ((rs.filter (fun r => decide (grp r.chan = g))).map (fun r => { r with
    lost := r.lost.filter after, code := if r.gap then ((r.lost.filter after).length : Int) else r.code
    vcode := max r.vcode 3 })).filter (fun r => if r.gap then !r.lost.isEmpty else after r.sched)

/-- R369 step 1: the raw buffer of a group keeps what lies after its partner's last word. -/
def State.skipOwn (s : State) (g : Nat) : State :=
  let x := s.group g
  let after := fun (t : Int) => match s.twin.lastWord.lookup g with | some l => decide (l < t) | none => true
  s.setGroup g { x with
    buf := s.ownAfter g x.buf
    missing := (x.missing.map (fun m => { m with scheds := m.scheds.filter after })).filter (fun m => !m.scheds.isEmpty) }

/-- R369 steps 1 and 2: the Millstones of a group start, and take the own records that were popped for comparison. After a
planned swap the former active takes the same words from here on, behind an anchor (R372). -/
def State.takeGroup (s : State) (g : Nat) : State :=
  let kept := s.ownAfter g s.twin.kept
  let s := s.skipOwn g
  let s := s.startMills g
  let s := match (s.group g).origin with | some r => s.oweAnchor g r | none => s
  let s := (kept ++ (s.group g).buf).foldl State.mirrorRaw s
  kept.foldl State.takeRecord s

/-- The standby's view of the words that its active sends, at the start of a run or of a new source. -/
def Twin.wordsAnew (t : Twin) : Twin :=
  { t with
    anchors := [], lastRot := [], lastEntry := [], lastWord := [], convs := [], anchorIn := none, kept := [], cmp := [], seam := none }

/-- What a new active owes its host and its twin: read positions, the credits used, and that whatever it holds may have
been sent (R369 step 5; the send front is DEDUCED, log entry 41). -/
def State.readAnew (s : State) : State :=
  let s := (List.range 8).foldl (fun s q => s.setHq q { s.hq q with front := (s.hq q).commit }) s.rewindAll
  s.setE 0x3500 7 (s.e 0x3500 6)

/-- R369: takeover by a ready standby, for a cause of 0x3600.06. A run whose end the active had not mirrored ends here; Y
streams yield or go on as the levels ask. -/
def State.takeover (s : State) (cause : Nat) : State :=
  let hub := s.e 0x1018 3
  let s := { s.setRole 5 with twin := { s.twin with
    swapAt := none, swapped := decide (cause = 3)
    confirmed := (List.range 8).foldl (fun t q => Tbl.set 0 t q (s.hq q).commit) [] } }
  let s := (Tbl.keys s.streams).foldl State.closeSource s
  let s := s.enabledStreams.foldl (fun s n => s.setStream n { s.stream n with
    sourceChange := some (s.now, hub, s.e (strm n) 0x13) }) s
  let s := if s.planState = 0 then s.finishPlan else s.usedGroups.foldl State.takeGroup s
  let s := { s with twin := s.twin.wordsAnew }
  let s := s.readAnew
  let s := ((s.bump 0x3600 4).setE 0x3600 5 s.stamp).setE 0x3600 6 cause
  let s := if cause = 3 then s.hoursAnew else s
  let s := if s.flagged 0x3400 0x0A 0 then s.suspendAll.levels else s.levels
  ((s.twinBit 7 true).deferPorts).announce

/-- R370: the new active enables a deferred port. -/
def State.enableDeferred (s : State) (g : Nat) : State :=
  if !(s.xport g).deferred then s
  else
    let s := s.setXport g { s.xport g with deferred := false }
    (s.comeOn g).deferredLeft

/-- R363: the standby discards its Hopper content. -/
def State.discardHopper (s : State) : State :=
  { s with hop := { Hop.reset 1 with restartDue := none }, twin := { s.twin with parts := [], based := [] } }

/-- R371: what heartbeat silence does to a member. -/
def State.onSilence (s : State) : State :=
  let s := ({ s with twin := { s.twin with silent := true } }.bump 0x3600 0x0C)
  let s := if s.pairing then (s.opAbort 0x40 3).unfeed else s
  match s.role with
  | 3 => s.takeover 1
  | 2 => s.discardHopper.setRole 1
  | 4 => s.stepDown
  | _ => s.unfeed

/-- R372: own conversions of a group before the swap instant go through its Millstones, missing ones too; later ones do
not. -/
def State.seamGroup (s : State) (x : Int) (g : Nat) : State :=
  let y := s.group g
  let gaps := ((y.missing.map (fun m => { m with scheds := m.scheds.filter (fun t => decide (t < x)) })).filter
    (fun m => !m.scheds.isEmpty)).map Missing.record
  let s := gaps.foldl State.mirrorRaw s
  let s := (y.buf.filter (fun r => decide (r.sched < x)) ++ gaps).foldl State.takeRecord s
  s.setGroup g { s.group g with buf := [], missing := [] }

/-- R372: the former active at the swap instant: the streams change their source at the seam, and it is the ready standby
of its partner. Words that it queued before the swap instant still go out. -/
def State.swapOut (s : State) (x : Int) : State :=
  let s := s.usedGroups.foldl (fun s g => s.seamGroup x g) s
  let s := (Tbl.keys s.streams).foldl State.closeSource s
  let s := if s.planState = 0 then s else s.usedGroups.foldl State.startMills s
  let s := (((s.abortSweep 2).allOff).hoursAnew).setRole 3
  let s := { s with hop := { s.hop with waiting := [], gaps := [] } }
  { s with twin := { s.twin.wordsAnew with swapAt := none, anchorDue := [], seam := some x } }

/-- R372: the swap instant has come. -/
def State.swapNow (s : State) : State :=
  match s.twin.swapAt with
  | none => s
  | some x =>
    if s.now < x then s
    else if s.role = 4 then s.swapOut x
    else if s.role = 3 then s.takeover 3
    else { s with twin := { s.twin with swapAt := none } }

/-- R372: the first whole millisecond of domain 0 at least 1 ms ahead. -/
def State.swapInstant (s : State) : Int :=
  let m := fuMs 1
  Int.neg ((-(s.now + m)) / m) * m

/-- R372: SWAP_AT with an instant. -/
def State.sendSwap (s : State) (x : Int) : State := s.twinCmd 2 (toBytes 12 (toTime96 x))

/-- R372: a planned swap is fixed and sent. -/
def State.planSwap (s : State) : State :=
  let x := s.swapInstant
  { s with twin := { s.twin with swapAt := some x } }.sendSwap x

/-! ### Comparison (R368) -/

/-- A channel's comparison. -/
def State.twinCmp (s : State) (c : Nat) : TwinCmp := Tbl.get TwinCmp.reset s.twin.cmp c
/-- Replace it. -/
def State.setTwinCmp (s : State) (c : Nat) (x : TwinCmp) : State :=
  { s with twin := { s.twin with cmp := Tbl.set TwinCmp.reset s.twin.cmp c x } }

/-- DEVIATION in Twin status is set while any channel deviates. -/
def State.deviationBit (s : State) : State :=
  s.twinBit 2 ((s.usedGroups.flatMap s.convertedOf).any (fun c => decide (s.e (0x2400 + c) 0x26 = 1)))

/-- R368: a window of kept pairs is judged. -/
def State.judgeWindow (s : State) (c : Nat) : State :=
  let x := s.twinCmp c
  let k := s.e (0x2400 + c) 0x25
  let diff := (x.sumOwn - x.sumAct).natAbs
  -- |sum difference| / count > tolerance / 1000 × full scale of the widest range
  let out := decide ((s.e (0x2400 + c) 0x23 : Int) * fullScale x.widest * (x.count : Int) < 1000 * (diff : Int))
  let y := { x with count := 0, sumOwn := 0, sumAct := 0, widest := 4,
                    outRun := if out then x.outRun + 1 else 0, inRun := if out then 0 else x.inRun + 1 }
  let s := s.setTwinCmp c y
  if out ∧ k ≤ y.outRun ∧ s.e (0x2400 + c) 0x26 = 0 then
    (((s.setE (0x2400 + c) 0x26 1).twinBit 2 true).bump (0x2400 + c) 0x27).event 1 0x0902 (toBytes 2 c)
  else if !out ∧ k ≤ y.inRun ∧ s.e (0x2400 + c) 0x26 = 1 then (s.setE (0x2400 + c) 0x26 0).deviationBit
  else s

/-- R368: two samples are of one rotation: same entry and phase, stamps within half a slot. -/
def TwinSample.pairs (a b : TwinSample) : Bool :=
  decide (a.entry = b.entry) && (a.phase == b.phase) && decide ((a.stamp - b.stamp).natAbs < slotFu / 2)

/-- R368: a pair of samples. -/
def State.keepPair (s : State) (c : Nat) (own act : TwinSample) : State :=
  if own.vcode = 0 ∧ act.vcode = 0 ∧ own.tag ≤ 4 ∧ act.tag ≤ 4 then
    let x := s.twinCmp c
    let s := s.setTwinCmp c { x with
      count := x.count + 1, sumOwn := x.sumOwn + own.val, sumAct := x.sumAct + act.val, widest := min x.widest act.tag }
    if s.e (0x2400 + c) 0x24 ≤ x.count + 1 then s.judgeWindow c else s
  else s

/-- R368: one sample of the standby itself, or of its active, looks for its partner; samples older than the one that
paired are given up. -/
def State.compareTwin (s : State) (c : Nat) (isOwn : Bool) (t : TwinSample) : State :=
  if s.e (0x2400 + c) 0x23 = 0 ∨ s.role ≠ 3 then s
  else
    let x := s.twinCmp c
    let other := if isOwn then x.act else x.own
    match other.find? (fun o => o.pairs t) with
    | some o =>
      let rest := (other.dropWhile (fun y => !(y.pairs t))).drop 1
      let s := s.setTwinCmp c (if isOwn then { x with act := rest, own := [] } else { x with own := rest, act := [] })
      if isOwn then s.keepPair c t o else s.keepPair c o t
    | none => s.setTwinCmp c (if isOwn then { x with own := x.own ++ [t] } else { x with act := x.act ++ [t] })

/-- A raw record as the comparison takes it. -/
def State.twinSample (s : State) (r : Raw) : TwinSample :=
  ⟨r.entry, r.phase, r.stamp, s.normalise r.chan r.code r.tag, r.vcode, r.tag⟩

/-! ### Raw words on the standby (R356, R357, R365) -/

/-- Position of an entry and phase among a channel's conversions of a rotation. -/
def State.convIndex (s : State) (c entry : Nat) (phase : Bool) : Nat :=
  let g := grp c
  if s.interleaved g then (if phase then 1 else 0)
  else (((s.entries g).take entry).filter (fun w => entryKind w = 0 ∧ entryChan g w = c)).length

/-- R357: scheduled instant of conversion `k` of a channel since the anchor. -/
def State.convInstant (s : State) (c k : Nat) : Int :=
  let os := s.convOffsets c
  let m := max 1 os.length
  Tbl.get 0 s.twin.anchors (grp c) + ((k / m : Nat) : Int) * s.period (grp c) + ((os.getD (k % m) 0 : Nat) : Int)

/-- The first conversion at or after `k` that has a position in the rotation. -/
def nextConv (k m j : Nat) : Nat := k + (j + m - k % m) % m

/-- Streams of the plan that draw on a channel of a group as their source. -/
def State.streamsOfGroup (s : State) (g : Nat) : List Nat :=
  (Tbl.keys s.streams).filter (fun n => decide (s.srcKind n = 0 ∧ grp (s.src n) = g))

/-- R40, R167, R365: the words of a group skip conversions without a gap record: the active's domain 0 stepped forward to
an instant. Millstones of the channels that lost a conversion start again, Align takes no output from before the step,
and the group's streams follow it (DEDUCED, log entry 41). -/
def State.wordsStep (s : State) (g : Nat) (cs : List Nat) (tnew : Int) : State :=
  let told := (s.twin.lastWord.lookup g).getD tnew
  let s := (s.restartMills cs).dropTaps (s.convertedOf g)
  (s.streamsOfGroup g).foldl (fun s n => s.stepStream n told tnew (fun c => cs.contains c)) s

/-- R356, R365: where a word lies: its conversion and the one that follows it, its instant, and the own records that it
makes superfluous (R369). -/
def State.placeWord (s : State) (c entry k after : Nat) (t : Int) : State :=
  let g := grp c
  { s with twin := { s.twin with
    convs := Tbl.set 0 s.twin.convs c after
    lastRot := Tbl.put s.twin.lastRot g (k / max 1 (s.convOffsets c).length)
    lastEntry := Tbl.put s.twin.lastEntry g entry, lastWord := Tbl.put s.twin.lastWord g t
    kept := s.twin.kept.filter (fun r => decide (grp r.chan ≠ g ∨ t < r.sched)) } }

/-- R365: a word of a raw sample. -/
def State.sampleWord (s : State) (w : Nat) : State :=
  let c := field w 55 9
  let entry := field w 51 4
  let phase := bit w 50
  let next := Tbl.get 0 s.twin.convs c
  let k := nextConv next (max 1 (s.convOffsets c).length) (s.convIndex c entry phase)
  let t := s.convInstant c k
  let s := if next < k then s.wordsStep (grp c) [c] t else s
  let r : Raw := ⟨c, entry, phase, bit w 49, field w 46 3, field w 43 3, false, signed 18 (field w 21 18), t + (field w 0 18 : Nat),
    t, bit w 39, []⟩
  let s := (s.placeWord c entry k (k + 1) t).excursion c r.exc r.stamp
  let s := s.setChan c { s.chan c with lastRaw := some (s.normalise c r.code r.tag - s.toneDrop c r.stamp) }
  let s := if r.tag ≤ 4 then s.setE (0x2400 + c) 13 r.tag else s
  (s.compareTwin c false (s.twinSample r)).takeRecord r

/-- R365: a word of a gap record. -/
def State.gapWord (s : State) (w : Nat) : State :=
  let c := field w 55 9
  let n := field w 21 18
  let next := Tbl.get 0 s.twin.convs c
  let ts := (List.range n).map (fun i => s.convInstant c (next + i))
  let t := ts.headD (s.convInstant c next)
  (s.placeWord c (field w 51 4) next (next + n) (ts.getLast?.getD t)).takeRecord
    ⟨c, field w 51 4, false, false, 0, 7, true, n, t + (field w 0 18 : Nat), t, false, ts⟩

/-- R365: a word of a check result, in the rotation of the words before it. -/
def State.checkWord (s : State) (w : Nat) : State :=
  let c := field w 55 9
  let entry := field w 51 4
  let g := grp c
  let rot := Tbl.get 0 s.twin.lastRot g + (if Tbl.get 0 s.twin.lastEntry g < entry then 0 else 1)
  let t := Tbl.get 0 s.twin.anchors g + ((rot : Nat) : Int) * s.period g +
    ((slotFu * slotsBefore (s.entries g) entry : Nat) : Int) + (field w 0 18 : Nat)
  let s := s.setChan c { s.chan c with lastCheck := some t }
  if field w 21 18 = 1 then (s.setChan c { s.chan c with cleanRun := 0 }).wireBreak c 0 t
  else ((s.setChan c { s.chan c with lastClean := some t }).setE (0x2400 + c) 24 (toTime96 t)).cleanEvidence c t

/-- R365: one raw word other than an anchor; kinds 4 to 7 are reserved. -/
def State.takeWord (s : State) (w : Nat) : State :=
  match field w 40 3 with
  | 0 => s.sampleWord w
  | 1 => s.gapWord w
  | 2 => s.checkWord w
  | _ => s

/-- R357: the words of a group count from an anchor on. -/
def State.setAnchor (s : State) (g : Nat) (r : Int) (convs : Nat → Nat) : State :=
  { s with twin := { s.twin with
    anchors := Tbl.put s.twin.anchors g r
    convs := (s.convertedOf g).foldl (fun t c => Tbl.set 0 t c (convs c)) s.twin.convs
    lastRot := Tbl.drop s.twin.lastRot g, lastEntry := Tbl.drop s.twin.lastEntry g } }

/-- R357: no conversion of a group lies between the last words before an anchor and the rotation that it names. -/
def State.contiguous (s : State) (g : Nat) (a r : Int) : Bool :=
  (s.convertedOf g).all (fun c =>
    let m := max 1 (s.convOffsets c).length
    let k := Tbl.get 0 s.twin.convs c
    decide (r ≤ a + (((k + m - 1) / m : Nat) : Int) * s.period g))

/-- R357, R365: an anchor of a ready standby's active. The first of a run starts the group's Millstones; after a planned
swap the first tells where in its rotation the seam lies. A later one of an EVT group begins a burst; a later one of a timer group
follows a step: one that skips rotations is a forward step (DEDUCED, log entry 41). -/
def State.anchorWord (s : State) (g : Nat) (r : Int) : State :=
  match s.twin.anchors.lookup g, s.twin.seam with
  | none, none => (s.setAnchor g r (fun _ => 0)).startMills g
  | none, some x => s.setAnchor g r (fun c => ((s.convOffsets c).filter (fun o => decide (r + (o : Nat) < x))).length)
  | some a, _ =>
    let t := s.setAnchor g r (fun _ => 0)
    if s.trigger g ≠ 0 then (if s.e (0x2700 + g) 0x24 = 1 then t.startMills g else t)
    else if s.contiguous g a r then t
    else t.wordsStep g (s.convertedOf g) r

/-- R357: a word of a TWIN_RAW frame on a ready standby. -/
def State.twinWord (s : State) (w : Nat) : State :=
  match s.twin.anchorIn with
  | some (g, none) => { s with twin := { s.twin with anchorIn := some (g, some w) } }
  | some (g, some hi) =>
    { s with twin := { s.twin with anchorIn := none } }.anchorWord g (ofTime96 (hi % 2 ^ 32 * 2 ^ 64 + w))
  | none =>
    if field w 40 3 = 3 then { s with twin := { s.twin with anchorIn := some (field w 55 9, none) } } else s.takeWord w

/-- R365, R368: a raw record of a ready standby's own is compared; until the active's words have passed it, it is kept for
a takeover (R369). -/
def State.ownRaw (s : State) (r : Raw) : State :=
  let s := if r.gap then s else s.compareTwin r.chan true (s.twinSample r)
  let passed := match s.twin.lastWord.lookup (grp r.chan) with | some t => decide (r.sched ≤ t) | none => false
  if passed then s else { s with twin := { s.twin with kept := s.twin.kept ++ [r] } }

/-! ### Commits in step (R366, R367) -/

/-- R367: the standby confirms a record of a queue. -/
def State.sendConfirm (s : State) (q num : Nat) : State := s.sendItem (twinItem 3 8 (toBytes 1 q ++ zeros 1 ++ toBytes 4 num))

/-- R366: a block check that does not match unpairs the standby. -/
def State.digestMismatch (s : State) (q num : Nat) : State :=
  (((s.twinBit 3 true).bump 0x3600 9).event 2 0x0901 (toBytes 1 q ++ toBytes 4 num)).setRole 1

/-- The oldest closed block of every stream of a queue. -/
def State.candidates (s : State) (q : Nat) : List (Nat × Block) :=
  (Tbl.keys s.streams).filterMap (fun n =>
    if s.weir n = q then (s.stream n).closed.head?.map (fun b => (n, b)) else none)

/-- The record that a block of a stream becomes without a verify fault (R283). -/
def State.recordOfBlock (s : State) (n : Nat) (b : Block) : Rec :=
  let e := s.encode n b 0
  s.blockRec n b e.1 e.2.1

/-- The block check of a record: its last four bytes (R266). -/
def Rec.check (r : Rec) : Nat := Machine.ofBytes (r.bytes.drop (r.bytes.length - 4))

/-- R366: a standby's own block that a COMMIT names: the oldest of a stream of the queue whose record has the kind, the
length and the block check that the item gives. -/
def State.matching (s : State) (m : CommitItem) : Option (Nat × Block × Rec) :=
  ((s.candidates m.queue.val).map (fun p => (p.1, p.2, s.recordOfBlock p.1 p.2))).find? (fun p =>
    decide (p.2.2.check = m.check.toNat ∧ p.2.2.kind = m.kind.toNat ∧ p.2.2.bytes.length = m.length.toNat))

/-- R366: the standby commits its own block and confirms it. -/
def State.commitOwn (s : State) (q num n : Nat) (b : Block) (r : Rec) : State :=
  let x := s.stream n
  let s := s.setStream n { x with closed := x.closed.drop 1 }
  let s := (s.keepFixed n b).keepValues n b
  (((s.commitRec q r).levels).tryStop n).sendConfirm q num

/-- R366: the standby commits its own block on the matching COMMIT. Where the active's plan has ended, the blocks that its
end closed are looked for too. The item of a copied record, with block check 0, names no block of the standby's own: the
COPY commands behind it bring the record (R363). -/
def State.takeCommit (s : State) (m : CommitItem) : State :=
  if s.role ≠ 3 then s
  else
    let s := if (s.matching m).isNone ∧ s.planState ≠ 1 ∧ m.check ≠ 0 then s.finishPlan else s
    match s.matching m with
    | some (n, b, r) =>
      if wrap32 (s.hq m.queue).commit ≠ m.record.toNat then s.digestMismatch m.queue m.record.toNat
      else s.commitOwn m.queue m.record.toNat n b r
    | none => if m.check = 0 then s else s.digestMismatch m.queue m.record.toNat

/-- Length of a record by its kind byte and header (R297). -/
def recordLength (b : List Byte) : Option Nat :=
  match b with
  | [] => none
  | k :: _ =>
    if k.toNat = 0x14 then some 64
    else if 0x10 ≤ k.toNat then some 48
    else
      let i := if k.toNat = 2 then 20 else 32
      if b.length < i + 2 then none else some (Machine.ofBytes ((b.drop i).take 2))

/-- R263, R264, R265: the instant of the last output of a sample block, from its header or from its last angle stamp. -/
def lastInstant (b : List Byte) : Int :=
  let u := fun i n => Machine.ofBytes ((b.drop i).take n)
  let n := u 8 2 % 512
  let a := ofTime96 (u 12 12)
  let k := u 24 8
  if bit (u 10 1) 5 then
    let g := firstGrid k a
    gridInstant k (g.1 + (((g.2 + (n - 1)) / max 1 k : Nat) : Int)) ((g.2 + (n - 1)) % max 1 k)
  else if bit (u 10 1) 4 then
    let fmt := u 1 1 / 4 % 4
    let before := if bit (u 11 1) 5 then (if fmt = 2 then 16 else if fmt = 1 then 5 else 4) * n
      else (if u 11 1 % 32 = 24 then 17 else 0) + 2 * u 34 2
    ofTime96 (u (44 + before + 20 * (n - 1) + 8) 12)
  else a + (((n - 1) * k : Nat) : Int)

/-- The blocks held that a coded block draws on: those of the reference streams in its header that overlap it (R273). -/
def State.heldRefs (s : State) (b : List Byte) (instA instB : Int) : List (Nat × Nat × Int) :=
  let u := fun i n => Machine.ofBytes ((b.drop i).take n)
  let streams := ([36, 38, 40, 42].map (fun i => u i 2)).filter (fun r => decide (r ≠ 0xFFFF))
  if 3 ≤ u 10 1 % 8 then
    (s.hop.held.filter (fun r => decide (r.kind = 1 ∧ r.instA ≤ instB ∧ instA ≤ r.instB) &&
      r.stream.any streams.contains)).map (fun r => (r.stream.getD 0, r.first, r.instA))
  else []

/-- The record that a string of bytes is, as the directory holds it. A 0960 block tells its instants in 32 bits of
nanoseconds: they are taken as the latest up to now (DEDUCED, log entry 41). -/
def State.recordOf (s : State) (b : List Byte) : Rec :=
  let u := fun i n => Machine.ofBytes ((b.drop i).take n)
  let k := u 0 1
  if k = 1 then
    let a := ofTime96 (u 12 12)
    let z := lastInstant b
    let n := u 8 2 % 512
    Rec.of 1 b b.length (some (u 2 2)) (u 4 4) n a z (s.heldRefs b a z) b.length
  else if k = 2 then
    let n := u 8 2
    let a := (s.now / 65536 - (((stamp32 s.now + 2 ^ 32 - u 12 4) % 2 ^ 32 : Nat) : Int)) * 65536
    Rec.of 2 b b.length (some (u 2 2)) (u 4 4) n a (a + (((n - 1) * u 16 4 * 65536 : Nat) : Int)) [] b.length
  else Rec.of k b (if k = 0x14 then 64 else 48) (if bit (u 1 1) 3 then none else some (u 2 2)) (u 8 4) (u 12 4)
    (ofTime96 (u 16 12)) (ofTime96 (u 28 12)) [] 0

/-- A block without the outputs of a sequence range: nothing is left of one that lies in it. -/
def Block.without (b : Block) (first count : Nat) : Option Block :=
  let gone := fun (i : Nat) => decide ((b.first + i + 2 ^ 32 - first) % 2 ^ 32 < count)
  let n := b.outs.length
  let lead := ((List.range n).takeWhile gone).length
  let outs := ((List.range n).zip b.outs).filterMap (fun p => if gone p.1 then none else some p.2)
  if outs = [] ∧ n ≠ 0 then none else some { b with first := wrap32 (b.first + lead), outs := outs }

/-- R306, R366: the active's gap marker covers outputs that its own streams did not keep: neither does the standby. -/
def State.cutGap (s : State) (n first count : Nat) : State :=
  if (s.streams.lookup n).isSome then
    let x := s.stream n
    let s := { s with hop := { s.hop with gaps := Tbl.drop s.hop.gaps n } }
    s.setStream n { x with
      closed := x.closed.filterMap (fun b => b.without first count)
      openBlk := x.openBlk.bind (fun b => b.without first count) }
  else s

/-- R366: what a ready standby does about its own streams as its active's marker arrives: a gap takes outputs out of its
blocks, and a stop marker ends the streams of a plan that has stopped (R365). -/
def State.followMarker (s : State) (r : Rec) : State :=
  match r.stream with
  | some n =>
    if s.role = 3 ∧ r.kind = 0x10 then s.cutGap n r.first r.count
    else if s.role = 3 ∧ r.kind = 0x11 ∧ s.planState ≠ 1 then s.finishPlan
    else s
  | none => s

/-- R366: a RECORD item is written verbatim. -/
def State.takeRecordItem (s : State) (q : Nat) (b : List Byte) : State :=
  if s.role = 3 ∨ s.role = 2 then
    let n := wrap32 (s.hq q).commit
    let r := s.recordOf b
    (((s.followMarker r).commitRec q r).levels).sendConfirm q n
  else s

/-- R366: a DROP item: the block is dropped, and its outputs wait for the gap marker that the active will write; a
takeover before it writes the standby's own (DEDUCED, log entry 41). -/
def State.takeDrop (s : State) (n first : Nat) : State :=
  if s.role = 3 ∧ (s.streams.lookup n).isSome then
    let x := s.stream n
    let named := fun (b : Block) => decide (b.first = first)
    let s := s.setStream n { x with
      closed := x.closed.filter (fun b => !named b)
      openBlk := x.openBlk.filter (fun b => !named b) }
    ((x.closed ++ x.openBlk.toList).filter named).foldl (fun s b => s.gapBlock n (if s.classY n then 2 else 1) b) s
  else s

/-- R367: the active may send a record that the standby confirmed. -/
def State.takeConfirm (s : State) (q num : Nat) : State :=
  let pos := (s.hq q).position num + 1
  if s.mirrors ∧ pos ≤ (s.hq q).commit then
    { s with twin := { s.twin with confirmed := Tbl.set 0 s.twin.confirmed q (max pos (Tbl.get 0 s.twin.confirmed q)) } }
  else s

/-- R345, R367, R373: what a CREDIT payload does, come by a frame or by an item: its releases, but for a member whose
Hopper is neither sent nor released; and, on a member that sends, its rewind and its credit limit. -/
def State.applyCredit (s : State) (m : CreditMsg) : State :=
  let s := if s.role = 1 then s else s.creditReleases m
  if s.sends then (s.creditRewind m).creditLimit m.limit.toNat else s

/-! ### Pairing (R362, R363) -/

/-- R4, R86, R362: what pairing requires of this member and of what it knows of its partner. -/
def State.mayPair (s : State) : Bool :=
  decide (s.powerState = 0) && s.twin.partnerIdle && !s.flagged 0x3600 2 4 && decide (s.twin.product = some s.product) &&
  decide (s.twin.energy = some (s.e 0x2690 1))

/-- R363 steps 1 and 2: PAIR_BEGIN and every unreleased record, queue by queue. -/
def State.startPairing (s : State) : State :=
  let total := sumNat (s.hop.held.map (fun r => r.bytes.length))
  let used := (List.range 8).filter (fun q => decide ((s.hq q).recs ≠ []))
  let s := { s with twin := { s.twin with total := total, copied := 0, ended := false, copies := [] } }
  let s := s.twinCmd 5 (toBytes 4 total ++ toBytes 2 used.length)
  used.foldl (fun s q =>
    ((s.hq q).recs.zipIdx).foldl (fun s p => s.copyRec q (wrap32 ((s.hq q).release + p.2)) p.1) s) s

/-- R363: the active gives the copy up. The spec names no command that tells the standby so: STOP with target 0, which an
Idle pair has no other use for, does (DESIGN CHOICE, log entry 41). -/
def State.dropPairing (s : State) : State := s.unfeed.twinCmd 4 (zeros 2)

/-- R363: the copy is given up on the standby. -/
def State.unpair (s : State) : State := s.discardHopper.setRole 1

/-- A record that was copied takes its place; it was counted where it was encoded. -/
def State.putRec (s : State) (q : Nat) (r : Rec) : State :=
  let h := s.hq q
  s.setHq q { h with recs := h.recs ++ [{ r with addr := (Config.recordAddress q h.commit).toNat }] }

/-- The record numbers of a queue whose records are held are given: the number of the record that comes next. -/
def State.baseQueue (s : State) (q num : Nat) : State :=
  let h := s.hq q
  let p := wrap32 (num + 2 ^ 32 - h.recs.length)
  let s := s.setHq q { HQueue.reset with recs := h.recs, release := p, read := p, front := p }
  { s with twin := { s.twin with based := q :: s.twin.based } }

/-- R363: a record has been copied whole: the first one of a queue gives its record numbers; on a standby that is ready it
is one committed since (R363 step 3). -/
def State.recordCopied (s : State) (q num : Nat) (b : List Byte) : State :=
  let s := if s.role = 2 && !s.twin.based.contains q then s.baseQueue q num else s
  if wrap32 (s.hq q).commit = num then
    let t := (s.putRec q (s.recordOf b)).levels
    if t.role = 3 then t.sendConfirm q num else t
  else s

/-- R363: a COPY command on a standby. -/
def State.takeCopy (s : State) (q num off : Nat) (b : List Byte) : State :=
  if s.role ≠ 2 ∧ s.role ≠ 3 then s
  else
    let had := if off = 0 then [] else Tbl.get [] s.twin.parts q
    let all := had ++ b
    let keep := fun (rest : List Byte) => { s with twin := { s.twin with parts := Tbl.set [] s.twin.parts q rest } }
    match recordLength all with
    | some n => if n ≤ all.length then (keep []).recordCopied q num (all.take n) else keep all
    | none => keep all

/-- References of the copied blocks, once every queue has been copied (R273). -/
def State.linkRefs (s : State) : State :=
  (List.range 8).foldl (fun t q => t.setHq q { t.hq q with recs := (t.hq q).recs.map (fun r =>
    if r.kind = 1 then { r with refs := s.heldRefs r.bytes r.instA r.instB } else r) }) s

/-- R363 step 4: the standby compares its commit points and is ready, while R362 holds. A queue of which nothing was
copied takes its record numbers from the point itself. -/
def State.takePairEnd (s : State) (points : List Nat) : State :=
  if s.role ≠ 2 ∨ !s.mayPair then s
  else
    let s := (List.range 8).foldl (fun s q => if s.twin.based.contains q then s else s.baseQueue q (points.getD q 0)) s
    if (List.range 8).all (fun q => decide (wrap32 (s.hq q).commit = points.getD q 0)) then
      ({ s.linkRefs.setRole 3 with twin := { s.twin.wordsAnew with parts := [] } }).sendHeartbeat
    else s

/-- R363: PAIR_BEGIN reaches a standby: it refuses to leave STANDBY_UNPAIRED unless R362 holds (R4, R86). -/
def State.pairBegun (s : State) : State :=
  if (s.role = 1 ∨ s.role = 2) ∧ s.mayPair then s.discardHopper.setRole 2 else s

end Sys2Proof.Machine
end

