-- ==== Sys2Proof/Machine/Memory.lean ====
section
/-! DEFINITION. What memory errors do to held records (R310, R311, R274): replacement in place by a gap marker or an event,
and the blocks that drew on a lost one. -/

namespace Sys2Proof.Machine

/-- A block among all that were ever held: stream, first sequence, first instant. -/
abbrev BlockId := Nat × Nat × Int

/-- R311, R315: the gap marker that takes the place of a block: reason 3 or 4, with its instants or without. -/
def State.lostBlock (s : State) (q reason detailA : Nat) (known : Bool) (r : Rec) : Rec :=
  let n := r.stream.getD 0
  let a := if known then s.ledInst n r.instA else 0
  let b := if known then s.ledInst n r.instB else 0
  let m : Led := ⟨0x10, r.stream, reason, if known then 0 else 1, detailA, r.first, r.count, a, b, []⟩
  { r with kind := 0x10, bytes := m.bytes q, instA := a, instB := b, refs := [], raw := 0, replaced := true }

/-- R311, R315: the event of reason 45 that takes the place of a record, with the stream that the directory gives. -/
def lostRecord (q num : Nat) (known : Bool) (r : Rec) : Rec :=
  let n := if known then r.stream else none
  let first := if known then r.first else 0
  let count := if known then r.count else 0
  let m : Led := ⟨0x14, n, 45, 0, 0, first, count, 0, 0, toBytes 1 q ++ toBytes 4 num⟩
  { r with
    kind := 0x14, bytes := m.bytes q, stream := n, first := first, count := count, instA := 0, instB := 0, refs := [], raw := 0
    replaced := true }

/-- A record is replaced in place; it keeps its position and its space. One that is being read is sent from its start. -/
def State.replaceRec (s : State) (q pos : Nat) (r : Rec) : State :=
  let h := s.hq q
  s.setHq q { h with recs := h.recs.set (pos - h.release) r, sent := if h.read = pos then 0 else h.sent }

/-- A held record is a block (Table 11-2). -/
def Rec.isBlock (r : Rec) : Bool := decide (r.kind = 1 ∨ r.kind = 2)

/-- The block that a record is. -/
def Rec.ident (r : Rec) : Option BlockId := if r.isBlock then r.stream.map (fun n => (n, r.first, r.instA)) else none

/-- R273: a block that a marker covers contributes nothing to the blocks encoded after it. -/
def State.forgetBlock (s : State) (lost : BlockId) : State :=
  if (s.streams.lookup lost.1).isSome then
    let x := s.stream lost.1
    s.setStream lost.1 { x with hist := x.hist.filter (fun v => decide (v.2.2 ≠ lost.2)) }
  else s

/-- R274: held blocks of a queue that draw on a lost block are replaced too; it answers the blocks so lost. -/
def State.dependants (s : State) (q : Nat) (lost : BlockId) : State × List BlockId :=
  let h := s.hq q
  let hit := fun (r : Rec) => r.isBlock && r.refs.contains lost
  (s.setHq q { h with
    recs := h.recs.map (fun r => if hit r then s.lostBlock q 4 lost.1 true r else r)
    sent := if (h.at? h.read).any hit then 0 else h.sent }, (h.recs.filter hit).filterMap Rec.ident)

/-- R274: and those that wait with a reservation of their own. -/
def State.dependantsWaiting (s : State) (lost : BlockId) : State × List BlockId :=
  let hit := fun (w : Waiting) => w.body.isBlock && w.body.refs.contains lost
  ({ s with hop := { s.hop with waiting := s.hop.waiting.map (fun w =>
      if hit w then { w with body := s.lostBlock w.queue 4 lost.1 true w.body } else w) } },
    (s.hop.waiting.filter hit).filterMap (fun w => w.body.ident))

/-- R274: and the blocks that draw on those. -/
def State.loseBy : Nat → State → List BlockId → State
  | 0, s, _ => s
  | _, s, [] => s
  | k + 1, s, l :: rest =>
    let w := (s.forgetBlock l).dependantsWaiting l
    let a := (List.range 8).foldl (fun (a : State × List BlockId) q =>
      let b := a.1.dependants q l
      (b.1, a.2 ++ b.2)) w
    State.loseBy k a.1 (rest ++ a.2)

/-- Every block that depends on a lost one. -/
def State.loseFrom (s : State) (lost : BlockId) : State :=
  State.loseBy (1 + s.hop.held.length + s.hop.waiting.length) s [lost]

/-- R369: an active member of a ready pair relinquishes; it is then a former active (DEDUCED, log entry 39). -/
def State.relinquish (s : State) : State :=
  if s.role = 4 then (s.twinCmd 1 (toBytes 1 2 ++ zeros 1)).stepDown else s

/-- R311: both copies of a directory field are uncorrectable. -/
def State.hopperFatal (s : State) (q num pos : Nat) (r : Rec) : State :=
  let was := s.flagged 0x3400 0x0A 5
  let s := ((s.flag 0x3400 0x0A 5 true).event 3 0x0801 (toBytes 1 q ++ toBytes 4 num)).replaceRec q pos (lostRecord q num false r)
  if was then s else s.relinquish

/-- R295, R311: one copy of a directory field cannot be corrected: the other one serves, unless it cannot either. -/
def State.badCopy (s : State) (q num pos : Nat) (r : Rec) (field : Nat) (second : Bool) : State :=
  if r.badCopies.contains (field, !second) then s.hopperFatal q num pos r
  else if r.badCopies.contains (field, second) then s
  else s.replaceRec q pos { r with badCopies := (field, second) :: r.badCopies }

/-- R311: an uncorrectable word of the record itself. A replacement is formed from the directory and holds no word. -/
def State.recordLost (s : State) (q num pos : Nat) (r : Rec) (header : Bool) : State :=
  if r.replaced then s
  else match r.ident with
    | some l => (s.replaceRec q pos (s.lostBlock q 3 0 (!header) r)).loseFrom l
    | none => s.replaceRec q pos (lostRecord q num true r)

/-- R311: one uncorrectable word at a position of a queue. A record that was released is never read again (R312). -/
def State.wordLost (s : State) (q num pos : Nat) (site : EccSite) : State :=
  match (s.hq q).at? pos with
  | none => s
  | some r => match site with
    | .data => s.recordLost q num pos r false
    | .header => s.recordLost q num pos r true
    | .directory => s.hopperFatal q num pos r
    | .directoryCopy f second => s.badCopy q num pos r f.val second

/-- R311: an uncorrectable word that a pass of the scrubber finds. -/
def State.memoryError (s : State) (e : EccError) : State :=
  s.wordLost e.queue.val e.record.toNat ((s.hq e.queue.val).position e.record.toNat) e.site

/-- R310, R311: a pass of the scrubber. -/
def State.scrub (s : State) (corrected free : Nat) (errors : List EccError) : State :=
  let s := ((s.bump 0x3400 6 corrected).bump 0x3400 7 (free + errors.length)).setE 0x3400 9 s.stamp
  errors.foldl State.memoryError s

/-- R310, R311: what the transmitter's read of the record at a queue's read position meets. -/
def State.readErrors (s : State) (q : Nat) (m : MemRead) : State :=
  let s := s.bump 0x3400 6 m.corrected.toNat
  match m.lost with
  | none => s
  | some site => (s.bump 0x3400 7).wordLost q (wrap32 (s.hq q).read) (s.hq q).read site

end Sys2Proof.Machine
end

