-- ==== Sys2Proof/Machine/Sail.lean ====
section
/-! DEFINITION. Sail (chapter 07): stamps and island counts (R181 to R186), gates and armings (R188 to R193), windows
(R194), records (R195), the edge queue and the stream that owns it (R196 to R199, R236). -/

namespace Sys2Proof.Machine

/-- Record of a Sail. -/
def sail (n : Nat) : Nat := 0x2E00 + n
/-- A Sail. -/
def State.sailRun (s : State) (n : Nat) : SailRun := Tbl.get SailRun.reset s.sails n
/-- Replace a Sail. -/
def State.setSail (s : State) (n : Nat) (x : SailRun) : State := { s with sails := Tbl.set SailRun.reset s.sails n x }
/-- Input standard. -/
def State.sailStd (s : State) (n : Nat) : Nat := s.e (sail n) 1
/-- Mode; off where the input is off. -/
def State.sailMode (s : State) (n : Nat) : Nat := if s.sailStd n = 0 then 0 else s.e (sail n) 2
/-- Gate. -/
def State.sailGate (s : State) (n : Nat) : Nat := s.e (sail n) 5

/-- R185: stamps and results carry WARMUP. -/
def State.sailWarm (s : State) : Bool := !s.sailCal || !s.pins.ocxoRdy

/-- 0x2E00.18: WARMUP, CALIBRATING and ARMED follow the state; OVERFLOW and RATE_HIGH are held until read. -/
def State.sailStatus (s : State) (n : Nat) : Nat :=
  let b := fun (i : Nat) (x : Bool) => if x then 2 ^ i else 0
  b 0 s.sailWarm + b 1 (decide (s.power.phase = .up) && !s.sailCal) + b 2 (s.flagged (sail n) 0x18 2) + b 3 (s.sailRun n).armed +
    b 4 (s.flagged (sail n) 0x18 4)

/-! ### Records (R195) -/

/-- Bits [31:0] of a record. -/
def sailWord (kind : Nat) (rising warm prescaled : Bool) (rest : Nat) : Nat :=
  kind * 2 ^ 30 + (if rising then 2 ^ 29 else 0) + (if warm then 2 ^ 28 else 0) + (if prescaled then 2 ^ 27 else 0) + rest

/-- The Sail is prescaled. -/
def State.prescaled (s : State) (n : Nat) : Bool := decide (1 < s.e (sail n) 4)

/-- The enabled descriptor whose source is the Sail owns its queue (R196, R233). -/
def State.sailOwner (s : State) (n : Nat) : Option Nat :=
  (s.enabledStreams.filter (fun k => decide (s.srcKind k = 1 ∧ s.src k = n))).head?

/-- R236: the stream that owns the queue takes its records while it runs, one output each; a loss is told first. -/
def State.sailTakeBy : Nat → State → Nat → Nat → State
  | 0, s, _, _ => s
  | f + 1, s, n, k =>
    let x := s.sailRun n
    if x.queue.depth = 0 then s
    else
      let p := x.queue.pop 16
      let r := ofBytes (p.1.take 16)
      let s := s.setSail n { x with queue := p.2, lost := x.lost.filter (fun l => decide (x.queue.read < l.1)) }
      let s := match x.lost.lookup x.queue.read with
        | some b => s.streamEvent k { Led.of 0x14 k 35 (s.e (strm k) 0x13) 0 0 0 with
            detailB := toBytes 1 n ++ toBytes 2 b ++ toBytes 2 (r % 65536) }
        | none => s
      State.sailTakeBy f (s.emit k ⟨r, 0, 0, [], ⟨0, 0, 0⟩, none⟩) n k

/-- The owner takes what the queue holds, if it runs. -/
def State.sailTake (s : State) (n : Nat) : State :=
  match s.sailOwner n with
  | some k =>
    if s.planState ≠ 0 ∧ (s.streams.lookup k).isSome ∧ s.e (strm k) 0x12 ≠ 0 then
      State.sailTakeBy (s.sailRun n).queue.depth s n k
    else s
  | none => s

/-- R197 to R199: push a record with its sequence field; a full queue refuses it. -/
def State.sailPush (s : State) (n : Nat) (r seq : Nat) : State :=
  let x := s.sailRun n
  let q := x.queue.push (toBytes 16 r)
  if x.queue.full then
    ((s.setSail n { x with queue := q, losing := some (x.losing.getD x.lastSeq) }).bump (sail n) 0x16).flag (sail n) 0x18 2 true
  else
    let lost := match x.losing with
      | some b => x.lost.filter (fun l => decide (x.queue.read ≤ l.1)) ++ [(x.queue.base + x.queue.items.length, b)]
      | none => x.lost
    (s.setSail n { x with queue := q, losing := none, lost := lost, lastSeq := seq }).sailTake n

/-! ### Armings (R189 to R193) -/

/-- R193: the queue has room for the records of an arming. -/
def State.sailRoom (s : State) (n : Nat) : Bool := decide ((s.sailRun n).queue.occupancy + s.e (sail n) 8 + 1 ≤ 1024)

/-- R189, R193: an arming opens, or is refused. -/
def State.sailOpen (s : State) (n : Nat) : State :=
  let x := s.sailRun n
  if x.armed then s
  else if s.sailRoom n then
    s.setSail n { x with armed := true, armDue := false, openAt := s.gov.ticks, start := none, stops := [] }
  else (s.setSail n { x with armDue := decide (s.sailGate n = 0xFF) }).bump (sail n) 0x17

/-- An arming of a Sail without a gate that waited for room opens. -/
def State.sailRetry (s : State) (n : Nat) : State :=
  if (s.sailRun n).armDue ∧ s.sailRoom n then s.sailOpen n else s

/-- R191, R192: the records of an arming. -/
def State.sailRecords (s : State) (n : Nat) (x : SailRun) (timeout : Bool) : State :=
  let pre := s.prescaled n
  let none_ := if x.start.isNone then 2 ^ 26 else 0
  let st := x.start.getD ⟨0, 0, false, false⟩
  let first := (match x.start with | some e => toTime96 e.stamp | none => 0) * 2 ^ 32 +
    sailWord 1 st.rising (s.sailWarm || st.warm) pre
      (none_ + (if timeout then 2 ^ 25 else 0) + x.stops.length * 2 ^ 19 + x.armSeq)
  (List.range x.stops.length).foldl (fun s i =>
    let e := x.stops.getD i ⟨0, 0, false, false⟩
    let d := match x.start with | some a => e.count - a.count | none => 0
    let fl := match x.start with
      | some _ => if d = 0 then 2 ^ 26 else if d < 0 then 2 ^ 25 else 0
      | none => 2 ^ 24
    s.sailPush n (unsigned 64 d * 2 ^ 64 + i * 2 ^ 32 + sailWord 2 e.rising (s.sailWarm || st.warm || e.warm) pre (fl + x.armSeq))
      x.armSeq) (s.sailPush n first x.armSeq)

/-- R189, R191: an arming closes; a Sail without a gate opens the next one at once. -/
def State.sailClose (s : State) (n : Nat) (timeout : Bool) : State :=
  let x := s.sailRun n
  if !x.armed then s
  else
    let s := s.setSail n { x with armed := false, start := none, stops := [] }
    let s := if s.sailMode n = 2 then
        let s := s.setSail n { s.sailRun n with armSeq := (x.armSeq + 1) % 65536 }
        s.sailRecords n x timeout
      else s
    if s.sailGate n = 0xFF then s.sailOpen n else s

/-- R191: Arm timeout has run out; it does not apply to level gates, nor to stamp mode without a gate. -/
def State.sailTimedOut (s : State) (n : Nat) : Bool :=
  let x := s.sailRun n
  let g := s.sailGate n
  let level := g < 4 ∧ s.e (0x2E10 + g) 1 ≤ 2
  x.armed && decide (s.e (sail n) 9 ≠ 0 ∧ ¬level ∧ ¬(s.sailMode n = 1 ∧ g = 0xFF) ∧
    x.openAt + tickUs (s.e (sail n) 9) ≤ s.gov.ticks)

/-- 0x2E10.02, R188: state of a gate for its mode; an edge mode shows the level that its edge leads to. -/
def State.gateActive (s : State) (g : Nat) : Bool :=
  let l := bit s.pins.gate g
  match s.e (0x2E10 + g) 1 with
  | 1 => l
  | 2 => !l
  | 3 => l
  | 4 => !l
  | _ => false

/-- Sails of stamp or interval mode that name a gate. -/
def State.gated (s : State) (g : Nat) : List Nat :=
  (List.range 8).filter (fun n => decide ((s.sailMode n = 1 ∨ s.sailMode n = 2) ∧ s.sailGate n = g))

/-- R188, R189: a gate pin has shown a level for a number of ticks; one of less than 10 ns is ignored. -/
def State.gateLevel (s : State) (g : Nat) (level : Bool) (ticks : Nat) : State :=
  if bit s.pins.gate g = level ∨ ticks < 4 then s
  else
    let s := { s with pins := { s.pins with gate := setBit s.pins.gate g level } }
    if s.e (0x2E10 + g) 1 = 0 then s
    else if s.gateActive g then (s.gated g).foldl State.sailOpen s
    else if s.e (0x2E10 + g) 1 ≤ 2 then (s.gated g).foldl (fun s n => s.sailClose n false) s
    else s

/-- A gate is in a level mode and active: it holds armings open (R189). -/
def State.gateHolds (s : State) (g : Nat) : Bool :=
  decide (s.e (0x2E10 + g) 1 = 1 ∨ s.e (0x2E10 + g) 1 = 2) && s.gateActive g

/-- R189, R191: Gate mode is written: a level gate that becomes active opens armings, and one that ends closes them. -/
def State.gateMode (s : State) (g v : Nat) : State :=
  let t := s.setE (0x2E10 + g) 1 v
  if t.gateHolds g then (t.gated g).foldl State.sailOpen t
  else if s.gateHolds g then (t.gated g).foldl (fun s n => s.sailClose n false) t
  else t

/-- R182, R189, R194: a Sail's mode starts: its division count, arming and window begin anew. -/
def State.sailStart (s : State) (n : Nat) : State :=
  let x := s.sailRun n
  let m := s.sailMode n
  let s := s.setSail n { x with
    divided := 0, lastStamped := none, armed := false, armDue := false, start := none, stops := []
    winAt := none, first := none, periods := 0
    winDue := if 3 ≤ m then some (nextSecond (s.now + 1)) else none }
  let g := s.sailGate n
  if m = 1 ∨ m = 2 then
    if g = 0xFF then s.sailOpen n
    else if g < 4 ∧ s.gateHolds g then s.sailOpen n
    else s
  else s

/-! ### Edges (R181, R183, R190) -/

/-- R183: absolute stamp and island count of an edge that falls `f` bins before the present tick. -/
def State.sailStamp (s : State) (n f : Nat) (rising : Bool) : SailEdge :=
  let delay := s.eI 32 (sail n) 0x0B
  ⟨((s.gov.ticks * 512 : Nat) : Int) - (f : Int) - rne delay 320,
   rne (s.fine 0 * 512 - ((f * s.inc 0 : Nat) : Int) - delay * ((512 * finePerFu : Nat) : Int)) (512 * finePerFu), rising, s.sailWarm⟩

/-- R181: an edge of that polarity is one that the Sail's mode selects. -/
def State.selected (s : State) (n : Nat) (rising : Bool) : Bool :=
  decide (s.sailMode n ≠ 0) && bit (s.e (sail n) 3) (if rising then 0 else 1)

/-- R190: Sails in interval mode that take edges of this Sail and polarity as stops. -/
def State.stopUsers (s : State) (n : Nat) (rising : Bool) : List Nat :=
  (List.range 8).filter (fun m => decide (s.sailMode m = 2 ∧ s.e (sail m) 6 = n ∧ s.e (sail m) 7 = (if rising then 1 else 2)))

/-- R190: an edge meets a Sail in interval mode, as a start edge, a stop edge or both. -/
def State.intervalEdge (s : State) (m : Nat) (isStart isStop : Bool) (e : SailEdge) : State :=
  let x := s.sailRun m
  if !x.armed then s.bump (sail m) 0x14
  else
    let count := s.e (sail m) 8
    let s := if isStart && x.start.isNone then s.setSail m { x with start := some e }
      else if isStop && decide (x.stops.length < count) then s.setSail m { x with stops := x.stops ++ [e] }
      else s.bump (sail m) 0x15
    let y := s.sailRun m
    if y.start.isSome ∧ y.stops.length = count then s.sailClose m false else s

/-- R187, R189: an edge of a Sail in stamp mode. -/
def State.stampEdge (s : State) (n : Nat) (e : SailEdge) : State :=
  let x := s.sailRun n
  if !x.armed then s.bump (sail n) 0x14
  else
    (s.setSail n { x with edgeSeq := (x.edgeSeq + 1) % 65536 }).sailPush n
      (toTime96 e.stamp * 2 ^ 32 + sailWord 0 e.rising e.warm (s.prescaled n) x.edgeSeq) x.edgeSeq

/-- R194: an edge inside a window. A period runs between edges of one polarity (DEDUCED, log entry 22). -/
def State.windowEdge (s : State) (n : Nat) (e : SailEdge) : State :=
  let x := s.sailRun n
  if x.winAt.isNone then s
  else match x.first with
    | none => s.setSail n { x with first := some e, last := e.count, periods := 0 }
    | some a => if a.rising = e.rising then s.setSail n { x with last := e.count, periods := x.periods + 1 } else s

/-- R194: a window ends: its records are pushed, and the next one follows without a gap. -/
def State.windowEnd (s : State) (n at_ : Nat) : State :=
  let x := s.sailRun n
  let pre := s.prescaled n
  let m := s.e (sail n) 4
  let e := x.first.getD ⟨0, 0, false, false⟩
  let d := (x.last - e.count).toNat
  let none_ := if x.periods = 0 then 2 ^ 24 else 0
  let freq := decide (s.sailMode n = 4)
  let value := if x.periods = 0 then 0
    else if freq then (f64.round false (x.periods * m * 204800000000) d).getD 0
    else (rne ((d * 81920 : Nat) : Int) (x.periods * m)).toNat % 2 ^ 64
  let warm := s.sailWarm || e.warm
  let seq := x.armSeq
  let s := s.setSail n { x with
    armSeq := (seq + 1) % 65536, winAt := some (at_ + tickUs (s.e (sail n) 10)), first := none, periods := 0 }
  let s := s.sailPush n ((match x.first with | some e => toTime96 e.stamp | none => 0) * 2 ^ 32 + sailWord 1 e.rising warm pre (none_ + seq)) seq
  s.sailPush n (value * 2 ^ 64 + min x.periods 0xFFFFFF * 2 ^ 40 +
    sailWord 3 e.rising warm pre ((if freq then 2 ^ 26 else 0) + none_ + seq)) seq

/-- R194: the window in progress has lasted Measure time; when it began. -/
def State.windowDone (s : State) (n : Nat) : Option Nat :=
  match (s.sailRun n).winAt with
  | some t => if 3 ≤ s.sailMode n ∧ t + tickUs (s.e (sail n) 10) ≤ s.gov.ticks then some t else none
  | none => none

/-- R194: the first window begins at its whole second. -/
def State.firstWindow (s : State) (n : Nat) : State :=
  let x := s.sailRun n
  match x.winDue with
  | some t =>
    if 3 ≤ s.sailMode n ∧ t ≤ s.now then s.setSail n { x with winDue := none, winAt := some s.gov.ticks } else s
  | none => s

/-- What an arriving edge comes to (R181, R182, R190): the edge as stamped, where it is stamped. -/
def State.sailArrives (s : State) (n : Nat) (rising : Bool) (f : Nat) : Option SailEdge × State :=
  let x := s.sailRun n
  let raw : Int := ((s.gov.ticks * 512 : Nat) : Int) - (f : Int)
  if s.power.phase ≠ .up ∨ s.sailStd n = 0 ∨ (!s.selected n rising ∧ s.stopUsers n rising = []) then (none, s)
  else if s.prescaled n ∧ (!rising ∨ x.divided + 1 < s.e (sail n) 4) then
    (none, if rising then s.setSail n { x with divided := x.divided + 1 } else s)
  else
    let s := s.setSail n { x with divided := 0 }
    if (match x.lastStamped with | some l => decide (5 * (raw - l) < 2048) | none => false) then
      (none, (s.bump (sail n) 0x1A).flag (sail n) 0x18 4 true)
    else
      let s := (s.setSail n { s.sailRun n with lastStamped := some raw }).wrapAdd 32 (sail n) 0x13 1
      (some (s.sailStamp n f rising), s)

/-- A stamped edge serves the Sail's own mode and every Sail that takes it as a stop. -/
def State.sailUse (s : State) (n : Nat) (e : SailEdge) : State :=
  let own := s.selected n e.rising
  let stops := s.stopUsers n e.rising
  let s := if own && decide (s.sailMode n = 1) then s.stampEdge n e
    else if own && decide (3 ≤ s.sailMode n) then s.windowEdge n e
    else if own then s.intervalEdge n true (stops.contains n) e
    else s
  (stops.filter (fun m => !(own && decide (m = n)))).foldl (fun s m => s.intervalEdge m false true e) s

/-! ### Calibration (R184) -/

/-- Calibration of the interpolator in use: island tick and temperature. -/
def SailRun.cal (x : SailRun) : Nat × Int := if x.secondInUse then x.cal1 else x.cal0

/-- R184: the spare interpolator of a Sail is due for calibration. -/
def State.calibrationDue (s : State) (n : Nat) (t : Int) : Bool :=
  let x := (s.sailRun n).cal
  s.sailCal && (decide (x.1 + s.e 0x2E20 1 * 400000000 ≤ s.gov.ticks) || decide (50 ≤ (t - x.2).natAbs))

/-- R184: the spare interpolator is calibrated, and takes the place of the one in use between two edges. -/
def SailRun.swapped (x : SailRun) (at_ : Nat) (t : Int) : SailRun :=
  if x.secondInUse then { x with secondInUse := false, cal0 := (at_, t) } else { x with secondInUse := true, cal1 := (at_, t) }

/-- 0x2E20.02 and .03: instant and temperature of the last calibration. -/
def State.calibrated (s : State) (t : Int) : State := (s.setE 0x2E20 2 s.stamp).setE 0x2E20 3 (unsigned 16 t)

/-- R184: the spare of a Sail is calibrated. -/
def State.sailCalibrated (s : State) (n : Nat) (t : Int) : State :=
  (s.setSail n ((s.sailRun n).swapped s.gov.ticks t)).calibrated t

/-- R184, R447: the start calibration of both interpolators of every Sail has completed. -/
def State.startCalibrated (s : State) (t : Int) : State :=
  if s.sailCal then s
  else
    let c := (s.gov.ticks, t)
    ((List.range 8).foldl (fun (s : State) n => s.setSail n { s.sailRun n with cal0 := c, cal1 := c }) { s with sailCal := true }).calibrated t

/-! ### The reader's writes (R197) -/

/-- Dormant and every reset but a link reset lose what a Sail holds (R200, R465). -/
def State.sailsLost (s : State) : State :=
  { s with sails := Tbl.map SailRun.reset (fun _ x => { SailRun.reset with secondInUse := x.secondInUse, cal0 := x.cal0, cal1 := x.cal1 }) s.sails }

/-- Every Sail's mode starts. -/
def State.sailsStart (s : State) : State := (List.range 8).foldl State.sailStart s

end Sys2Proof.Machine
end

