-- ==== Sys2Proof/Machine/Grid.lean ====
section
/-! DEFINITION. Angle grids (chapter 08): teeth and references (R213 to R216), points and their instants (R217 to R221),
grid states and losses of synchronisation (R222 to R224), and the speed streams (R237). -/

namespace Sys2Proof.Machine

/-- Record of a grid. -/
def gridr (a : Nat) : Nat := 0x2F00 + a
/-- Grid state (Table 08-3). -/
def State.gridState (s : State) (a : Nat) : Nat := s.e (gridr a) 0x10
/-- Set the grid state. -/
def State.setGridState (s : State) (a v : Nat) : State := s.setE (gridr a) 0x10 v
/-- Z. -/
def State.teethOf (s : State) (a : Nat) : Nat := s.e (gridr a) 3
/-- g. -/
def State.missingTeeth (s : State) (a : Nat) : Nat := s.e (gridr a) 4
/-- Reference kind. -/
def State.refKind (s : State) (a : Nat) : Nat := s.e (gridr a) 5
/-- C. -/
def State.cycleRevs (s : State) (a : Nat) : Nat := s.e (gridr a) 7
/-- M. -/
def State.pointsPer (s : State) (a : Nat) : Nat := s.e (gridr a) 8
/-- A cam Sail is named and used. -/
def State.hasCam (s : State) (a : Nat) : Bool := decide (s.cycleRevs a = 2 ∧ s.e (gridr a) 10 ≠ 0xFF)

/-- R220: the point rate at maximum speed as numerator and denominator, in points/s. -/
def State.pointRate (s : State) (a : Nat) : Nat × Nat := (s.pointsPer a * s.e (gridr a) 13, 6000 * s.cycleRevs a)

/-- A grid that tracks teeth: neither OFF nor SUSPENDED. -/
def State.tracking (s : State) (a : Nat) : Bool := decide (s.gridState a ≠ 0 ∧ s.gridState a ≠ 6)
/-- The grid knows which tooth position comes next: PHASING, SYNCED, OVERSPEED. -/
def State.placed (s : State) (a : Nat) : Bool := decide (s.gridState a = 2 ∨ s.gridState a = 3 ∨ s.gridState a = 5)

/-! ### Points (R217 to R221) -/

/-- The speed at a point, as binary32 (R237): from the point before it in the SYNCED run, else from the tooth
interval. -/
def State.speedAt (s : State) (a : Nat) (inst : Int) : Nat :=
  let x := s.grid a
  match x.firstPoint, x.lastPoint with
  | false, some p => f32Of ((s.cycleRevs a * 60 * fuSec : Nat) : Int) (s.pointsPer a * (inst - p.inst).toNat)
  | _, _ => match x.teeth with
    | t :: u :: _ => f32Of ((60 * 204800000000 * (t.at_ - u.at_) : Nat) : Int) (s.teethOf a * (t.edge.count - u.edge.count).toNat)
    | _ => 0

/-- One item of a grid reaches a stream: aligned streams keep it until their Millstone outputs are there, a speed
stream takes it at once. -/
def State.gridItem (s : State) (n a speed : Nat) (p : Point) : State :=
  if s.srcKind n = 2 then
    let s := s.gridMark n a p
    if 36 ≤ p.mark ∧ p.mark < 40 then s
    else if p.torn then s.fillAt n p.index p.inst p.stamp
    else s.streamInput n p.index ⟨0, speed, 0, 0, p.inst, p.stamp, ⟨0, 0, p.inst⟩, none⟩
  else (s.setStream n { s.stream n with points := (s.stream n).points ++ [p] }).pump n

/-- An item reaches every stream of the grid that runs. -/
def State.gridItems (s : State) (a speed : Nat) (p : Point) : State :=
  ((s.streamsOfGrid a).filter (fun n => decide (s.e (strm n) 0x12 ≠ 0))).foldl (fun s n => s.gridItem n a speed p) s

/-- R219 step 2: the time of a tooth position, g + 1 times its island count. -/
def toothTime (scale : Nat) (idx : Nat) : List Tooth → Int
  | t :: u :: r =>
    if t.at_ ≤ idx then (scale : Int) * t.edge.count
    else if u.at_ < idx then
      (scale : Int) * u.edge.count +
        rne (((idx - u.at_ : Nat) : Int) * (scale : Int) * (t.edge.count - u.edge.count)) (t.at_ - u.at_)
    else toothTime scale idx (u :: r)
  | [t] => (scale : Int) * t.edge.count
  | [] => 0

/-- R220: a step of domain 0 fell among the teeth used for positions `lo` to `hi`. -/
def tornTeeth (lo hi : Nat) : List Tooth → Bool
  | t :: u :: r => (t.seam && decide (u.at_ < hi ∧ lo < t.at_)) || tornTeeth lo hi (u :: r)
  | _ => false

/-- The last tooth accepted at or before a position. -/
def toothBefore (idx : Nat) (ts : List Tooth) : Option Tooth := ts.find? (fun t => decide (t.at_ ≤ idx))

/-- R219: produce a point: index `j` counted on over cycles, base position `b` at cycle angle `ang`. -/
def State.producePoint (s : State) (a b rev : Nat) (ang pitch step j : Nat) : State :=
  let x := s.grid a
  let scale := s.missingTeeth a + 1
  let m := min (rne (((j * step - ang) * 2 ^ 24 : Nat) : Int) pitch) (2 ^ 24 - 1)
  let t := fun (i : Nat) => toothTime scale i x.teeth
  let den : Nat := scale * 6 * 2 ^ 72
  let y := t b * (6 * 2 ^ 72) + cubic (t (b - 1)) (t b) (t (b + 1)) (t (b + 2)) m
  match toothBefore b x.teeth with
  | none => s
  | some base =>
    let unit := den * 512 * finePerFu
    let inst := rne (base.edge.stamp * (unit : Int) + (y - base.edge.count * (den : Int)) * (s.inc 0 : Int)) unit
    let k := j % s.pointsPer a
    let angle := (rne ((k * s.cycleRevs a * 23592960 : Nat) : Int) (s.pointsPer a)).toNat
    let p : Point := ⟨rev, angle, inst, k, tornTeeth (b - 1) (b + 2) x.teeth,
      if x.firstPoint && x.regain then 40 else if x.flipped.any (fun z => decide (z ≤ b)) then 41 else 0⟩
    let s := s.gridItems a (s.speedAt a inst) p
    let x := s.grid a
    s.setGrid a { x with
      firstPoint := false, regain := x.regain && !x.firstPoint, flipped := if p.mark = 41 then none else x.flipped
      lastPoint := some { p with mark := 0 } }

/-- R217, R218: the points whose base is position `b`. -/
def State.pointsAt (s : State) (a b : Nat) : State :=
  let z := s.teethOf a
  let m := s.pointsPer a
  let c := s.cycleRevs a
  match (s.grid a).revs.find? (fun r => decide (r.1 ≤ b)) with
  | none => s
  | some (z0, rev, q) =>
    -- in units of 1 / (65,536 Z M) degree
    let pitch := 360 * 65536 * m
    let step := c * 360 * 65536 * z
    let ang := (s.e (gridr a) 9 * z * m + (q * z + (b - z0)) * pitch) % (m * step)
    let lo := ceilDiv ang step
    let hi := ceilDiv (ang + pitch) step
    (List.range (hi - lo)).foldl (fun s i => s.producePoint a b rev ang pitch step (lo + i)) s

/-- R219: every position whose second next tooth is there gives its points. -/
def State.points (s : State) (a : Nat) : State :=
  let x := s.grid a
  match x.teeth with
  | t :: _ =>
    if s.gridState a = 3 then
      let n := t.at_ - 1 - x.nextBase
      let s := (List.range n).foldl (fun s i => s.pointsAt a (x.nextBase + i)) s
      s.setGrid a { s.grid a with nextBase := x.nextBase + n }
    else s
  | [] => s

/-! ### States (R222, R223) -/

/-- R223: the grid leaves SYNCED for a reason of Table 11-5. -/
def State.syncLostGrid (s : State) (a reason : Nat) : State :=
  let x := s.grid a
  let p := x.lastPoint.getD { Point.none with rev := s.e (gridr a) 0x12 }
  let s := s.gridItems a 0 { p with mark := reason }
  ((s.setGrid a { s.grid a with regain := true }).bump (gridr a) 0x17).flag (gridr a) 0x11 3 true

/-- The grid leaves its state; from SYNCED it loses synchronisation for the reason. -/
def State.leave (s : State) (a reason : Nat) : State := if s.gridState a = 3 then s.syncLostGrid a reason else s

/-- R226: TIMING_WARMUP while a tooth in use carries WARMUP. -/
def State.gridWarm (s : State) (a : Nat) : State :=
  s.flag (gridr a) 0x11 2 ((s.grid a).teeth.any (fun t => t.edge.warm))

/-- The grid begins to search: it holds no tooth and no reference. -/
def State.search (s : State) (a : Nat) : State :=
  ((s.setGrid a { s.grid a with
    teeth := [], revs := [], accepted := none, ref := none, early := none, entry := false, cam := false
    camBefore := false, flip := false, flipped := none, revStart := none }).setGridState a 1).gridWarm a

/-- R213, R214: a tooth error. -/
def State.toothError (s : State) (a : Nat) : State := ((s.leave a 36).bump (gridr a) 0x14).search a

/-- R215, R216: the grid enters SYNCED at a revolution with q = 0 whose tooth 0 has position `z0`. -/
def State.synced (s : State) (a z0 : Nat) : State :=
  let x := s.grid a
  let s := if x.fromRun then s.setE (gridr a) 0x12 0 else s
  let s := s.setGrid a { x with
    fromRun := false, runFrom := z0, nextBase := z0 + 1, firstPoint := true
    revs := (z0, s.e (gridr a) 0x12, 0) :: x.revs.filter (fun r => decide (r.1 ≠ z0)) }
  let s := if s.cycleRevs a = 2 ∧ !s.hasCam a then s.flag (gridr a) 0x11 0 true else s
  s.setGridState a 3

/-- R215: SEARCHING ends at a reference whose tooth 0 has position `z0`. -/
def State.found (s : State) (a z0 : Nat) : State :=
  let x := s.grid a
  let s := s.setGrid a { x with revs := [(z0, s.e (gridr a) 0x12, 0)], cam := false, camBefore := false }
  if s.hasCam a then s.setGridState a 2 else s.synced a z0

/-- R224: a reference is recognised while the grid is not SYNCED. -/
def State.recognised (s : State) (a : Nat) : State :=
  if s.gridState a = 3 ∨ (s.grid a).fromRun then s else s.wrapAdd 32 (gridr a) 0x12 1

/-! ### Revolutions (R216, R222) -/

/-- R216: cam faults and the next cycle revolution, at the tooth 0 at position `z0` that ends a revolution with cycle
revolution `q`. -/
def State.nextCycle (s : State) (a q z0 : Nat) : State × Nat :=
  let x := s.grid a
  if s.cycleRevs a ≠ 2 then (s, 0)
  else if s.hasCam a then
    let bad := (x.cam && x.camBefore) || (decide (q = 1) && !x.cam && !x.camBefore)
    let good := decide (q = 1) && x.cam && !x.camBefore
    let s := if bad then (s.flag (gridr a) 0x11 1 true).flag (gridr a) 0x11 0 true
      else if good then s.flag (gridr a) 0x11 0 false else s
    (s.setGrid a { x with cam := false, camBefore := x.cam }, 1 - q)
  else if q = 0 ∧ x.flip then (s.setGrid a { x with flip := false, flipped := some z0 }, 0)
  else (s, 1 - q)

/-- R222: the speed over one revolution of `d` Sail LSBs exceeds `pct` per cent of Maximum speed. -/
def State.faster (s : State) (a pct d : Nat) : Bool :=
  decide (s.e (gridr a) 13 * pct * d < 6000 * 204800000000 * 100)

/-- Speed over a revolution of `d` Sail LSBs, in 0.01 rpm. -/
def speedOf (d : Nat) : Nat := sat32 (rne ((6000 * 204800000000 : Nat) : Int) d).toNat

/-- A tooth 0 ends a revolution: its speed is reported. -/
def State.revolution (s : State) (a : Nat) (count : Int) : State :=
  let x := s.grid a
  let s := s.setGrid a { x with revStart := some count }
  match x.revStart with
  | some c => s.setE (gridr a) 0x13 (speedOf (count - c).toNat)
  | none => s

/-- R222: OVERSPEED begins or ends with the revolution that the last tooth 0 ended; `d` is its duration. -/
def State.overspeed (s : State) (a z0 : Nat) (d : Option Nat) : State :=
  match d with
  | none => s
  | some d =>
    if s.gridState a = 3 ∧ s.faster a 100 d then (s.leave a 38).setGridState a 5
    else if s.gridState a = 5 ∧ 6000 * 204800000000 * 100 < s.e (gridr a) 13 * 95 * d then
      (s.setGrid a { s.grid a with runFrom := z0, nextBase := z0 + 1, firstPoint := true }).setGridState a 3
    else s

/-- A tooth 0 at position `z0` where the grid knows its place: count, cycle and state of the new revolution. With
reference kind 1 the revolution that SEARCHING found counts from the tooth 0 that follows its reference edge; a cam edge
between the two lies in the revolution before, which thereby had q = 1 (R216). -/
def State.toothZero (s : State) (a z0 : Nat) : State :=
  let x := s.grid a
  let q := match x.revs with | r :: _ => r.2.2 | [] => 0
  if x.entry ∧ s.gridState a = 2 ∧ x.cam then
    (s.setGrid a { x with
      entry := false, cam := false, camBefore := true
      revs := match x.revs with | r :: rs => (z0, r.2.1, 0) :: rs | [] => [] }).synced a z0
  else if x.entry then
    s.setGrid a { x with entry := false, revs := match x.revs with | r :: rs => (z0, r.2.1, r.2.2) :: rs | [] => [] }
  else
    let s := s.wrapAdd 32 (gridr a) 0x12 1
    if s.gridState a = 2 then
      if x.cam then
        (s.setGrid a { x with revs := (z0, s.e (gridr a) 0x12, 0) :: x.revs, cam := false, camBefore := true }).synced a z0
      else s.setGrid a { x with revs := (z0, s.e (gridr a) 0x12, 0) :: x.revs.take 3 }
    else
      let r := s.nextCycle a q z0
      let s := r.1
      s.setGrid a { s.grid a with revs := (z0, s.e (gridr a) 0x12, r.2) :: (s.grid a).revs.take 3 }

/-! ### Teeth (R213 to R215) -/

/-- A tooth is accepted at a position; the oldest that no point needs are forgotten. -/
def State.acceptTooth (s : State) (a at_ : Nat) (e : SailEdge) : State :=
  let x := s.grid a
  (s.setGrid a { x with teeth := (⟨e, at_, x.seam⟩ :: x.teeth).take 6, seam := false, idle := s.gov.ticks }).gridWarm a

/-- The first tooth of a search; it counts from a reference edge that came before it (R215). -/
def State.firstTooth (s : State) (a : Nat) (e : SailEdge) : State :=
  let s := (s.setGrid a { s.grid a with seam := false, accepted := (s.grid a).accepted.map (· + 1) }).acceptTooth a 0 e
  if s.refKind a = 2 then ((s.recognised a).setGrid a { s.grid a with accepted := some 1 }).revolution a e.count
  else s

/-- How an edge relates to the last accepted interval (R213). -/
inductive ToothTest where
  | regular | gap | extra | error
  deriving DecidableEq, Repr

/-- R213: the test of an interval Δ against the last accepted one, `i` over `sp` positions, with tolerance τ. -/
def toothTest (tol g : Nat) (d i : Int) (sp : Nat) : ToothTest :=
  let v := 100 * d * (sp : Int)
  let lo := (100 - (tol : Int)) * i
  let hi := (100 + (tol : Int)) * i
  let k : Int := (g : Int) + 1
  if v < lo then .extra
  else if v ≤ hi then .regular
  else if g ≠ 0 ∧ k * lo ≤ v ∧ v ≤ k * hi then .gap
  else .error

/-- R213: the test of an edge; nothing while there is no interval to test it with. -/
def State.testTooth (s : State) (a : Nat) (e : SailEdge) : Option ToothTest :=
  match (s.grid a).teeth with
  | t :: u :: _ => some (toothTest (s.e (gridr a) 11) (s.missingTeeth a) (e.count - t.edge.count) (t.edge.count - u.edge.count) (t.at_ - u.at_))
  | _ => none

/-- R214: an edge lies nearer to a tooth edge than a quarter of the tooth interval. -/
def nearTooth (d interval : Int) : Bool := decide (4 * d < interval)

/-- R214: reference kind 1: the revolution's reference edge lies between tooth Z − 1 and tooth 0, and not too near. -/
def refGood (r : Option (Int × Int)) (before now : Int) : Bool × Bool :=
  match r with
  | none => (false, false)
  | some (f, l) =>
    let near := nearTooth (f - before) (now - before) || nearTooth (now - l) (now - before)
    (!near, near)

/-- A tooth of a grid that knows its place. -/
def State.placedTooth (s : State) (a : Nat) (e : SailEdge) (r : ToothTest) : State :=
  let x := s.grid a
  let z := s.teethOf a
  let g := s.missingTeeth a
  match x.teeth, x.revs with
  | t :: _, (z0, _, _) :: _ =>
    let pos := t.at_ - z0
    let gapDue := decide (g ≠ 0 ∧ pos + g + 1 = z)
    if decide (r = .gap) ≠ gapDue then (s.toothError a).firstTooth a e
    else if x.early.isSome then
      let near := nearTooth (e.count - x.early.getD 0) (e.count - t.edge.count)
      ((if near then s.bump (gridr a) 0x16 else s).toothError a).firstTooth a e
    else
      let at_ := if gapDue then t.at_ + g + 1 else t.at_ + 1
      let wraps := decide (at_ - z0 = z)
      let k := refGood x.ref t.edge.count e.count
      if wraps ∧ s.refKind a = 1 ∧ !k.1 then
        ((if k.2 then s.bump (gridr a) 0x16 else s).toothError a).firstTooth a e
      else
        let s := s.acceptTooth a at_ e
        if wraps then
          let d := x.revStart.map (fun c => (e.count - c).toNat)
          let s := ((s.setGrid a { s.grid a with ref := none }).toothZero a at_).revolution a e.count
          (s.points a).overspeed a at_ d
        else s.points a
  | _, _ => s

/-- A tooth in SEARCHING: the reference is recognised at a gap (kind 0) or at every tooth (kind 2). -/
def State.searchTooth (s : State) (a : Nat) (e : SailEdge) (r : ToothTest) : State :=
  let x := s.grid a
  let g := s.missingTeeth a
  match x.teeth with
  | [] => s.firstTooth a e
  | t :: _ =>
    let gap := decide (r = .gap)
    let at_ := if gap then t.at_ + g + 1 else t.at_ + 1
    let d := x.revStart.map (fun c => (e.count - c).toNat)
    let s := s.acceptTooth a at_ e
    let up := fun (s : State) (v : Option Nat) => s.setGrid a { s.grid a with accepted := v }
    if s.refKind a = 0 ∧ gap then
      let s := ((up s (some 1)).recognised a).revolution a e.count
      if x.accepted = some (s.teethOf a - g) then (s.found a at_).overspeed a at_ d else s
    else if s.refKind a = 2 then
      let k := x.accepted.getD 0 + 1
      let s := ((up s (some k)).recognised a).revolution a e.count
      if k = 4 then (s.found a at_).overspeed a at_ d else s
    else up s (x.accepted.map (· + 1))

/-- R213 to R215, R222: an edge of the tooth Sail. While a grid is SUSPENDED an edge only shows that the shaft turns
(DESIGN CHOICE, log entry 23). -/
def State.toothEdge (s : State) (a : Nat) (e : SailEdge) : State :=
  if s.gridState a = 6 then s.setGrid a { s.grid a with idle := s.gov.ticks }
  else if !s.tracking a then s
  else
    let s := if s.gridState a = 4 then s.search a else s
    match s.testTooth a e with
    | some .extra => s.bump (gridr a) 0x15
    | some .error => (s.toothError a).firstTooth a e
    | some r => if s.placed a then s.placedTooth a e r else s.searchTooth a e r
    | none => s.searchTooth a e .regular

/-- R214: where a reference edge of a placed grid falls: between tooth Z − 1 and tooth 0, where it belongs; between tooth
Z − 2 and tooth Z − 1, an error that is judged once tooth Z − 1 tells how near it came; or elsewhere, an error at once,
and a fault where tooth 0 has only just passed. -/
def State.placedReference (s : State) (a : Nat) (e : SailEdge) (t : Tooth) (u : Option Tooth) (z0 : Nat) : State :=
  let x := s.grid a
  let next := t.at_ + 1 - z0
  if next = s.teethOf a then
    s.setGrid a { x with ref := some (match x.ref with | some r => (r.1, e.count) | none => (e.count, e.count)) }
  else if next + 1 = s.teethOf a then s.setGrid a { x with early := some e.count }
  else
    let near := match u with
      | some u => decide (next = 1) && nearTooth (e.count - t.edge.count) (t.edge.count - u.edge.count)
      | none => false
    (if near then s.bump (gridr a) 0x16 else s).toothError a

/-- R214, R215: an edge of the reference Sail, for reference kind 1. -/
def State.referenceEdge (s : State) (a : Nat) (e : SailEdge) : State :=
  if s.refKind a ≠ 1 ∨ !s.tracking a then s
  else
    let x := s.grid a
    if s.placed a then
      match x.teeth, x.revs with
      | t :: ts, (z0, _, _) :: _ => s.placedReference a e t ts.head? z0
      | _, _ => s
    else if s.gridState a = 1 then
      let s := (s.setGrid a { x with accepted := some 0 }).recognised a
      match x.teeth with
      | t :: _ =>
        if x.accepted = some (s.teethOf a) then
          let s := s.found a (t.at_ + 1 - s.teethOf a)
          let s := s.setGrid a { s.grid a with
            entry := true, ref := some (e.count, e.count), runFrom := t.at_ + 1, nextBase := t.at_ + 2 }
          s
        else s
      | [] => s
    else s

/-- R216: an edge of the cam Sail. -/
def State.camEdge (s : State) (a : Nat) : State :=
  if s.hasCam a ∧ s.placed a then s.setGrid a { s.grid a with cam := true } else s

/-- R187, R211: a stamped edge of a Sail's selected polarity reaches the grids that name the Sail. -/
def State.gridEdge (s : State) (n : Nat) (e : SailEdge) : State :=
  (List.range 4).foldl (fun s a =>
    let s := if s.e (gridr a) 6 = n then s.referenceEdge a e else s
    let s := if s.e (gridr a) 10 = n then s.camEdge a else s
    if s.e (gridr a) 2 = n then s.toothEdge a e else s) s

/-! ### Times (R214, R222) -/

/-- R214: no accepted tooth within the due interval, where a regular tooth was due. -/
def State.toothLate (s : State) (a : Nat) : Bool :=
  let x := s.grid a
  match x.teeth, x.revs with
  | t :: u :: _, (z0, _, _) :: _ =>
    let g := s.missingTeeth a
    let regular := decide (¬(g ≠ 0 ∧ t.at_ - z0 + g + 1 = s.teethOf a))
    let now : Int := ((s.gov.ticks * 512 : Nat) : Int)
    s.placed a && regular && decide ((t.edge.count - u.edge.count) * (100 + (s.e (gridr a) 11 : Int)) * ((g : Int) + 1) <
      (now - t.edge.count) * 100 * ((t.at_ - u.at_ : Nat) : Int))
  | _, _ => false

/-- R222: no tooth edge was accepted within Standstill time. -/
def State.stoodStill (s : State) (a : Nat) : Bool :=
  decide (s.gridState a ≠ 0 ∧ s.gridState a ≠ 4 ∧ (s.grid a).idle + tickUs (1000 * s.e (gridr a) 12) ≤ s.gov.ticks)

/-- R222, R223: the grid enters STANDSTILL. -/
def State.standStill (s : State) (a : Nat) : State := ((s.leave a 37).setGridState a 4).setE (gridr a) 0x13 0

/-- R222: Suspend is written. -/
def State.suspendGrid (s : State) (a v : Nat) : State :=
  let s := s.setE (gridr a) 0x0F v
  if v = 1 ∧ s.gridState a ≠ 0 then (s.leave a 39).setGridState a 6
  else if v = 0 ∧ s.gridState a = 6 then s.search a
  else s

/-- R210, R222: the grids at plan start. -/
def State.gridsStart (s : State) : State :=
  (List.range 4).foldl (fun s a =>
    if s.e (gridr a) 1 = 1 then
      ((s.setGrid a { Grid.reset with idle := s.gov.ticks }).search a).setE (gridr a) 0x11 (s.e (gridr a) 0x11 / 8 * 8)
    else s) s

/-- R210: the grids at a plan stop. -/
def State.gridsStop (s : State) : State :=
  (List.range 4).foldl (fun s a => ((s.setGrid a Grid.reset).setGridState a 0).gridWarm a) s

/-- R220: a step of domain 0 falls between the last tooth and the next. -/
def State.stepGrids (s : State) : State :=
  (List.range 4).foldl (fun s a => if s.gridState a = 0 then s else s.setGrid a { s.grid a with seam := true }) s

end Sys2Proof.Machine
end

