-- ==== Sys2Proof/Machine/PlanCheck.lean ====
section
/-! DEFINITION. PLAN_CHECK (R248 to R253) with the predictors and references of R270 and R272, the 0960 conditions of
R467 and the T-port resource of R361; the Run checks of R177 and R396; and the live margins of R254 and R255. Rates
are exact fractions. -/

namespace Sys2Proof.Machine

/-! ### Fractions -/

/-- Sum of two fractions with positive denominators, in lowest terms. -/
def qadd (a b : Nat × Nat) : Nat × Nat :=
  let n := a.1 * b.2 + b.1 * a.2
  let d := a.2 * b.2
  let g := max 1 (Nat.gcd n d)
  (n / g, d / g)

/-- Sum of a list of fractions. -/
def qsum (l : List (Nat × Nat)) : Nat × Nat := l.foldl qadd (0, 1)

/-- Product of a fraction and a whole number. -/
def qmul (a : Nat × Nat) (n : Nat) : Nat × Nat := (a.1 * n, a.2)

/-- Order of fractions. -/
def qle (a b : Nat × Nat) : Bool := decide (a.1 * b.2 ≤ b.1 * a.2)

/-- A fraction rounded to a whole number (R151; DESIGN CHOICE, log entry 31). -/
def qround (a : Nat × Nat) : Nat := (rne (a.1 : Int) a.2).toNat

/-- A fraction rounded up. -/
def qceil (a : Nat × Nat) : Nat := ceilDiv a.1 a.2

/-! ### Rates and budgets of a stream (R234, R240, R475) -/

/-- R234: input rate of a stream in S/s. -/
def State.inputRate (s : State) (n : Nat) : Nat × Nat :=
  if s.srcKind n = 1 then (s.rate n, 1)
  else if s.srcKind n = 2 then s.pointRate (s.src n)
  else if s.tap n < 3 then s.tapRate (s.src n) (s.tap n)
  else if s.gridOf n < 4 then s.pointRate (s.gridOf n)
  else (s.rate n, 1)

/-- R234: output rate of a stream. -/
def State.outputRate (s : State) (n : Nat) : Nat × Nat :=
  let r := s.inputRate n
  (r.1, r.2 * s.window n)

/-- R240, R475: budget size of one output, in bits. -/
def State.budgetSize (s : State) (n : Nat) : Nat :=
  if s.legacy n then 19
  else (if s.format n = 2 then 128 else if s.format n = 1 then 40 else 32) + (if s.onAngle n then 160 else 0)

/-- Twice the budget size with the block headers of R267, which a 0960 stream's size holds already (R249). -/
def State.budget2 (s : State) (n : Nat) : Nat := 2 * s.budgetSize n + (if s.legacy n then 0 else 3)

/-! ### References (R272) -/

/-- A stream resolves references: P3 or P4, or P5 where Table 10-5 admits them. -/
def State.resolves (s : State) (n : Nat) : Bool := s.aligned n && decide (3 ≤ s.e (strm n) 12 ∧ s.e (strm n) 12 ≤ 5)

/-- Stream `m` may be a reference of stream `n` from a channel. -/
def State.mayRefer (s : State) (n m chan : Nat) : Bool :=
  decide (s.srcKind m = 0 ∧ s.src m = chan ∧ s.e (strm m) 12 ≤ 2) &&
  [4, 5, 6, 7, 8, 10, 11, 16].all (fun i => decide (s.e (strm m) i = s.e (strm n) i))

/-- R272: reference `j` of a stream, 0xFFFF where unused. -/
def State.resolve (s : State) (n j : Nat) : Nat :=
  if s.resolves n then
    let c := s.e (0x2400 + s.src n) (0x1F + j)
    if c = 0xFFFF then 0xFFFF else (s.enabledStreams.find? (fun m => s.mayRefer n m c)).getD 0xFFFF
  else 0xFFFF

/-! ### The checks of a stream (Table 09-5) -/

/-- R211: a Sail that a grid uses. -/
def State.sailServes (s : State) (n : Nat) : Bool :=
  decide (s.e (sail n) 1 ≠ 0 ∧ s.e (sail n) 2 ≠ 0 ∧ s.e (sail n) 4 = 1 ∧ (s.e (sail n) 3 = 1 ∨ s.e (sail n) 3 = 2))

/-- Table 08-2: the geometry that a reference kind permits. -/
def State.geometryOk (s : State) (a : Nat) : Bool :=
  let z := s.teethOf a
  let g := s.missingTeeth a
  if s.refKind a = 0 then decide ((g = 1 ∨ g = 2) ∧ g + 4 ≤ z)
  else if s.refKind a = 1 then decide (g = 0 ∧ 1 ≤ z ∧ z ≤ 1024)
  else decide (g = 0 ∧ z = 1)

/-- R211, R212, R220: what a plan needs of a grid. -/
def State.gridOk (s : State) (a : Nat) : Bool :=
  decide (s.e (gridr a) 1 = 1) && s.sailServes (s.e (gridr a) 2) &&
  (decide (s.refKind a ≠ 1) || s.sailServes (s.e (gridr a) 6)) &&
  (!s.hasCam a || s.sailServes (s.e (gridr a) 10)) && s.geometryOk a && qle (s.pointRate a) (1250000, 1)

/-- Table 09-2: the fields of a stream form one of the combinations. -/
def State.combination (s : State) (n : Nat) : Bool :=
  if s.srcKind n = 0 then
    decide (s.format n ≤ 1) &&
    (if s.tap n < 3 then decide (s.gridOf n = 0xFF ∧ s.rate n = 0)
     else if s.gridOf n < 4 then decide (s.rate n = 0)
     else decide (1 ≤ s.rate n ∧ s.rate n ≤ 1250000))
  else if s.srcKind n = 1 then decide (s.src n < 8 ∧ 1 ≤ s.rate n ∧ s.rate n ≤ 1250000 ∧ s.format n = 2 ∧ s.red n = 0)
  else decide (s.gridOf n = s.src n ∧ s.src n < 4 ∧ s.rate n = 0 ∧ s.format n = 1 ∧ s.red n ≠ 2 ∧ s.red n ≠ 6)

/-- R270, R272: the stream accepts its predictor. -/
def State.predictorOk (s : State) (n : Nat) : Bool :=
  let p := s.e (strm n) 12
  if s.srcKind n = 1 then decide (p = 0)
  else if s.aligned n then decide (p ≤ 2 ∨ p = 5) || (List.range 4).any (fun j => decide (s.resolve n j ≠ 0xFFFF))
  else decide (p ≤ 2 ∨ p = 5)

/-- R467: a 0960 stream keeps Table 17-1. -/
def State.legacyOk (s : State) (n : Nat) : Bool :=
  let r := s.ratio (s.src n) (s.tap n)
  let t := s.rawPeriod (s.src n)
  decide (s.srcKind n = 0 ∧ s.tap n ≤ 2 ∧ s.gridOf n = 0xFF ∧ s.rate n = 0 ∧ s.red n = 0 ∧ s.format n = 0) &&
  decide (s.e (strm n) 12 = 1 ∧ s.e (strm n) 13 ≤ 7 ∧ s.e (strm n) 14 = 0 ∧ ¬ s.classY n) &&
  decide (r = 2 ^ Nat.log2 r ∧ r ≤ 16777216 ∧ s.trigger (grp (s.src n)) = 0) &&
  decide (t.1 * r ≤ 33554431 * fuNs * t.2)

/-- Table 09-5: the first reason, in the order of the codes, for which a stream is refused; 0 for none. -/
def State.streamReason (s : State) (n : Nat) : Nat :=
  let c := s.src n
  let chan := decide (s.srcKind n = 0)
  let al := s.aligned n
  let f := s.rate n
  let fm := s.tapRate c 2
  let w := s.window n
  let onGrid := al && decide (s.gridOf n < 4)
  let a := if s.srcKind n = 2 then s.src n else s.gridOf n
  if chan && !s.chanPresent c then 1
  else if (chan && !s.converted c) || (decide (s.srcKind n = 1) && decide (s.e (sail c) 2 = 0)) then 2
  else if !s.combination n || !s.predictorOk n then 3
  else if !qle (s.outputRate n) (1250000, 1) then 4
  else if s.onTime n && !(qle (f, 1) fm && qle fm (4 * f, 1)) then 5
  else if al && decide (s.trigger (grp c) ≠ 0) then 6
  else if chan && decide (s.tap n = 4) && decide (s.e (0x2800 + c) 10 = 0) then 7
  else if (onGrid || decide (s.srcKind n = 2)) && (!s.gridOk a || (onGrid && !qle (s.pointRate a) fm)) then 8
  else if decide (s.red n ≠ 0) &&
      ((s.onTime n && decide (f % w ≠ 0)) || ((onGrid || decide (s.srcKind n = 2)) && decide (s.pointsPer a % w ≠ 0))) then 9
  else if s.legacy n && !s.legacyOk n then 10
  else 0

/-! ### Resources (Table 09-4, R361) -/

/-- Channels that the groups of a list convert. -/
def State.convertedIn (s : State) (gs : List Nat) : List Nat := gs.flatMap s.convertedOf

/-- Groups of a port die. -/
def State.groupsOfDie (s : State) (d : Nat) : List Nat := (List.range s.groupCount).filter (fun g => decide (dieOfGroup g = d))

/-- The enabled streams at tap 4, with the references aligned for them counted again (R175, R249). -/
def State.withReferences (s : State) (rate : Nat → Nat × Nat) : List (Nat × Nat) :=
  (s.enabledStreams.filter (fun n => decide (s.srcKind n = 0 ∧ s.tap n = 4))).map
    (fun n => if (s.refChan (s.src n)).isSome then qmul (rate n) 2 else rate n)

/-- Table 09-4: the resources of the Intake region with their loads and capacities in band 0 and band 1. -/
def State.intakeLoads (s : State) : List (Nat × (Nat × Nat) × Nat × Nat) :=
  let st := s.enabledStreams
  let gs := s.usedGroups
  let raw := fun g => qsum ((s.convertedOf g).map s.rawRate)
  let fm := fun c => s.tapRate c 2
  let al := st.filter s.aligned
  let grids := (List.range 4).filter (fun a => decide (s.e (gridr a) 1 = 1))
  let refs := (s.enabledStreams.filter (fun n => decide (s.srcKind n = 0 ∧ s.tap n = 4) && (s.refChan (s.src n)).isSome))
  [(0, qsum (st.map s.outputRate), 32000000, 18000000)] ++
  [0, 1].map (fun d => (0x100 + d, qsum ((s.groupsOfDie d).map raw), 320000000, 192000000)) ++
  gs.map (fun g => (0x200 + g, raw g, 10000000, 6000000)) ++
  gs.map (fun g => (0x300 + g, qsum ((s.convertedOf g).map (fun c => qmul (fm c) (s.firL c))), 200000000, 120000000)) ++
  gs.map (fun g => (0x400 + g,
    qsum (((s.convertedOf g).filter (fun c => decide (s.e (0x2800 + c) 6 ≠ 0))).map fm), 2500000, 1500000)) ++
  [(0x500, qsum (s.withReferences s.outputRate), 16000000, 9600000),
   (0x501, qsum (al.map s.inputRate ++ refs.map s.inputRate ++ grids.map s.pointRate), 40000000, 24000000),
   (0x502, qsum ((st.filter (fun n => decide (s.red n ≠ 0))).map s.inputRate), 64000000, 38400000)]

/-- Insertion by descending output rate, ties in stream order (R250). -/
def insertRate (x : Nat × Nat × Nat) : List (Nat × Nat × Nat) → List (Nat × Nat × Nat)
  | [] => [x]
  | y :: t => if qle x.2 y.2 then y :: insertRate x t else x :: y :: t

/-- Index of the least-loaded engine, ties to the lowest number. -/
def leastLoaded (l : List (Nat × Nat)) : Nat :=
  (List.range l.length).foldl (fun b i => if qle (l.getD b (0, 1)) (l.getD i (0, 1)) then b else i) 0

/-- R250: the engine of every enabled stream, and the loads of the four engines. -/
def State.engines (s : State) : List (Nat × Nat) × List (Nat × Nat) :=
  let order := s.enabledStreams.foldl (fun l n => insertRate (n, s.outputRate n) l) []
  order.foldl (fun a x =>
    let e := leastLoaded a.2
    (a.1 ++ [(x.1, e)], a.2.set e (qadd (a.2.getD e (0, 1)) x.2))) ([], List.replicate 4 (0, 1))

/-- The Screed engines. -/
def State.screedLoads (s : State) : List (Nat × (Nat × Nat) × Nat × Nat) :=
  let l := s.engines.2
  (List.range 4).map (fun e => (0x600 + e, l.getD e (0, 1), 10000000, 6000000))

/-- Hopper access, in bytes/s: twice the output rate times the budget size with block headers, over 8. -/
def State.hopperLoad (s : State) : List (Nat × (Nat × Nat) × Nat × Nat) :=
  let t := qsum (s.enabledStreams.map (fun n => qmul (s.outputRate n) (s.budget2 n)))
  [(0x700, (t.1, t.2 * 8), 1024000000, 614400000)]

/-- R125: check results of a group's channels per second (DEDUCED, log entry 31). -/
def State.checkRate (s : State) (g : Nat) : Nat × Nat :=
  let p := s.np g * slotFu
  qsum ((s.convertedOf g).map (fun c =>
    let k := ((s.entries g).filter (fun w => decide (entryKind w = 2 ∧ entryChan g w = c))).length
    let i := (fuMs (s.e (0x2400 + c) 18)).toNat
    if k = 0 ∨ ¬ s.checksOn c then (0, 1)
    else if i < p then (k * 5000000, max 1 (s.np g)) else (5000000, max 1 (s.np g * (i / p)))))

/-- Table 13-5: raw words per second of the T port at its agreed rate; nothing while no rate is agreed. -/
def State.tCapacity (s : State) : Option Nat :=
  match s.e (lp 4) 3 with
  | 0 => some 140000000
  | 1 => some 225000000
  | 2 => some 280000000
  | 3 => some 360000000
  | _ => none

/-- R361: in Ladder operation, the raw words of the T port; anchors count at burst starts (R357). -/
def State.tLoad (s : State) : List (Nat × (Nat × Nat) × Nat × Nat) :=
  if s.ladder then
    match s.tCapacity with
    | none => []
    | some cap =>
      let gs := s.usedGroups
      let raw := (s.convertedIn gs).map s.rawRate
      let anchors := (gs.filter (fun g => decide (s.trigger g ≠ 0))).map
        (fun g => (3 * 5000000, max 1 (s.np g * s.e (0x2700 + g) 4)))
      [(0x800, qsum (raw ++ gs.map s.checkRate ++ anchors), cap, cap)]
  else []

/-- Every resource in the order of Table 09-4, that of R361 last. -/
def State.loads (s : State) : List (Nat × (Nat × Nat) × Nat × Nat) :=
  s.intakeLoads ++ s.screedLoads ++ s.hopperLoad ++ s.tLoad

/-- The capacity that holds at the assumed voltage band. -/
def State.capacity (s : State) (r : Nat × (Nat × Nat) × Nat × Nat) : Nat := if s.e 0x2D00 10 = 0 then r.2.2.1 else r.2.2.2

/-- R248: a resource's load exceeds its capacity less Required headroom. -/
def State.overloaded (s : State) (r : Nat × (Nat × Nat) × Nat × Nat) : Bool :=
  !qle (qmul r.2.1 1000) (s.capacity r * (1000 - s.e 0x3100 11), 1)

/-- Load of a resource in per mille of a capacity, rounded up. -/
def perMille (l : Nat × Nat) (cap : Nat) : Nat := ceilDiv (l.1 * 1000) (l.2 * cap)

/-! ### The verdict (R251, R252) -/

/-- What PLAN_CHECK finds first: reason, stream, resource. Grids that no stream uses come between streams and
resources (R212, R220). -/
def State.checkFault (s : State) : Option (Nat × Nat × Nat) :=
  match (s.enabledStreams.map (fun n => (n, s.streamReason n))).find? (fun p => decide (p.2 ≠ 0)) with
  | some p => some (p.2, p.1, 0xFFFF)
  | none =>
    if (List.range 4).any (fun a => decide (s.e (gridr a) 1 = 1) && !s.gridOk a) then some (8, 0xFFFF, 0xFFFF)
    else match s.loads.find? s.overloaded with
      | some r => some (11, 0xFFFF, r.1)
      | none => none

/-- R252: the reports of one enabled stream, its references included (R272). -/
def State.reportStream (s : State) (n engine : Nat) : State :=
  let i := strm n
  let s := ((s.setE i 0x14 (qround (qmul (s.outputRate n) 1000000) % 2 ^ 64)).setE i 0x15 (s.budgetSize n)).setE i 0x16 engine
  [0, 1, 2, 3].foldl (fun s j => s.setE i (0x18 + j) (s.resolve n j)) s

/-- R176: planned load of a Millstone, in per mille of Table 06-5: the larger of the input and the FIR share. -/
def State.millLoad (s : State) (g : Nat) : Nat :=
  let raw := qsum ((s.convertedOf g).map s.rawRate)
  let fir := qsum ((s.convertedOf g).map (fun c => qmul (s.tapRate c 2) (s.firL c)))
  max (perMille raw 10000000) (perMille fir 200000000)

/-- R250, R252: what the fault that PLAN_CHECK found, or none, leaves in the verdict's entries. -/
def State.verdict (s : State) (fault : Option (Nat × Nat × Nat)) : State :=
  match fault with
  | some (r, n, x) => (((s.setE 0x3100 0x11 2).setE 0x3100 0x12 r).setE 0x3100 0x13 n).setE 0x3100 0x14 x
  | none =>
    let st := s.enabledStreams
    let out := qsum (st.map s.outputRate)
    let bits := qsum (st.map (fun n => qmul (s.outputRate n) (s.budget2 n)))
    let e := s.engines.1
    let s := (((s.setE 0x3100 0x11 1).setE 0x3100 0x12 0).setE 0x3100 0x13 0xFFFF).setE 0x3100 0x14 0xFFFF
    let s := (s.setE 0x3100 6 (qround out % 2 ^ 32)).setE 0x3100 7 (qround (bits.1, bits.2 * 2) % 2 ^ 64)
    let s := (List.range s.groupCount).foldl (fun s g => s.setE (0x2700 + g) 0x26 (s.millLoad g)) s
    e.foldl (fun s p => s.reportStream p.1 p.2) s

/-- R251, R252: the verdict is written with its reports. -/
def State.writeVerdict (s : State) : State :=
  let s := s.setE 0x3100 0x15 s.stamp
  s.verdict s.checkFault

/-! ### Progress (R253) -/

/-- R253: progress for a number of streams and resources checked. -/
def State.checkedPermille (s : State) (k : Nat) : Nat := 1000 * k / (s.enabledStreams.length + 10)

/-- R253: streams and resources that PLAN_CHECK has checked when it finds a fault; all of them when it finds none. -/
def State.checkedUpTo (s : State) (fault : Option (Nat × Nat × Nat)) : Nat :=
  let n := s.enabledStreams.length
  match fault with
  | none => n + 10
  | some (_, 0xFFFF, 0xFFFF) => n
  | some (_, 0xFFFF, r) => n + min 10 ((s.loads.findIdx (fun l => decide (l.1 = r))) + 1)
  | some (_, m, _) => s.enabledStreams.findIdx (fun k => decide (k = m)) + 1

/-- R253: PLAN_CHECK goes on while it runs; the spec does not say how far it is at what time (DESIGN CHOICE, log
entry 4). -/
def State.checkAdvances (s : State) : State :=
  let n := s.enabledStreams.length
  let now := ceilDiv (s.e (opr 0x20) 3 * (n + 10)) 1000
  let k := now + (Config.progress s.freeCtr).toNat % (n + 11 - now)
  (s.opProgress 0x20 (s.checkedPermille k) (s.enabledStreams.getD k 0xFFFF)).fresh

/-! ### Run checks (R122, R177, R396) -/

/-- R177: the first channel that fails Table 06-6: its group and reason. -/
def State.millFault (s : State) : Option (Nat × Nat) :=
  ((s.convertedIn s.usedGroups).map (fun c => (grp c,
    if s.firSet c ≠ 0xFF ∧ s.e (0x2C00 + s.firSet c) 3 = 0 then 10
    else match s.refChan c with
      | some r => if s.converted r ∧ s.trigger (grp r) = 0 then 0 else 11
      | none => 0))).find? (fun p => decide (p.2 ≠ 0))

/-- R396: the first enabled trip whose reaction time exceeds its limit: its number and reason 12. -/
def State.reactionFault (s : State) : Option (Nat × Nat) :=
  ((List.range 8).find? (fun n => s.tripOn n && decide (s.e (tripr n) 7 ≠ 0 ∧ s.e (tripr n) 7 < s.e (tripr n) 8))).map
    (fun n => (n, 12))

/-- R122, R177, R396 in order: what Plan fault group and reason report, nothing when the checks pass. -/
def State.runFault (s : State) : Option (Nat × Nat) :=
  match s.planFault with
  | some p => some p
  | none => match s.millFault with
    | some p => some p
    | none => s.reactionFault

/-! ### Live margins (R254, R255) -/

/-- The largest planned load of a list of resources, in per mille. -/
def State.largest (s : State) (l : List (Nat × (Nat × Nat) × Nat × Nat)) : Nat :=
  maxNat (l.map (fun r => perMille r.2.1 (s.capacity r)))

/-- R254: the margin of a load at a Pace, as an I16; a Pace of 0 leaves none. -/
def marginOf (load pace : Nat) : Int :=
  if load = 0 then 1000 else if pace = 0 then -32768 else max (-32768) (1000 - (ceilDiv (1000 * load) pace : Nat))

/-- R255: one margin of a region: PACE_LOW bit and runs of measurements. -/
def State.paceRegion (s : State) (i sub : Nat) (margin : Int) : State :=
  let s := s.setE 0x2D00 sub (unsigned 16 margin)
  let low := if margin < 100 then min 100 (Tbl.get 0 s.power.lowRuns i + 1) else 0
  let high := if 150 ≤ margin then min 100 (Tbl.get 0 s.power.highRuns i + 1) else 0
  let s := { s with power := { s.power with
    lowRuns := Tbl.set 0 s.power.lowRuns i low, highRuns := Tbl.set 0 s.power.highRuns i high } }
  if 3 ≤ low ∧ ¬ s.flagged 0x2D00 9 i then s.paceBit i
  else if 100 ≤ high then s.flag 0x2D00 9 i false else s

/-- R254: the Pace of the three regions is measured. -/
def State.paceMeasured (s : State) (intake screed hopper : Nat) : State :=
  let m := fun (l : List (Nat × (Nat × Nat) × Nat × Nat)) p => if s.planState = 0 then 1000 else marginOf (s.largest l) p
  let a := m s.intakeLoads intake
  let b := m s.screedLoads screed
  let c := m s.hopperLoad hopper
  let s := ((s.setE 0x2D00 1 intake).setE 0x2D00 3 screed).setE 0x2D00 5 hopper
  ((s.paceRegion 0 2 a).paceRegion 1 4 b).paceRegion 2 6 c

end Sys2Proof.Machine
end

