-- ==== Sys2Proof/Machine/Power.lean ====
section
/-! DEFINITION. Power states and resets (R443 to R465): the transitions of Table 16-5, what each reset keeps and loses
(Table 16-8), the measurements of R446 and Sounding's sweep (R136 to R141), which a transition aborts. -/

namespace Sys2Proof.Machine

/-! ### What a reset loses (R424, R465) -/

/-- Survival class of an entry. -/
def survOf (key : Nat) : Surv :=
  match rowAt (key / 256) (key % 256) with
  | some r => r.surv
  | none => .none

/-- W entries that state a condition which Table 16-8 keeps through a warm reset: ports, enumeration and role, and
what is measured again before the hub is in Idle (DEDUCED, log entry 32). -/
def keptW (key : Nat) : Bool :=
  let idx := key / 256
  let sub := key % 256
  decide (idx = 0x1200 ∧ (sub = 2 ∨ (0x10 ≤ sub ∧ sub ≤ 0x17))) || decide (idx = 0x1500 ∧ sub ≤ 2) ||
  decide (idx = 0x2690 ∧ 2 ≤ sub ∧ sub ≤ 5) || decide (0x2600 ≤ idx ∧ idx < 0x2680 ∧ sub = 0x0E) ||
  decide (idx = 0x3500 ∧ (sub = 1 ∨ sub = 3 ∨ sub = 4)) ||
  decide (0x3510 ≤ idx ∧ idx ≤ 0x3514 ∧ ((2 ≤ sub ∧ sub ≤ 7 ∧ sub ≠ 4) ∨ sub = 0x13)) ||
  decide (idx = 0x3600 ∧ (sub = 1 ∨ sub = 2)) || decide (idx = 0x3810 ∧ (sub = 2 ∨ sub = 4))

/-- The state entries of the domains, which R53 sets at a reset. -/
def domainEntry (key : Nat) : Bool :=
  decide (0x2301 ≤ key / 256 ∧ key / 256 ≤ 0x2304 ∧ 7 ≤ key % 256 ∧ key % 256 ≤ 11)

/-- Keep the entries of a kind. -/
def State.keepE (s : State) (keep : Nat → Bool) : State := { s with dict := s.dict.filter (fun p => keep p.1) }

/-- A front end whose region restarts: what its port die holds stays. -/
def Chan.restart (c : Chan) : Chan := { Chan.reset with iepeOpen := c.iepeOpen, iepeFolded := c.iepeFolded }

/-- The state of the Intake, Screed and Control regions is lost. -/
def State.regionsLost (s : State) : State :=
  let s := { s with
    chans := Tbl.map Chan.reset (fun _ c => c.restart) s.chans
    windows := [], groups := [], evtFire := [], tones := [], mills := [], streams := [], grids := [], cmps := []
    blanks := [], svc := Svc.reset }
  [0, 1, 2, 3].foldl State.takeBlank s.sailsLost

/-! ### Power-on, pin and watchdog reset, Dormant wake (R452, R457) -/

/-- Restart marker kind of a reset kind (R457). -/
def restartKind (kind : Nat) : Nat := if kind = 1 then 1 else if kind = 3 then 3 else 2

/-- R53, R443: only a power-on loses the Governor; the operating hours count on from their restored value (R375). -/
def State.governorReset (s : State) (kind : Nat) : State :=
  let t := s.domainsKept
  if kind = 1 then { s with gov := Gov.reset } else { t with gov := { t.gov with hourTick := s.gov.ticks } }

/-- A reset that runs the start of R447. Ports that are on discharge (R81); a power-on loses the Governor too. The faults
of 0x3810.04 latch until a power-on or pin reset (R379, R399, R401). -/
def State.hardReset (s : State) (kind : Nat) : State :=
  let s := (s.pinsLow).allOff
  let s := s.governorReset kind
  let latched := if kind = 1 ∨ kind = 2 then 0 else s.e 0x3810 4 / 2 % 16 * 2
  let s := s.keepE (fun k => decide (kind ≠ 1) && (decide (survOf k = .G) || domainEntry k))
  let xs := Tbl.map XPort.reset
    (fun _ x => { XPort.reset with discharging := x.discharging, dischargeFail := x.dischargeFail }) s.xports
  let s := { s with
    blobs := [], chans := [], xports := xs, orders := 0, blanks := [], windows := [], groups := [], evtFire := []
    tones := [], mills := [], dieTemps := [], sails := [], sailCal := false, grids := [], streams := []
    hop := Hop.reset (restartKind kind), leat := Leat.reset, svc := Svc.reset, twin := Twin.reset, inputs := []
    cmps := [], trips := [], scrims := [], safeOn := false, safeTicks := 0, log := MarkQueue.empty
    flash := { Flash.reset with copies := s.flash.copies }
    power := { Power.reset with phase := if kind = 1 then .awaitPll else .awaitStart, kind := kind }
    pins := { s.pins with twrqN := true, twrqEnd := 0, pps := if kind = 1 then false else s.pins.pps } }
  ((s.setE 0x3810 4 latched).setE 0x1200 5 kind).setE 0x1200 2 4

/-- R453: RESET_N low, or a TAP instruction (R501), holds the hub: trips low, ports discharging, N, NX, S and SX idle;
nothing else happens. -/
def State.hold (s : State) : State :=
  let s := (s.safetyStop).allOff
  let s := [0, 1, 2, 3].foldl State.portOff' s
  { s with power := { s.power with phase := .held, trans := .none, deferred := [], replay := false } }

/-! ### Excitation at the power states (R459, R502, R504) -/

/-- A rail of the port's die is out of range. -/
def State.railOut (s : State) (g : Nat) : Bool := if dieOfGroup g = 0 then s.power.railA else s.power.railB

/-- Ports may be driven: the member is not in listen mode (R86) and not in Still (R460). -/
def State.mayDrive (s : State) : Bool := !s.listening && decide (s.powerState ≠ 2)

/-- Every port with Output enable 1 comes on again, after its test, where its die's rails hold. -/
def State.excitationBack (s : State) : State :=
  if s.listening then s else (s.allPorts.filter (fun g => !s.railOut g)).foldl State.comeOn s

/-! ### Transitions (R458 to R461) -/

/-- Set the transition in progress. -/
def State.setTrans (s : State) (t : Transition) : State := { s with power := { s.power with trans := t } }

/-- R364: the active mirrors a power-state entry to its ready standby. -/
def State.mirrorStop (s : State) (target : Nat) : State :=
  if s.feeds then s.twinCmd 4 (toBytes 1 target ++ [0]) else s

/-- R459: the hub is in Idle. -/
def State.enterIdle (s : State) (fromStill : Bool) : State :=
  let s := (s.setE 0x1200 2 0).setTrans .none
  if s.e 0x1200 7 = 1 then s.allOff.portsWait true
  else if fromStill then (s.portsWait false).excitationBack else s

/-- R460: the hub is in Still: every port discharges. -/
def State.enterStill (s : State) : State := ((s.allOff).setE 0x1200 2 2).setTrans .none

/-- An enabled trip with a comparator term. -/
def State.comparatorTrip (s : State) (n : Nat) : Bool :=
  s.tripOn n && (s.termWords n).any (fun w => decide (w / 8192 = 2))

/-- R460: park the trips that have a comparator term. -/
def State.park (s : State) : State :=
  ((List.range 8).filter s.comparatorTrip).foldl (fun s n =>
    (s.tripTo n 1).setTrip n { (s.tripTo n 1).trip n with parked := true }) s

/-- R460: parking ends at exit from Still; the division counts of prescaled Sails start again (R182). -/
def State.leaveStill (s : State) : State :=
  let s := ((List.range 8).filter (fun n => (s.trip n).parked)).foldl (fun s n =>
    (s.setTrip n { s.trip n with parked := false }).setE (tripr n) 9 (if s.e (tripr n) 3 = 1 then 2 else 1)) s
  (List.range 8).foldl (fun s n => s.setSail n { s.sailRun n with divided := 0 }) s

/-- Encode what the streams of a plan still hold, at most `fuel` rounds (R287). -/
def State.encodeAll : Nat → State → State
  | 0, s => s
  | k + 1, s => State.encodeAll k ((Tbl.keys s.streams).foldl (fun s n => s.blockEncode n 0) s)

/-- R454: the streams close before the regions restart. A block that finds no room is dropped with its gap (R306). -/
def State.drainStreams (s : State) : State :=
  let rounds := sumNat ((Tbl.keys s.streams).map (fun n => (s.stream n).closed.length))
  let s := State.encodeAll rounds s
  (Tbl.keys s.streams).foldl (fun s n =>
    let left := (s.stream n).closed
    let s := s.setStream n { s.stream n with closed := [] }
    ((left.foldl (fun s b => s.dropBlock n b) s)).tryStop n) s

/-- Entries that describe what the Hopper holds and where its queues stand, which a twin-commanded reset empties; its
counters are kept (chapter 11, "Object dictionary entries"). -/
def hopperContent (k : Nat) : Bool :=
  let sub := k % 256
  (decide (k / 256 = 0x3400) && [1, 4, 5, 0x0A, 0x0D].contains sub) ||
  (decide (0x3410 ≤ k / 256 ∧ k / 256 < 0x3418) && (decide (1 ≤ sub ∧ sub ≤ 7) || decide (sub = 0x0D)))

/-- R454 steps 3 and 4, R456: the warm or twin-commanded reset itself. -/
def State.warmDone (s : State) (twin : Bool) : State :=
  let s := (s.drainStreams).pinsLow
  let s := s.domainsKept
  let s := s.keepE (fun k =>
    (decide (survOf k ≠ .W) || keptW k || domainEntry k) && !(twin && hopperContent k))
  let s := { s with blobs := s.blobs.filter (fun p => decide (survOf p.1 ≠ Surv.W)) }
  let s := s.regionsLost
  let s := { s with flash := { s.flash with snapshot := none, since := [], staged := none, install := none, testing := none } }
  let s := if twin then
      ({ s with hop := { Hop.reset 1 with restartDue := none }, twin := { s.twin with parts := [], items := [], words := [] } }.allOff).setRole 1
    else s.rewindAll
  let s := { s with power := { s.power with
    trans := .none, skewBad := 0, skewGood := 0, tempBad := 0, tempGood := 0, lowRuns := [], highRuns := [] } }
  let s := ((s.setE 0x1200 5 (if twin then 5 else 4)).setE 0x1200 2 0)
  (s.safetyStart).sailsStart

/-- A transition that waits for the plan to stop goes on once it has. -/
def State.settlePower (s : State) : State :=
  let s := if s.planState = 2 ∧ s.allStopped then s.planDone else s
  if s.planState ≠ 0 then s
  else match s.power.trans with
    | .toIdle => s.enterIdle false
    | .toStill => s.enterStill
    | .warm twin => s.warmDone twin
    | _ => s

/-- R102, R141, R210: leave Run, or do at once what the transition asks for. A start that was awaited is given up. -/
def State.beginStop (s : State) (t : Transition) : State :=
  let s := ((s.abortSweep 1).planStop.gridsStop).setTrans t
  (s.setE 0x1200 2 4).settlePower

/-- R461: the hub is in Dormant. A port that still has frames of this hub to send, such as the WRITE_DONE of the command,
powers down once they have gone (DEDUCED, log entry 46). -/
def State.enterDormant (s : State) : State :=
  let s := (s.safetyStop).allOff
  let s := [0, 1, 2, 3, 4].foldl (fun s p => if s.up p ∧ (s.port p).control ≠ [] then s else s.portOff' p) s
  let s := ([0, 1, 2, 3].filter (fun d => s.chainDomain d && decide (1 ≤ s.domState d ∧ s.domState d ≤ 3))).foldl State.holdover s
  let s := (s.sailsLost).setE 0x1200 2 3
  { s with power := { s.power with phase := .dormant, trans := .none } }

/-- R461: a frame boundary of a port that powers down on the way into Dormant. -/
def State.dormantBoundary (s : State) (p : Nat) : State :=
  match (s.port p).control with
  | [] => s.portOff' p
  | f :: r =>
    if (s.port p).fits f then (s.setPort p { s.port p with control := r }).transmit p f true else s.portOff' p

/-- R454: a warm reset begins. The transaction of a Run command that waits is discarded (R253). -/
def State.beginWarm (s : State) (twin : Bool) : State :=
  let s := if s.pairing then (s.opAbort 0x40 4).dropPairing else s
  let s := if twin then s else s.mirrorStop 0
  let s := { s with svc := Svc.reset }.setE 0x1300 1 0
  ((s.opsReset).beginStop (.warm twin))

/-! ### The Power command -/

/-- A transition between power states is in progress. -/
def State.inTransition (s : State) : Bool := decide (s.powerState = 4)

/-- A Run command awaits PLAN_CHECK (R253). -/
def State.runAwaited (s : State) : Bool := match s.power.trans with | .check _ => true | _ => false

/-- Table 16-5, R364, R458: what refuses a Power command before its own conditions; 0 for nothing. A Run command that
awaits PLAN_CHECK counts as a transition in progress (DEDUCED, log entry 30); another Run meets R253. -/
def State.powerRefusal (s : State) (v : Nat) : Nat :=
  let cur := s.powerState
  let ok := decide ((cur = 0 ∧ (v = 1 ∨ v = 2 ∨ v = 3)) ∨ (cur = 1 ∧ (v = 0 ∨ v = 2)) ∨ (cur = 2 ∧ (v = 0 ∨ v = 3)))
  if !s.inTransition && !ok then 0x03000003
  else if s.listening then 0x03000007
  else if s.inTransition || (s.runAwaited && decide (v ≠ 1)) then 0x04000004
  else 0

/-- R122, R177, R396, R430, R446, R458: the tests of a Run command; their reports are written. -/
def State.runTests (s : State) : Nat × State :=
  let s := s.reactions
  if s.flagged 0x1200 0x0E 1 then (0x05000006, s)
  else match s.runFault with
    | some p => (0x05000007, (s.setE 0x2790 4 p.1).setE 0x2790 5 p.2)
    | none =>
      let s := (s.setE 0x2790 4 0xFF).setE 0x2790 5 0
      if s.running 0x20 then (0x06000001, s) else if s.running 0x11 then (0x06000002, s) else (0, s)

/-- PLAN_CHECK starts (R431); its position is the first stream to be checked (R253). -/
def State.startCheck (s : State) : State :=
  let s := s.opStart 0x20
  s.opProgress 0x20 0 (s.enabledStreams.headD 0xFFFF)

/-- R253, R363: an accepted Run command aborts TWIN_PAIR and starts PLAN_CHECK; its answer is owed. -/
def State.beginRun (s : State) (txn : Nat) : State :=
  let s := if s.pairing then (s.opAbort 0x40 4).dropPairing else s
  s.startCheck.setTrans (.check txn)

/-- R99, R364, R459: a Run command passed: S is fixed, the standby is told, the ports come on again, and in Run
the plan start is awaited. -/
def State.runPassed (s : State) : State :=
  let s := s.fixStart
  let s := if s.feeds then s.twinCmd 3 (toBytes 12 (s.e 0x2790 3)) else s
  (((s.portsWait false).excitationBack).setE 0x1200 2 1).setTrans .start

/-- R248, R253: what becomes of a Run command once PLAN_CHECK has ended; `passed` says with verdict 1. -/
def State.runVerdict (s : State) (passed : Bool) : State :=
  match s.power.trans with
  | .check txn =>
    let s := s.setTrans .none
    if !passed then s.answer txn 0x05000007
    else if s.listening then s.answer txn 0x03000007
    else if s.flagged 0x1200 0x0E 1 then s.answer txn 0x05000006
    else s.runPassed.answer txn 0
  | _ => s

/-- R100, R299, R222, R236: the plan starts at S, once what the run before left is out (R287). A member that took over in
Idle still owes its source changes (R369). -/
def State.planBegins (s : State) : State :=
  let at_ := s.planStart
  let s := s.drainStreams
  let owed := s.streams.filterMap (fun p => p.2.sourceChange.map (fun x => (p.1, { Stream.reset with sourceChange := some (x.1, x.2.1, 0) })))
  let s := { s with groups := [], streams := owed, evtFire := [], twin := { s.twin.wordsAnew with anchorDue := [] } }
  let s := ((s.setE 0x1200 2 1).setTrans .none).setE 0x2790 1 1
  let s := s.restartMarkers at_
  let s := s.enabledStreams.foldl State.startStream s
  let s := (s.convertedIn s.usedGroups).foldl State.startChan s
  let s := (List.range s.groupCount).foldl (fun s g => s.startGroup g at_) s
  let s := s.gridsStart
  (List.range 8).foldl (fun s n => (s.sailTake n).sailRetry n) s

/-- The plan start instant has come, and what the run before left has been encoded (R287). -/
def State.startDue (s : State) : Bool :=
  decide (s.power.trans = .start) && decide (s.planStart ≤ s.now) &&
  (Tbl.keys s.streams).all (fun n => decide ((s.stream n).closed = [] ∧ (s.stream n).stopAt = none))

/-- R446, R502: the plan is stopped as on entry to Idle. -/
def State.stopForRails (s : State) : State :=
  if s.powerState = 1 then (s.mirrorStop 0).beginStop .toIdle else s

/-! ### Measurements (R446, R255) -/

/-- R446: neighbouring core rails lie within 200 mV. -/
def railsNear (m : RailReading) : Bool :=
  let near := fun (a b : BitVec 16) => decide (a.toNat ≤ b.toNat + 200 ∧ b.toNat ≤ a.toNat + 200)
  near m.vcInt m.vcScr && near m.vcScr m.vcHop && near m.vcHop m.vcCtl && near m.vcCtl m.vcInt && near m.vcCtl m.vcScr

/-- R446: the port dies lie within 45 K of the core die; an absent die does not count. -/
def diesNear (m : RailReading) (mb : Bool) : Bool :=
  let near := fun (a : BitVec 16) => decide ((a.toInt - m.tCore.toInt).natAbs ≤ 450)
  near m.tA && (mb || near m.tB)

/-- R446: a condition that two bad measurements set and ten good ones clear: the runs after one more. -/
def runsAfter (good : Bool) (bad ok : Nat) : Nat × Nat := if good then (0, min 10 (ok + 1)) else (min 2 (bad + 1), 0)

/-- R446, R255: every 1 ms. -/
def State.railsMeasured (s : State) (m : RailReading) : State :=
  let vs := [(0x10, m.vcInt.toNat), (0x11, m.vcScr.toNat), (0x12, m.vcHop.toNat), (0x13, m.vcCtl.toNat),
    (0x14, m.vddLt.toNat), (0x15, m.tCore.toNat), (0x16, m.tA.toNat), (0x17, if s.pins.mb then 0x8000 else m.tB.toNat)]
  let s := vs.foldl (fun s v => s.setE 0x1200 v.1 v.2) s
  let r := runsAfter (railsNear m) s.power.skewBad s.power.skewGood
  let t := runsAfter (diesNear m s.pins.mb) s.power.tempBad s.power.tempGood
  let s := { s with power := { s.power with skewBad := r.1, skewGood := r.2, tempBad := t.1, tempGood := t.2 } }
  let s : State := if 2 ≤ t.1 then s.flag 0x1200 0x0E 2 true else if 10 ≤ t.2 then s.flag 0x1200 0x0E 2 false else s
  let low := decide (m.vcInt.toNat < 720 ∨ m.vcScr.toNat < 720 ∨ m.vcHop.toNat < 720 ∨ m.vcCtl.toNat < 720)
  let s : State := if s.e 0x2D00 10 = 0 ∧ low then s.paceBit 4 else s
  if 2 ≤ r.1 then (s.flag 0x1200 0x0E 1 true).stopForRails
  else if 10 ≤ r.2 then s.flag 0x1200 0x0E 1 false else s

/-! ### Sounding (R136 to R141) -/

/-- R136: a channel can be sounded. -/
def State.soundable (s : State) (c : Nat) : Bool :=
  let m := s.e (0x2400 + c) 1
  let r := s.rawRate c
  s.chanPresent c && decide (m ≠ 0 ∧ m ≠ 4) && decide (s.trigger (grp c) = 0) && !s.interleaved (grp c) &&
  decide (8 * s.e 0x2698 1 * r.2 ≤ r.1) && !s.listening && decide (s.powerState = 1)

/-- Write a channel's result, with the instant at which it became final. -/
def State.soundResult (s : State) (c v : Nat) : State := (s.setE (0x2400 + c) 0x1B v).setE (0x2400 + c) 0x1E s.stamp

/-- The next channel of a die: those that cannot be sounded are SKIPPED on the way. -/
def State.soundNext (s : State) (die : Nat) : State := go s (s.tone die).todo
where
  /-- the rest of the list -/
  go (s : State) : List Nat → State
    | [] => s.setTone die { Tone.reset with sweep := (s.tone die).sweep }
    | c :: r =>
      if s.soundable c then (s.setTone die { s.tone die with todo := r }).toneStart die c else go (s.soundResult c 5) r

/-- Channels of the sweep whose result is not final; that of a channel whose tone falls early belongs to a sweep that has
ended (R141). -/
def State.soundLeft (s : State) : List Nat :=
  [0, 1].flatMap (fun d => (if (s.tone d).cancelled then [] else (s.tone d).chan.toList) ++ (s.tone d).todo)

/-- R140: progress and position, of the channels that the sweep began with; with no channel left the sweep is complete. -/
def State.soundProgress (s : State) : State :=
  let total := max (s.tone 0).sweep (s.tone 1).sweep
  let left := s.soundLeft
  match left with
  | [] => s.opDone 0x21 0
  | c :: r => s.opProgress 0x21 (1000 * (total - left.length) / max 1 total) (r.foldl min c)

/-- A die's part of a sweep; a tone that an earlier sweep left falling falls on first (R141). -/
def State.sweepDie (s : State) (die total : Nat) (cs : List Nat) : State :=
  let t := s.tone die
  if t.chan.isSome then s.setTone die { t with todo := cs, sweep := total }
  else (s.setTone die { Tone.reset with todo := cs, sweep := total }).soundNext die

/-- R139: the sweep starts on both dies. -/
def State.startSweep (s : State) : State :=
  let lo := s.e 0x2698 5
  let all := (List.range (s.e 0x2698 6 + 1 - lo)).map (lo + ·)
  let part := fun (d : Nat) => all.filter (fun c => decide (dieOf c = d))
  ((((s.opStart 0x21).sweepDie 0 all.length (part 0))).sweepDie 1 all.length (part 1)).soundProgress

/-- Table 05-3: the result of an estimate over the hold phase of the tone; a wire found open meanwhile gives NOISY or HIGH
(R142). -/
def State.soundVerdict (s : State) (c : Nat) (t : Tone) (z : SoundingEstimate) : Nat :=
  let m := z.re.toInt * z.re.toInt + z.im.toInt * z.im.toInt
  let lo := s.e (0x2400 + c) 0x19
  let hi := s.e (0x2400 + c) 0x1A
  if t.samples < 4 * t.leftOut ∨ z.noisyError then 4
  else if z.saturated ∨ t.broke ∨ ((hi * hi : Nat) : Int) < m then 3
  else if m < ((lo * lo : Nat) : Int) then 2
  else 1

/-- R139, R141: the tone of a die has fallen: its channel's result is written, CANCELLED where the tone fell early, and
the die goes on. -/
def State.soundDone (s : State) (die : Nat) (z : SoundingEstimate) : State :=
  let t := s.tone die
  match t.chan with
  | none => s
  | some c =>
    let clip := fun (x : BitVec 32) => unsigned 32 (max (-0x7FFFFFFF) x.toInt)
    let s := if t.cancelled then s.soundResult c 6
      else ((s.soundResult c (s.soundVerdict c t z)).setE (0x2400 + c) 0x1C (clip z.re)).setE (0x2400 + c) 0x1D (clip z.im)
    let s := s.soundNext die
    if s.e (opr 0x21) 2 = 1 then s.soundProgress else s

/-- R433: a cancelled sweep stops once no tone stands. -/
def State.sweepStopped (s : State) : Bool := decide ((s.tone 0).chan = none ∧ (s.tone 1).chan = none)

end Sys2Proof.Machine
end

