-- ==== Sys2Proof/Machine/Entry.lean ====
section
/-! DEFINITION. The tests of an access in the order of R420, up to the conflict of a value with another entry. Each
test says by its abort code what it refuses, and 0 when it passes. -/

namespace Sys2Proof.Machine

/-- The first of two tests that refuses. -/
def orElse (a b : Nat) : Nat := if a = 0 then b else a

/-- A test that refuses with a code. -/
def refuseIf (b : Bool) (code : Nat) : Nat := if b then code else 0

/-- An index lies in a run of records. -/
def inRun (idx base count : Nat) : Bool := decide (base ≤ idx ∧ idx < base + count)

/-! ### Steps 1 and 2: object, subindex, number limit, presence -/

/-- R420 step 1. -/
def State.existence (_ : State) (idx sub : Nat) : Nat :=
  match objAt idx with
  | none => 0x02000001
  | some o => refuseIf (!(decide (sub = 0 ∨ sub = 0xFF) || o.rows.any (fun r => decide (r.lo ≤ sub ∧ sub ≤ r.hi)))) 0x02000002

/-- R34, R210, R402: a value that names a time domain, an angle grid or a connection beyond the limit. -/
def State.numberLimit (s : State) (idx sub v : Nat) : Bool :=
  let strmE := inRun idx 0x4000 16384
  let n := idx - 0x4000
  (strmE && decide ((sub = 5 ∧ 4 ≤ v ∧ v ≠ 0xFF) ∨ (sub = 3 ∧ s.srcKind n = 2 ∧ 4 ≤ v) ∨ (sub = 2 ∧ v = 2 ∧ 4 ≤ s.src n))) ||
  decide (idx = 0x2307 ∧ sub = 2 ∧ 4 ≤ v) || (inRun idx 0x3B00 64 && decide (sub = 4 ∧ 64 ≤ v))

/-- R423: the record of an absent channel, port, group or Millstone. -/
def State.absentRecord (s : State) (idx : Nat) : Bool :=
  s.pins.mb && (inRun idx 0x2500 256 || inRun idx 0x2640 64 || inRun idx 0x2740 64 || inRun idx 0x2900 256 || inRun idx 0x2B00 256)

/-- R2: a value that assigns an absent channel to a stream source, a neighbour, a comparator or a temperature
reference. -/
def State.namesAbsent (s : State) (idx sub v : Nat) : Bool :=
  let gone := fun (c : Nat) => decide (c < 512) && !s.chanPresent c
  (inRun idx 0x4000 16384 && ((decide (sub = 3 ∧ s.srcKind (idx - 0x4000) = 0) && gone v) ||
    (decide (sub = 2 ∧ v = 0) && gone (s.src (idx - 0x4000))))) ||
  (inRun idx 0x2400 512 && decide (0x1F ≤ sub ∧ sub ≤ 0x22) && gone v) ||
  (inRun idx 0x3A00 256 && decide (sub = 2) && gone v) || (inRun idx 0x2800 512 && decide (sub = 11) && gone v)

/-! ### Step 3: access, seal, power state, writer, long operation, role -/

/-- Access kind of an entry. -/
def accOf (idx sub : Nat) : Acc :=
  match rowAt idx sub with
  | some r => r.acc
  | none => .ro

/-- R253: entries that PLAN_CHECK reads. -/
def heldByCheck (idx sub : Nat) : Bool :=
  (inRun idx 0x2400 512 && decide (0x1F ≤ sub ∧ sub ≤ 0x22)) || inRun idx 0x2700 0x91 || inRun idx 0x2800 512 ||
  inRun idx 0x2C00 32 || decide (idx = 0x2D00 ∧ sub = 10) || inRun idx 0x2E00 0x14 || inRun idx 0x2F00 4 ||
  decide (idx = 0x3100 ∧ (sub = 2 ∨ sub = 11)) || decide (idx = 0x3514 ∧ sub = 1) || inRun idx 0x4000 16384

/-- R422: the access kind, the seal and the power state; for commands, the states in which their own chapter permits
them (Table 15-8, R216). -/
def State.stateTest (s : State) (idx sub : Nat) : Nat :=
  let acc := accOf idx sub
  let p := s.powerState
  let start := inRun idx 0x1410 0x31 && decide (sub = 1)
  let code := idx - 0x1400
  orElse (refuseIf (decide (sub = 0 ∨ sub = 0xFF ∨ acc = .ro) || decide (idx = 0x1500 ∧ sub = 0x10)) 0x03000002)
  (orElse (refuseIf (decide (acc = .rwSeal) && s.sealed) 0x03000004)
  (orElse (refuseIf (decide ((acc = .rwIdle ∨ acc = .rwSeal) ∧ p ≠ 0)) 0x03000003)
  (refuseIf ((start && decide (code ≠ 0x10 ∧ code ≠ 0x12 ∧ p ≠ (if code = 0x21 then 1 else 0))) ||
    (inRun idx 0x2F00 4 && decide (sub = 14 ∧ p ≠ 1))) 0x03000003)))

/-- R36, R196: the entry has another writer. -/
def State.otherWriter (s : State) (idx sub : Nat) : Bool :=
  (inRun idx 0x2301 4 && decide (sub = 3 ∨ sub = 5 ∨ sub = 6) && s.servoOwns (idx - 0x2301)) ||
  (inRun idx 0x2E00 8 && decide (0x10 ≤ sub ∧ sub ≤ 0x12) && (s.sailOwner (idx - 0x2E00)).isSome)

/-- R139, R372, R373, R430, R454, R456: the command is not permitted in the present role; STANDBY_UNPAIRED releases nothing
of its Hopper. -/
def State.wrongRole (s : State) (idx sub v : Nat) : Bool :=
  let active := decide (s.role = 4 ∨ s.role = 5)
  (decide (idx = 0x1200 ∧ sub = 3) && s.listening && decide (s.powerState = 1)) ||
  (decide (idx = 0x1200 ∧ sub = 4) && !active) ||
  (decide (idx = 0x3600 ∧ sub = 3) && (decide (s.role = 0) || (decide (v = 3) && !active))) ||
  (inRun idx 0x3410 8 && decide ((sub = 10 ∨ sub = 11) ∧ s.role = 1)) || (decide (idx = 0x1421 ∧ sub = 1) && s.listening) || (decide (idx = 0x1440 ∧ sub = 1) && !active)

/-- R420 step 3. -/
def State.accessTest (s : State) (idx sub v : Nat) : Nat :=
  let power := if idx = 0x1200 ∧ sub = 1 ∧ v ≤ 3 then s.powerRefusal v else 0
  orElse (s.stateTest idx sub)
  (orElse (refuseIf (decide (power = 0x03000003)) power)
  (orElse (refuseIf (s.otherWriter idx sub) 0x03000005)
  (orElse (refuseIf (s.running 0x20 && heldByCheck idx sub) 0x03000006)
  (orElse (refuseIf (decide (power = 0x03000007)) power)
  (refuseIf (s.wrongRole idx sub v) 0x03000007)))))

/-! ### Step 4: length, range, conflict -/

/-- The length that an entry accepts (R157, R174, R280, R430, Table 15-4). -/
def lengthFits (idx sub n : Nat) : Bool :=
  if inRun idx 0x1410 0x31 && decide (sub = 1) then
    decide (n = (if idx = 0x1412 then 4 else if idx = 0x1430 then 1 else 0))
  else if inRun idx 0x2A00 512 && decide (sub = 0x19) then decide (n = 96)
  else if inRun idx 0x2C00 32 && decide (sub = 1) then decide (3 ≤ n ∧ n ≤ 765 ∧ n % 3 = 0)
  else if inRun idx 0x3200 8 && decide (sub = 1) then decide (n = 17)
  else match rowAt idx sub with
    | some r => decide (n = r.ty.size)
    | none => false

/-- Table 04-1: a slot entry with a defined kind and zeros where the table has zeros. -/
def slotOk (w : Nat) : Bool :=
  match w / 16384 with
  | 0 => decide (w % 16384 < 4)
  | 1 => decide (w % 16384 < 256)
  | 2 => decide (w % 16384 < 4)
  | _ => false

/-- R420: the value lies in the entry's range. -/
def State.inRange (s : State) (idx sub v : Nat) : Bool :=
  match rowAt idx sub with
  | none => false
  | some r =>
    if r.ty = .domain then
      if idx = 0x1412 then decide ((1 ≤ v ∧ v ≤ 6) ∨ v = 0xFFFFFFFF) else if idx = 0x1430 then decide (v ≤ 4) else true
    else
      r.ok.any (fun p => decide (p.1 ≤ r.ty.toInt v ∧ r.ty.toInt v ≤ p.2)) &&
      (decide (r.ty ≠ .time96) || time96Ok v) &&
      !(decide (idx = 0x2301 ∧ sub = 1 ∧ v = 0)) &&
      (!(inRun idx 0x2400 512 && decide (sub = 1)) || decide ((v = 8 → idx % 2 = 0) ∧ (v = 10 → idx % 2 = 1))) &&
      (!(inRun idx 0x2700 128 && decide (0x11 ≤ sub ∧ sub ≤ 0x20)) || slotOk v) &&
      !(inRun idx 0x2700 128 && decide (sub = 5 ∧ v = 1 ∧ idx % 2 = 1)) &&
      !(inRun idx 0x4000 16384 && decide (sub = 3 ∧ s.srcKind (idx - 0x4000) = 1 ∧ 8 ≤ v)) &&
      !(inRun idx 0x4400 15360 && decide (sub = 0x11 ∧ v = 1))

/-- Port mode that a sensor mode needs (Table 03-3). -/
def portModeFor (m : Nat) : Option Nat :=
  if m = 2 ∨ m = 3 then some 1 else if m = 4 then some 3 else if 7 ≤ m ∧ m ≤ 10 then some 2 else none

/-- R61: a sensor mode and a port mode that do not go together. -/
def modesClash (m p : Nat) : Bool :=
  match portModeFor m with
  | some q => decide (q ≠ p)
  | none => false

/-- Conflicts of a channel's entries (R61, R70, R123, R128, R271). -/
def State.channelConflict (s : State) (c sub v : Nat) : Bool :=
  let i := 0x2400 + c
  if sub = 1 then modesClash v (s.e (0x2600 + grp c) 1)
  else if sub = 4 then decide (s.e i 5 < v)
  else if sub = 5 then decide (v < s.e i 4)
  else if sub = 0x11 ∨ sub = 0x14 then decide (v ≠ 0 ∧ s.e i 1 = 4)
  else if 0x1F ≤ sub ∧ sub ≤ 0x22 then
    decide (v ≠ 0xFFFF) && (decide (v = c) || [0x1F, 0x20, 0x21, 0x22].any (fun k => decide (k ≠ sub ∧ s.e i k = v)))
  else false

/-- Channels that name another as their temperature source. -/
def State.usedAsReference (s : State) (c : Nat) : Bool :=
  s.dict.any (fun p => decide (p.1 % 256 = 11 ∧ 0x2800 ≤ p.1 / 256 ∧ p.1 / 256 < 0x2A00 ∧ p.1 / 256 ≠ 0x2800 + c ∧ p.2 = c))

/-- Conflicts of a Millstone's entries (R155, R172). -/
def State.millConflict (s : State) (c sub v : Nat) : Bool :=
  let i := 0x2800 + c
  if sub = 2 then decide (v = 5 ∧ 65536 < s.e i 3)
  else if sub = 3 then decide (s.e i 2 = 5 ∧ 65536 < v)
  else if sub = 11 then decide (v < 512) && (decide (v = c) || (s.refChan v).isSome || s.usedAsReference c)
  else false

/-- Conflicts of a Sail's entries (R182, R194), judged on the settings that the write would leave. -/
def State.sailConflict (s : State) (n sub v : Nat) : Bool :=
  let t := s.setE (sail n) sub v
  let e := t.e (sail n)
  decide (1 ≤ sub ∧ sub ≤ 5) &&
  (decide (1 < e 4 ∧ (e 1 = 2 ∨ e 2 = 2 ∨ e 3 ≠ 1)) || decide ((e 2 = 3 ∨ e 2 = 4) ∧ e 5 ≠ 0xFF))

/-- Conflicts of a stream descriptor's entries (R106, R169, R233). -/
def State.streamConflict (s : State) (n sub v : Nat) : Bool :=
  decide (sub = 4 ∧ s.srcKind n = 0) &&
  ((decide (3 ≤ v) && decide (s.trigger (grp (s.src n)) ≠ 0)) || decide (v = 4 ∧ s.e (0x2800 + s.src n) 10 = 0)) ||
  decide (sub = 2 ∧ v = 1 ∧ 8 ≤ s.src n)

/-- R420: the value conflicts with another entry. -/
def State.conflicts (s : State) (idx sub v : Nat) : Bool :=
  if inRun idx 0x2400 512 then s.channelConflict (idx - 0x2400) sub v
  else if inRun idx 0x2600 128 then
    let g := idx - 0x2600
    if sub = 1 then (List.range 4).any (fun k => modesClash (s.e (0x2400 + 4 * g + k) 1) v)
    else decide (sub = 9 ∧ v = 1 ∧ s.e idx 1 = 0)
  else if inRun idx 0x2681 8 then
    if sub = 3 then decide (s.e idx 4 ≠ 0 ∧ s.e idx 4 < v) else decide (sub = 4 ∧ v ≠ 0 ∧ v < s.e idx 3)
  else if inRun idx 0x2780 4 then
    if sub = 2 then decide (s.e idx 3 < v) else decide (sub = 3 ∧ v < s.e idx 2)
  else if inRun idx 0x2800 512 then s.millConflict (idx - 0x2800) sub v
  else if inRun idx 0x2E00 8 then s.sailConflict (idx - 0x2E00) sub v
  else if inRun idx 0x2F00 4 then
    if sub = 7 then decide (v * 23592960 ≤ s.e idx 9)
    else if sub = 9 then decide (s.e idx 7 * 23592960 ≤ v)
    else decide (sub = 14 ∧ (s.e idx 7 = 1 ∨ s.e idx 10 ≠ 0xFF))
  else if idx = 0x3400 then
    if sub = 2 then decide (s.e idx 3 < v + 1024) else decide (sub = 3 ∧ v < s.e idx 2 + 1024)
  else if inRun idx 0x3820 8 then
    if sub = 4 then decide (v < s.e idx 6 + 20) else decide (sub = 6 ∧ s.e idx 4 < v + 20)
  else if inRun idx 0x3B00 64 then
    if sub = 1 then decide (v = 1) && s.scrimConflict (idx - 0x3B00)
    else if sub = 3 then decide (s.e idx 1 = 1) && (s.setE idx 3 v).scrimConflict (idx - 0x3B00)
    else if sub = 5 then decide (5 * v < s.e idx 6)
    else decide (sub = 6 ∧ 5 * s.e idx 5 < v)
  else if inRun idx 0x4000 16384 then s.streamConflict (idx - 0x4000) sub v
  else if idx = 0x1421 then decide (sub = 1 ∧ s.e 0x2698 6 < s.e 0x2698 5)
  else if idx = 0x3200 ∨ inRun idx 0x3200 8 then false
  else decide (idx = 0x1200 ∧ sub = 1 ∧ v = 3 ∧ s.e 0x1200 11 = 0)

/-- R420 steps 1 to 4 of a write; a restore from flash (R451) leaves out step 3. -/
def State.writeTest (s : State) (restore : Bool) (idx sub : Nat) (data : List Byte) : Nat :=
  let v := ofBytes data
  let fits := lengthFits idx sub data.length
  orElse (s.existence idx sub)
  (orElse (refuseIf (fits && s.numberLimit idx sub v) 0x02000004)
  (orElse (refuseIf (s.absentRecord idx || (fits && s.namesAbsent idx sub v)) 0x02000003)
  (orElse (if restore then 0 else s.accessTest idx sub v)
  (orElse (refuseIf (!fits) 0x04000001)
  (orElse (refuseIf (!s.inRange idx sub v) 0x04000002)
  (refuseIf (s.conflicts idx sub v) 0x04000003))))))

end Sys2Proof.Machine
end

