-- ==== Sys2Proof/Machine/LongOps.lean ====
section
/-! DEFINITION. Long operations: what refuses a start (Table 15-8), persistence to flash (R425 to R429, R449, R450),
LANE_TEST (R330), and cancellation (R433). -/

namespace Sys2Proof.Machine

/-! ### Starts and cancels (R430, R431, R433) -/

/-- Table 15-8: the operations that refuse a start while they run. TWIN_PAIR refuses an on-demand PLAN_CHECK. -/
def refusedBy : Nat → List Nat
  | 0x10 => [0x11, 0x13]
  | 0x11 => [0x10, 0x12, 0x13, 0x20, 0x40]
  | 0x12 => [0x11, 0x13]
  | 0x13 => [0x10, 0x11, 0x12]
  | 0x20 => [0x11, 0x40]
  | 0x40 => [0x11, 0x20]
  | _ => []

/-- The operation uses the flash. -/
def usesFlash (code : Nat) : Bool := decide (code = 0x10 ∨ code = 0x12 ∨ code = 0x13)

/-- Conditions of an operation's own chapter (R330, R362) and of the flash; 0 when they hold. -/
def State.startCondition (s : State) (code arg : Nat) : Nat :=
  if usesFlash code && decide (s.e 0x1500 1 = 0 ∨ s.e 0x1500 1 = 3) then 0x05000008
  else if code = 0x30 && !s.up arg then 0x05000006
  else if code = 0x40 && !(s.mayPair && decide (s.twin.partner = some 1)) then 0x05000006
  else 0

/-- R430: step 5 of R420 for a start, the codes in the order of their classes. -/
def State.startTest (s : State) (code arg : Nat) : Nat :=
  orElse (s.startCondition code arg)
  (orElse (refuseIf (s.running code) 0x06000001)
  (refuseIf ((refusedBy code).any s.running) 0x06000002))

/-- R433, R141: a cancel of an operation; a sweep's tones begin to fall. -/
def State.cancelOp (s : State) (code : Nat) : Nat × State :=
  if s.e (opr code) 2 = 1 then
    let t := s.setE (opr code) 2 2
    (0, if code = 0x21 then [0, 1].foldl State.toneFalls t else t)
  else (0x06000003, s)

/-! ### P entries (R425) -/

/-- Every P entry of the dictionary, in index and subindex order. -/
def pKeys : List Nat :=
  objects.flatMap (fun o => (List.range o.count).flatMap (fun i =>
    (o.rows.filter (fun r => decide (r.surv = .P))).flatMap (fun r => r.subs.map (ekey (o.base + i)))))

/-- An entry of the safety parameter set (R398). -/
def isSafetyKey (key : Nat) : Bool := decide (accOf (key / 256) (key % 256) = .rwSeal)

/-- Insertion into a rising list without repeats. -/
def insertKey (k : Nat) : List Nat → List Nat
  | [] => [k]
  | x :: r => if k < x then k :: x :: r else if k = x then x :: r else x :: insertKey k r

/-- 0x1500.03 counts the entries written since the snapshot or the start. -/
def State.countDirty (s : State) : State := s.setE 0x1500 3 s.flash.dirty.length

/-- R425: an accepted write of a P entry counts; one made while PERSIST runs lies after its snapshot. -/
def State.noteWrite (s : State) (key : Nat) : State :=
  if survOf key = .P then
    let f := s.flash
    { s with flash := { f with
      dirty := insertKey key f.dirty
      since := if f.snapshot.isSome then insertKey key f.since else f.since } }.countDirty
  else s

/-- R425: every entry that RESTORE_DEFAULTS sets counts. -/
def State.noteDefaults (s : State) : State :=
  let keep := fun (old : List Nat) (k : Nat) => !(s.sealed && isSafetyKey k) || old.contains k
  let f := s.flash
  { s with flash := { f with
    dirty := pKeys.filter (keep f.dirty)
    since := if f.snapshot.isSome then pKeys.filter (keep f.since) else f.since } }.countDirty

/-! ### Images (R449, R450) -/

/-- Table 16-2: the image type that carries a P entry. -/
def imageType (key : Nat) : Nat :=
  let idx := key / 256
  if 0x4000 ≤ idx then 2 else if inRun idx 0x2C00 32 then 3 else if inRun idx 0x2A00 512 then 4
  else if inRun idx 0x3200 8 then 5 else if isSafetyKey key then 6 else 1

/-- The bytes of an entry that holds a value; none for an empty byte string. -/
def State.valueBytes (s : State) (key : Nat) : List Byte :=
  match rowAt (key / 256) (key % 256) with
  | none => []
  | some r =>
    if r.ty = .domain then Tbl.get [] s.blobs key
    else toBytes r.ty.size (if key = ekey 0x3600 7 then s.hoursSince else s.e (key / 256) (key % 256))

/-- R427 step 1: the working value of every P entry, by image type. An empty byte string has no record (DESIGN CHOICE, log entry 27). -/
def State.snapshotOf (s : State) : List (Nat × List (Nat × List Byte)) :=
  let all := (pKeys.map (fun k => (k, s.valueBytes k))).filter (fun p => decide (p.2 ≠ []))
  [1, 2, 3, 4, 5, 6].map (fun t => (t, all.filter (fun p => decide (imageType p.1 = t))))

/-- Key of a copy: 0 for copy A, 1 for copy B. -/
def copyKey (type copy : Nat) : Nat := 2 * type + copy

/-- A valid copy. -/
def State.copyOf (s : State) (type copy : Nat) : Option Image := s.flash.copies.lookup (copyKey type copy)

/-- R427 step 2: the copy with the lower generation; with one copy invalid that one, with both copy A. -/
def State.copyToWrite (s : State) (type : Nat) : Nat :=
  match s.copyOf type 0, s.copyOf type 1 with
  | some a, some b => if a.gen ≤ b.gen then 0 else 1
  | some _, none => 1
  | none, _ => 0

/-- R427 step 2: the image header of the copy to be written is erased. -/
def State.eraseCopy (s : State) (type : Nat) : State :=
  { s with flash := { s.flash with copies := Tbl.drop s.flash.copies (copyKey type (s.copyToWrite type)) } }

/-- R427 step 4: the header is written, with generation one above that of the other copy. -/
def State.writeCopy (s : State) (type : Nat) (entries : List (Nat × List Byte)) : State :=
  let c := s.copyToWrite type
  let gen := wrap32 ((match s.copyOf type (1 - c) with | some i => i.gen | none => 0) + 1)
  { s with flash := { s.flash with copies := Tbl.put s.flash.copies (copyKey type c) ⟨gen, entries⟩ } }.setE 0x1500 4 gen

/-- An operation on the flash ends: the flash is ready again, or has failed. -/
def State.flashEnds (s : State) (failed : Bool) : State :=
  { s with flash := { s.flash with snapshot := none, since := [], install := none } }.setE 0x1500 1 (if failed then 3 else 1)

/-! ### PERSIST (R427) -/

/-- PERSIST starts: the snapshot is taken, and the copy to be written of every type is invalid from then on (DESIGN
CHOICE, log entry 27). -/
def State.persistStart (s : State) : State :=
  let s := { s with flash := { s.flash with snapshot := some s.snapshotOf, since := [] } }
  [1, 2, 3, 4, 5, 6].foldl State.eraseCopy ((s.opStart 0x10).setE 0x1500 1 2)

/-- R292: report an image that was decoded: its type, 0 or the code of its first error, and the block of it. -/
def State.imageReport (s : State) (type code block : Nat) : State :=
  ((s.setE 0x3300 0x10 type).setE 0x3300 0x11 code).setE 0x3300 0x12 block

/-- Table 10-7: the code of an error in an image. -/
def decodeCode : DecodeError → Nat
  | .illegalCode => 1 | .distance => 2 | .length => 3 | .header => 4 | .check => 5 | .endCheck => 6

/-- R292: report an error found in an image. -/
def State.reportFound (s : State) (type : Nat) (e : FlashError) : State := s.imageReport type (decodeCode e.code) e.block.toNat

/-- PERSIST ends with a result of Table 15-10, and reports what its read-back test decoded last; 3 is a flash failure,
which aborts it. -/
def State.persistEnd (s : State) (result : Nat) (found : FlashError) : State :=
  if s.e (opr 0x10) 2 ≠ 1 then s
  else match s.flash.snapshot with
    | none => s
    | some images =>
      if result = 0 then
        let since := s.flash.since
        let s := images.foldl (fun s p => s.writeCopy p.1 p.2) s
        let s := ((s.flashEnds false).setE 0x1500 5 s.stamp).bump 0x1500 6
        ({ s with flash := { s.flash with dirty := since } }.countDirty.imageReport 6 0 0xFFFF).opDone 0x10 0
      else if result = 3 then (s.flashEnds true).opAbort 0x10 6
      else
        let s := if result = 2 then s.reportFound found.type found else s
        (s.flashEnds false).opDone 0x10 result

/-! ### IMAGE_TEST and IMAGE_INSTALL (R429) -/

/-- IMAGE_TEST starts. -/
def State.imageTestStart (s : State) (type : Nat) : State :=
  { s.opStart 0x12 with flash := { s.flash with testing := some type } }

/-- An error lies in a copy that IMAGE_TEST tests. -/
def State.tested (s : State) (e : FlashError) : Bool :=
  s.flash.testing = some e.type.val || s.flash.testing = some 0xFFFFFFFF

/-- IMAGE_TEST ends: Table 10-7 code of the first error, 0 for none; R292 reports that error, or the last image. -/
def State.imageTestEnd (s : State) (errors : List FlashError) : State :=
  if s.e (opr 0x12) 2 ≠ 1 then s
  else
    let r := match errors.find? s.tested with
      | some e => (e.type.val, decodeCode e.code, e.block.toNat)
      | none => (min 6 (s.flash.testing.getD 6), 0, 0xFFFF)
    let s := (s.imageReport r.1 r.2.1 r.2.2).opDone 0x12 r.2.1
    { s with flash := { s.flash with testing := none } }

/-- R429: IMAGE_INSTALL tests the staged image; one that fails is not written, and the operation ends with the code of
Table 10-7. -/
def State.imageInstallStart (s : State) : State :=
  let s := s.opStart 0x13
  match decodeImage (s.flash.staged.getD []) with
  | .inl e => (s.imageReport (ofBytes ((s.flash.staged.getD []).take 4)) e.1 e.2).opDone 0x13 e.1
  | .inr (type, gen, content) =>
    if 1 ≤ type ∧ type ≤ 6 then
      let s := s.imageReport type 0 0xFFFF
      let s := { s with flash := { s.flash with install := some (type, ⟨gen, entryRecords content.length content⟩) } }
      (s.eraseCopy type).setE 0x1500 1 2
    else (s.imageReport type 4 0xFFFF).opDone 0x13 4

/-! ### LANE_TEST (R330) -/

/-- R330: a port enters TEST: it sends TRAIN sets, and later PRBS31 from a start that the spec leaves open (log entry 4). -/
def State.enterTest (s : State) (p : Nat) (x : LPort) : State :=
  ((s.setPort p { x with
    since := s.gov.ticks, sets := 0, prbs := ((Config.prbsStart false).toNat, (Config.prbsStart true).toNat) }).setE (lp p) 2 5).setE
    (lp p) 3 0xFF

/-- R330: the hub sends TEST_START. -/
def State.laneTestStart (s : State) (p : Nat) : State :=
  let s := s.opStart 0x30
  let x := s.port p
  s.enterTest p { x with testing := 1, testSecs := s.e (lp p) 0x0E }

/-- The port that LANE_TEST tests, if this hub started it. -/
def State.testedPort (s : State) : Option Nat :=
  [0, 1, 2, 3, 4].find? (fun p => decide ((s.port p).testing = 1 ∨ (s.port p).testing = 2))

/-- R327, R328, R330: a test ends with a result; the counts so far are kept, and the port comes up again: without an accept
it retrains, and after a test it trains anew, a lowered maximum staying. -/
def State.laneTestDone (s : State) (p result bits e0 e1 : Nat) : State :=
  let own := decide ((s.port p).testing = 1 ∨ (s.port p).testing = 2)
  let s := (((s.setE (lp p) 0x0F result).setE (lp p) 0x10 bits).setE (lp p) 0x11 e0).setE (lp p) 0x12 e1
  let s := if result = 3 then (s.setPort p { s.port p with testing := 0 }).retrainPort p else s.train p (s.port p).maxRate
  if !own then s
  else if s.e (opr 0x30) 2 = 2 then s.opCancelled 0x30
  else if s.e (opr 0x30) 2 = 1 then s.opDone 0x30 result
  else s

/-- R432: a port that goes down ends its test. -/
def State.laneTestDown (s : State) (p : Nat) : State :=
  if (s.port p).testing = 1 ∨ (s.port p).testing = 2 then s.opAbort 0x30 5 else s

/-! ### Cancellation takes effect (R433) -/

/-- The operation has reached its stopping point. A lane test ends with its counts (LANE_TEST_END), and a sweep once no
tone stands; the others stop at once. -/
def State.cancelStops (s : State) (code : Nat) : Bool :=
  decide (s.e (opr code) 2 = 2) &&
  (if code = 0x21 then s.sweepStopped else if code = 0x30 then s.testedPort.isNone else true)

/-- What a cancelled operation leaves behind: a copy not completed stays invalid (R433), a standby discards its copy
(R363), and PLAN_CHECK reads verdict 3 (R253). -/
def State.cancelDone (s : State) (code : Nat) : State :=
  if s.cancelStops code then
    let s := s.opCancelled code
    if code = 0x40 then s.dropPairing
    else if code = 0x10 ∨ code = 0x13 then s.flashEnds false
    else if code = 0x12 then { s with flash := { s.flash with testing := none } }
    else if code = 0x20 then (((s.setE 0x3100 0x11 3).setE 0x3100 0x15 s.stamp)).runVerdict false
    else s
  else s

end Sys2Proof.Machine
end

