-- ==== Sys2Proof/Machine/EntryFx.lean ====
section
/-! DEFINITION. What an accepted write does: the resource and condition tests of R420 step 5, the value that is
stored, what follows from it, and the commands that write-only entries give. -/

namespace Sys2Proof.Machine

/-- Outcome of a write: the answer, 0 for WRITE_DONE or an abort code, and the state; nothing where the answer is
owed and comes later (R416). -/
abbrev Ans := Option Nat × State

/-- The write is done. -/
def State.done (s : State) : Ans := (some 0, s)

/-- The write is refused with a code. -/
def State.no (s : State) (code : Nat) : Ans := (some code, s)

/-- A test before an effect. -/
def State.unless (s : State) (bad : Bool) (code : Nat) (t : State) : Ans := if bad then s.no code else t.done

/-- An effect that may find its condition unmet. -/
def State.orRefuse (s : State) (code : Nat) (t : Option State) : Ans :=
  match t with
  | some t => t.done
  | none => s.no code

/-! ### Ports and channels (R72 to R79, R84) -/

/-- R75, R76, R79: a setting of a port's group with the value in place: the class applies whether the port is on or
off, VEXC and the budget only while it is on. A refused port sets its bit. -/
def State.settingTest (s t : State) (g : Nat) : Nat × State :=
  if t.overClass g then (0x05000003, s.flag (0x2600 + g) 10 6 true)
  else if (s.xport g).on then
    match t.enableTest g with
    | none => (0, s)
    | some (code, b) => (code, match b with | some k => s.flag (0x2600 + g) 10 k true | none => s)
  else (0, s)

/-- A setting of a port's group is written; `settles` says that R84 counts it as an excitation change. -/
def State.settingWrite (s t : State) (g : Nat) (settles : Bool) : Ans :=
  let r := s.settingTest t g
  if r.1 ≠ 0 then (some r.1, r.2)
  else
    let t := if settles && (s.xport g).on then t.settle g else t
    (t.reportDissipation (dieOfGroup g)).done

/-- R61, R504: a port whose mode is written while its output is on switches off, and its Output enable reads 0. -/
def State.portModeWrite (s : State) (g v : Nat) : Ans :=
  let i := 0x2600 + g
  let t := s.setE i 1 v
  if t.overClass g then (some 0x05000003, s.flag i 10 6 true)
  else if (s.xport g).on then (((s.portOff g).setE i 9 0).setE i 1 v).done
  else t.done

/-- R72, R504: Output enable is written. In Still, in listen mode and while the die's rails fail the enable is stored,
and the port comes on when the cause ends (DEDUCED, log entry 14). -/
def State.enableWrite (s : State) (g v : Nat) : Ans :=
  let i := 0x2600 + g
  if v = 0 then ((s.setE i 9 0).portOff g).done
  else if (s.xport g).on then (s.setE i 9 1).done
  else match s.enableTest g with
    | some (code, b) => (some code, match b with | some k => s.flag i 10 k true | none => s)
    | none =>
      let t := (s.setE i 9 1).setXport g { s.xport g with waitRun := false }
      if s.mayDrive && !s.railOut g && !(s.xport g).deferred then (t.portOn g).done else t.done

/-- R505: both detectors of a channel are off: an open break ends, and the wire is not checked. -/
def State.detectorsFollow (s : State) (c : Nat) : State :=
  let i := 0x2400 + c
  if s.e i 0x11 = 0 ∧ s.e i 0x14 = 0 then
    (s.setChan c { s.chan c with broken := none, excRun := 0, cleanRun := 0 }).setE i 0x16 2
  else s

/-- A channel's entry is written. -/
def State.channelWrite (s : State) (c sub v : Nat) : Ans :=
  let i := 0x2400 + c
  let t := s.setE i sub v
  if sub = 10 ∨ sub = 11 then s.settingWrite t (grp c) true
  else if sub = 1 then
    let t := if v = 4 then t else (t.setChan c { t.chan c with iepeOpen := false, iepeFolded := false })
    (t.reportDissipation (dieOfGroup (grp c))).done
  else if 2 ≤ sub ∧ sub ≤ 5 then (if s.planState = 0 then t else t.rangeStep c (t.rangeOfSettings c)).done
  else if sub = 8 then (if s.planState = 0 then t else t.startHold c).done
  else if sub = 0x11 ∨ sub = 0x14 then (t.detectorsFollow c).done
  else t.done

/-! ### FIR sets, coefficients and user tables (R158, R160, R174, R280) -/

/-- Channels whose running Millstone names a set (0x2C00.06). -/
def State.setUsers (s : State) (k : Nat) : Nat :=
  ((Tbl.keys s.mills).filter (fun c => (s.mill c).running && decide (s.firSet c = k))).length

/-- Running streams that name a user table (0x3200.04). -/
def State.tableUsers (s : State) (u : Nat) : Nat :=
  ((Tbl.keys s.streams).filter (fun n => decide (s.e (strm n) 0x12 ≠ 0 ∧ s.e (strm n) 13 = 16 + u))).length

/-- R158: DC gain: the sum of the taps as FP32. -/
def dcGain (data : List Byte) : Nat :=
  f32Of (sumInt ((List.range (data.length / 3)).map (fun i => signed 24 (ofBytes ((data.drop (3 * i)).take 3))))) (2 ^ 22)

/-- Replace a byte string. -/
def State.setBlob (s : State) (key : Nat) (data : List Byte) : State := { s with blobs := Tbl.set [] s.blobs key data }

/-- R158: a FIR set is replaced in one step; no taps empty it. -/
def State.loadSet (s : State) (k : Nat) (data : List Byte) : State :=
  let i := 0x2C00 + k
  let s := s.setBlob (ekey i 1) data
  let s := (s.setE i 2 (data.length / 3)).setE i 3 (if data = [] then 0 else 1)
  (s.setE i 4 (if data = [] then 0 else dcGain data)).setE i 5 (if data = [] then 0 else crc32C data)

/-- R280: a user table is replaced; no bytes empty it. -/
def State.loadTable (s : State) (u : Nat) (data : List Byte) : State :=
  let i := 0x3200 + u
  let s := (s.setBlob (ekey i 1) data).setE i 2 (if data = [] then 0 else 1)
  s.setE i 3 (if data = [] then 0 else crc32C data)

/-- R280: code lengths that no canonical code has. -/
def badLengths (data : List Byte) : Bool :=
  let k := kraft (tableLengths data)
  decide (k = 0 ∨ 2 ^ 15 < k)

/-- R174: the 24 coefficients take effect together for outputs whose instant lies after the write. -/
def State.loadBlock (s : State) (c : Nat) (data : List Byte) : State :=
  let m := s.mill c
  let old := (List.range 24).map (fun k => s.e (0x2A00 + c) (1 + k))
  let s := s.setMill c { m with coefOld := m.coefOld ++ [(s.now, old)] }
  (List.range 24).foldl (fun s k => s.setE (0x2A00 + c) (1 + k) (ofBytes ((data.drop (4 * k)).take 4))) s

/-! ### Streams (R230, R233, R466) -/

/-- The Hopper holds an unreleased record of a stream. -/
def State.unreleased (s : State) (n : Nat) : Bool := s.hop.held.any (fun r => decide (r.stream = some n))

/-- R196, R233: with the value in place, two enabled descriptors name one Sail. -/
def State.sailShared (t : State) (n : Nat) : Bool :=
  t.enabled n && decide (t.srcKind n = 1) &&
  t.enabledStreams.any (fun m => decide (m ≠ n ∧ t.srcKind m = 1 ∧ t.src m = t.src n))

/-- A stream descriptor's entry is written. -/
def State.streamWrite (s : State) (n sub v : Nat) : Ans :=
  let t := s.setE (strm n) sub v
  if sub ≤ 3 && t.sailShared n then s.no 0x05000002
  else if sub = 0x11 ∧ v ≠ s.e (strm n) 0x11 ∧ s.unreleased n then s.no 0x05000002
  else t.done

/-- The lowest-numbered descriptor in state 0. -/
def State.freeStream (s : State) : Option Nat :=
  let d := s.defined
  (List.range (min 16384 (d.length + 1))).find? (fun n => !d.contains n)

/-- R230: Allocate. -/
def State.allocate (s : State) : Ans :=
  match s.freeStream with
  | none => s.no 0x05000001
  | some n =>
    let keep := fun (k : Nat) => decide (k / 256 ≠ strm n)
    (((s.keepE keep).setE (strm n) 1 1).setE 0x3100 3 n).done

/-! ### Time domains (R33 to R42, R53) -/

/-- Table 02-2: a domain whose enable or source was written takes the state of its new source. -/
def State.sourceFollow (s : State) (d : Nat) : State :=
  if s.chainDomain d then
    let s := (s.runsAnew d).setDom d { (s.runsAnew d).dom d with lastValid := some s.gov.ticks }
    if s.domState d = 1 ∧ s.servoOn then s.setE (domr d) 7 2 else s
  else
    let s := s.setDom d { s.dom d with xchg := none, newMaster := none }
    if s.domState d = 0 then s else s.setE (domr d) 7 1

/-- A domain's entry is written. -/
def State.domainWrite (s : State) (d sub v : Nat) : Ans :=
  if sub = 3 then (s.setInc d v).done
  else if sub = 1 ∨ sub = 2 then
    let t := s.setE (domr d) sub v
    (if s.chainDomain d = t.chainDomain d then t else t.sourceFollow d).done
  else if sub = 5 then
    let r := s.requestStep d (.setTo (ofTime96 v))
    (some r.1, r.2)
  else if sub = 6 then
    let r := s.requestStep d (.by (signed 64 v))
    (some r.1, r.2)
  else if sub = 0x0D then (s.ackMaster d).done
  else (s.setE (domr d) sub v).done

/-! ### Queues with marks (R197, R301 to R303, R437) -/

/-- Mark, Rewind and Release of a queue with marks; nothing where the mark is not set. -/
def markCommand (q : MarkQueue) (op v : Nat) : Option MarkQueue :=
  if op = 0 then some (q.mark v)
  else (q.markAt v).map (fun p => if op = 1 then q.rewind p else q.release p)

/-- A command to the event log. -/
def State.logCommand (s : State) (op v : Nat) : Ans :=
  s.orRefuse 0x05000006 ((markCommand s.log op v).map (fun q => { s with log := q }))

/-- A command to a Sail queue: room that comes free serves an arming that waits. -/
def State.sailCommand (s : State) (n op v : Nat) : Ans :=
  s.orRefuse 0x05000006 ((markCommand (s.sailRun n).queue op v).map (fun q =>
    (s.setSail n { s.sailRun n with queue := q }).sailRetry n))

/-- A command to a Hopper queue: 0x3410.08 to .0C. -/
def State.hopperCommand (s : State) (q sub v : Nat) : Ans :=
  if sub = 8 then (s.setMark q v).done
  else if sub = 9 then s.orRefuse 0x05000006 (s.rewindMark q v)
  else if sub = 10 then s.orRefuse 0x05000006 (s.releaseMark q v)
  else if sub = 11 then
    let r := s.releaseThrough q v
    if r.2 then (some 0x05000006, r.1) else r.1.done
  else s.orRefuse 0x04000002 (s.rewindQueue q v)

/-! ### Sails and grids (R189, R216, R222) -/

/-- A Sail's entry is written. -/
def State.sailWrite (s : State) (n sub v : Nat) : Ans :=
  if 0x10 ≤ sub ∧ sub ≤ 0x12 then s.sailCommand n (sub - 0x10) v
  else if sub = 0x0C then
    if s.sailGate n ≠ 0x10 ∨ ¬(s.sailMode n = 1 ∨ s.sailMode n = 2) ∨ (s.sailRun n).armed then s.no 0x05000006
    else if s.sailRoom n then (s.sailOpen n).done
    else (some 0x05000006, s.sailOpen n)
  else if sub ≤ 10 then ((s.setE (sail n) sub v).sailStart n).done
  else (s.setE (sail n) sub v).done

/-- A grid's entry is written. -/
def State.gridWrite (s : State) (a sub v : Nat) : Ans :=
  if sub = 14 then (s.setGrid a { s.grid a with flip := true }).done
  else if sub = 15 then (s.suspendGrid a v).done
  else (s.setE (gridr a) sub v).done

/-! ### Leat (R320, R327, R432) -/

/-- R353: the T port's Port enable is written while the hub runs: without it the hub is single, and its ports come on
again if it was a standby; with it a single hub goes on as ACTIVE_ALONE (DEDUCED, log entry 33). -/
def State.ladderFollow (s : State) (v : Nat) : State :=
  if v = 1 then { s.setRole 5 with twin := { Twin.reset with since := s.gov.ticks } }
  else
    let t := { (s.setRole 0).setE 0x3600 2 0 with twin := Twin.reset }
    if s.listening ∧ t.mayDrive then t.excitationBack else t

/-- R327: Port enable is written: bring-up starts, or the lanes power down, and the queues that the port carries go
back to mark 0 (R303). A port that is under test ends its test (R432). Any write ends a lowered maximum (R328). -/
def State.portEnable (s : State) (p v : Nat) : State :=
  let was := s.e (lp p) 1
  let t := s.setE (lp p) 1 v
  if was = v then t.setPort p { t.port p with maxRate := none }
  else
    let t := if p = 4 then (t.laneTestDown p).ladderFollow v else t.laneTestDown p
    if v = 1 then t.train p none
    else
      let t := if t.carries p then t.rewindAll else t
      if s.up p then (t.portOff' p).pathDown p else t.portOff' p

/-! ### Power and roles (R372, R373, R458 to R461) -/

/-- Table 16-5: the Power command. -/
def State.powerCommand (s : State) (txn v : Nat) : Ans :=
  if s.powerRefusal v ≠ 0 then s.no (s.powerRefusal v)
  else if v = 1 then
    let r := s.runTests
    if r.1 = 0 then (none, r.2.beginRun txn) else (some r.1, r.2)
  else if v = 0 then
    if s.powerState = 2 then (((s.mirrorStop 0).leaveStill).enterIdle true).done
    else ((s.mirrorStop 0).beginStop .toIdle).done
  else if v = 2 then
    if (List.range 8).any s.comparatorTrip ∧ s.e 0x1200 8 = 0 then s.no 0x05000006
    else (((s.park).mirrorStop 2).beginStop .toStill).done
  else if s.hop.held ≠ [] ∧ s.e 0x1200 9 = 0 then s.no 0x05000006
  else (none, ((s.mirrorStop 3).answer txn 0).enterDormant)

/-- R454: a write of 1 to Reset command: WRITE_DONE goes first. One that waited for the end of a warm reset starts no
second one. -/
def State.warmCommand (s : State) (txn : Nat) : Ans :=
  if s.power.replay then s.no 0x04000004
  else match s.power.trans with
  | .warm _ => s.no 0x04000004
  | _ => (none, (s.answer txn 0).beginWarm false)

/-- R456: TWRQ_N goes low for 100 µs. -/
def State.partnerReset (s : State) : State :=
  { s with pins := { s.pins with twrqN := false, twrqEnd := s.gov.ticks + tickUs 100 } }

/-- R368, R372: a channel deviates: the comparison is the standby's, whose Twin status the active has from its heartbeat. -/
def State.deviates (s : State) : Bool :=
  if s.role = 3 then s.flagged 0x3600 2 2 else bit s.twin.partnerStatus 2

/-- R372: a planned swap is asked for on either member of a ready pair, while no other swap is pending. The active fixes
its instant; a standby asks its active (DESIGN CHOICE, log entry 41). -/
def State.swapCommand (s : State) (forced : Bool) : Ans :=
  let ready := decide ((s.role = 4 ∧ s.twin.partner = some 3) ∨ (s.role = 3 ∧ s.twin.partner = some 4))
  if !ready ∨ (!forced ∧ s.deviates) then s.no 0x05000006
  else if s.twin.swapAt.isSome then s.no 0x04000004
  else if s.role = 3 then (s.sendSwap s.swapInstant).done
  else s.planSwap.done

/-- R373: step down. -/
def State.stepDownCommand (s : State) : Ans :=
  if s.up 4 then
    match s.twin.partner with
    | some 3 => ((s.twinCmd 1 (toBytes 1 2 ++ zeros 1)).stepDown).done
    | some 4 => s.stepDown.done
    | some 5 => s.stepDown.done
    | none => s.stepDown.done
    | _ => s.no 0x05000006
  else s.stepDown.done

/-! ### Long operations (R430) -/

/-- R139, R248, R330, R363, R427, R429: an operation starts. RESTORE_DEFAULTS sets its entries in Machine/Restore. -/
def State.opBegin (s : State) (code arg : Nat) : State :=
  if code = 0x10 then s.persistStart
  else if code = 0x12 then s.imageTestStart arg
  else if code = 0x13 then s.imageInstallStart
  else if code = 0x20 then s.startCheck
  else if code = 0x21 then s.startSweep
  else if code = 0x30 then s.laneTestStart arg
  else if code = 0x40 then (s.opStart 0x40).startPairing
  else s.opStart code

/-- A write to the record of an operation. -/
def State.opWrite (s : State) (code sub v : Nat) : Ans :=
  if sub = 5 then
    let r := s.cancelOp code
    (some r.1, r.2)
  else if s.startTest code v ≠ 0 then s.no (s.startTest code v)
  else (s.opBegin code v).done

/-! ### Safety and Scrim (R386, R391, R402, R406) -/

/-- R386, R391: an acknowledge waits for the tick that applies it; its answer is owed. -/
def State.inputAckWrite (s : State) (i txn : Nat) : Ans :=
  if (s.input i).ack.isSome then s.no 0x04000004 else (none, s.setInput i { s.input i with ack := some txn })

/-- The same for a trip. -/
def State.tripAckWrite (s : State) (n txn : Nat) : Ans :=
  if (s.trip n).ack.isSome then s.no 0x04000004 else (none, s.setTrip n { s.trip n with ack := some txn })

/-- A connection's entry is written. -/
def State.scrimWrite (s : State) (k sub v : Nat) : Ans :=
  let t := s.setE (scr k) sub v
  if sub = 1 ∨ sub = 2 then (t.scrimBegin k).done
  else if sub = 0x0B then (if s.e (scr k) 1 = 1 then s.scrimBegin k else s).done
  else t.done

/-! ### Every entry -/

/-- What an accepted write of a value or a command does (R420 step 5 and after). -/
def State.entryEffect (s : State) (txn idx sub : Nat) (data : List Byte) : Ans :=
  let v := if (rowAt idx sub).any (fun r => decide (r.ty = .time96)) then clean96 (ofBytes data) else ofBytes data
  let t := s.setE idx sub v
  if idx = 0x1200 then
    if sub = 1 then s.powerCommand txn v else if sub = 3 then s.warmCommand txn
    else if sub = 4 then s.partnerReset.done else t.done
  else if inRun idx 0x1410 0x31 then s.opWrite (idx - 0x1400) sub v
  else if idx = 0x1600 ∧ 4 ≤ sub ∧ sub ≤ 6 then s.logCommand (sub - 4) v
  else if idx = 0x2300 then (if sub = 1 then s.setMode v else if sub = 2 then s.setServo v else t).done
  else if inRun idx 0x2301 4 then s.domainWrite (idx - 0x2301) sub v
  else if inRun idx 0x2400 512 then s.channelWrite (idx - 0x2400) sub v
  else if inRun idx 0x2600 128 then
    let g := idx - 0x2600
    if sub = 1 then s.portModeWrite g v
    else if sub = 9 then s.enableWrite g v
    else if 2 ≤ sub ∧ sub ≤ 7 then s.settingWrite t g (decide (sub ≠ 3))
    else t.done
  else if idx = 0x2680 then ([0, 1, 2, 3].foldl State.takeBlank t).done
  else if idx = 0x2690 then
    s.unless (decide (v * 1000000 < s.dieTotal 0 ∨ v * 1000000 < s.dieTotal 1)) 0x05000004 t
  else if inRun idx 0x2A00 512 && decide (sub = 0x19) then (s.loadBlock (idx - 0x2A00) data).done
  else if inRun idx 0x2C00 32 then
    let k := idx - 0x2C00
    s.unless (decide (s.setUsers k ≠ 0)) 0x05000002 (s.loadSet k (if sub = 7 then [] else data))
  else if inRun idx 0x2E00 8 then s.sailWrite (idx - 0x2E00) sub v
  else if inRun idx 0x2E10 4 && decide (sub = 1) then
    (s.gateMode (idx - 0x2E10) v).done
  else if inRun idx 0x2F00 4 then s.gridWrite (idx - 0x2F00) sub v
  else if idx = 0x3100 ∧ sub = 2 then s.allocate
  else if inRun idx 0x3200 8 then
    let u := idx - 0x3200
    if sub = 1 ∧ badLengths data then s.no 0x04000002
    else s.unless (decide (s.tableUsers u ≠ 0)) 0x05000002 (s.loadTable u (if sub = 5 then [] else data))
  else if idx = 0x3400 then t.levels.done
  else if inRun idx 0x3410 8 && decide (8 ≤ sub ∧ sub ≤ 12) then s.hopperCommand (idx - 0x3410) sub v
  else if inRun idx 0x3510 5 then
    let p := idx - 0x3510
    if sub = 1 then (s.portEnable p v).done
    else if sub = 4 then (t.setE idx 0x13 (setBit (t.e idx 0x13) 4 (decide (v ≠ 0xFF)))).done
    else t.done
  else if idx = 0x3600 ∧ sub = 3 then (if v = 3 then s.stepDownCommand else s.swapCommand (decide (v = 2)))
  else if inRun idx 0x3800 16 then (if sub = 6 then s.inputAckWrite (idx - 0x3800) txn else t.done)
  else if inRun idx 0x3820 8 then
    if sub = 0x0B then s.tripAckWrite (idx - 0x3820) txn
    else t.done
  else if inRun idx 0x3A00 256 && decide (sub = 1) then
    ((t.setCmp (idx - 0x3A00) CmpRun.reset).setE idx 0x0A 0).done
  else if inRun idx 0x3B00 64 then s.scrimWrite (idx - 0x3B00) sub v
  else if inRun idx 0x4000 16384 then s.streamWrite (idx - 0x4000) sub v
  else t.done

/-- Entries on which the reaction times of R395 rest. -/
def movesReactions (idx : Nat) : Bool :=
  inRun idx 0x2400 512 || inRun idx 0x2700 0x84 || inRun idx 0x2800 512 || inRun idx 0x2C00 32 || inRun idx 0x3800 0x340

/-- The effect, the entries that R395 derives, and the count of R425. A Start, Clear or Allocate is no write of the P
entries it changes (DEDUCED, log entry 50); a coefficient block writes its 24 coefficients. -/
def State.applyEntry (s : State) (txn idx sub : Nat) (data : List Byte) : Ans :=
  let r := s.entryEffect txn idx sub data
  if r.1 ≠ some 0 then r
  else
    let t := if movesReactions idx then r.2.reactions else r.2
    if inRun idx 0x2A00 512 && decide (sub = 0x19) then
      ((List.range 24).foldl (fun t k => t.noteWrite (ekey idx (1 + k))) t).done
    else (t.noteWrite (ekey idx sub)).done

end Sys2Proof.Machine
end

