-- ==== Sys2Proof/Machine/Restore.lean ====
section
/-! DEFINITION. Restoring flash images (R449 to R451), IMAGE_INSTALL's application of its content (R429), and
RESTORE_DEFAULTS (R428); with them every write has its effect. -/

namespace Sys2Proof.Machine

/-! ### Restoring entries (R451) -/

/-- The hub's own P entry takes a value; the operating hours count on from it (R375). -/
def State.setOwn (s : State) (idx sub v : Nat) : State :=
  let s := s.setE idx sub v
  if idx = 0x3600 ∧ sub = 7 then { s with gov := { s.gov with hourTick := s.gov.ticks } } else s

/-- R451: an entry of an image is applied as a write; nothing where the value is refused. A P entry that the host may
only read takes its stored value (DEDUCED, log entry 28). While the hub starts, bring-up waits for step 5 of R447. -/
def State.restoreEntry (s : State) (starting : Bool) (p : Nat × List Byte) : Option State :=
  let idx := p.1 / 256
  let sub := p.1 % 256
  if accOf idx sub = .ro then
    if lengthFits idx sub p.2.length then some (s.setOwn idx sub (ofBytes p.2)) else none
  else if s.writeTest true idx sub p.2 ≠ 0 then none
  else if starting && inRun idx 0x3510 5 && decide (sub = 1) then some (s.setE idx sub (ofBytes p.2))
  else
    let r := s.entryEffect 0 idx sub p.2
    if r.1 = some 0 then some r.2 else none

/-- Apply entries in order: the state, the entries set aside, oldest first, and the entries applied. -/
def State.restoreList (s : State) (starting : Bool) : List (Nat × List Byte) → State × List (Nat × List Byte) × List Nat
  | [] => (s, [], [])
  | p :: r =>
    match s.restoreEntry starting p with
    | some t => let x := t.restoreList starting r; (x.1, x.2.1, p.1 :: x.2.2)
    | none => let x := s.restoreList starting r; (x.1, p :: x.2.1, x.2.2)

/-- R451: further passes over the entries set aside, as long as a pass applies at least one. -/
def State.restorePasses : Nat → State → Bool → List (Nat × List Byte) → State × List (Nat × List Byte) × List Nat
  | 0, s, _, aside => (s, aside, [])
  | k + 1, s, starting, aside =>
    let x := s.restoreList starting aside
    if x.2.2 = [] then x
    else let y := State.restorePasses k x.1 starting x.2.1; (y.1, y.2.1, x.2.2 ++ y.2.2)

/-- Insertion of an entry by key. -/
def insertEntry (p : Nat × List Byte) : List (Nat × List Byte) → List (Nat × List Byte)
  | [] => [p]
  | x :: r => if p.1 ≤ x.1 then p :: x :: r else x :: insertEntry p r

/-- R451: the entries of one or more images, in their order: the state and the entries applied. Entries that the hub
does not know, and those still refused after the last pass, are skipped and counted. -/
def State.restoreImages (s : State) (starting : Bool) (entries : List (Nat × List Byte)) : State × List Nat :=
  let known := entries.filter (fun p => decide (survOf p.1 = .P))
  let x := s.restoreList starting known
  let y := State.restorePasses (x.2.1.length + 1) x.1 starting (x.2.1.foldr insertEntry [])
  (y.1.bump 0x1200 0x0F (entries.length - known.length + y.2.1.length), x.2.2 ++ y.2.2)

/-! ### The start (R449) -/

/-- R449: the copy that a start takes of a type: 0 for A, 1 for B, nothing where both are rejected or absent. -/
def State.copyTaken (s : State) (errors : List FlashError) (type : Nat) : Option (Nat × Image) :=
  let ok := fun (c : Nat) => !errors.any (fun e => decide (e.type.val = type ∧ e.copyB = decide (c = 1)))
  let a := if ok 0 then s.copyOf type 0 else none
  let b := if ok 1 then s.copyOf type 1 else none
  match a, b with
  | some x, some y => if x.gen < y.gen then some (1, y) else some (0, x)
  | some x, none => some (0, x)
  | none, some y => some (1, y)
  | none, none => none

/-- R292: reports of the copies of a type that a start decodes, the higher generation first, until one is accepted. -/
def State.decodeReports (s : State) (errors : List FlashError) (type : Nat) : State :=
  let gen := fun (c : Nat) => match s.copyOf type c with | some i => i.gen + 1 | none => 0
  let order := (if gen 0 < gen 1 then [1, 0] else [0, 1]).filter (fun c => decide (gen c ≠ 0))
  match order with
  | [] => s
  | c :: r =>
    match errors.find? (fun e => decide (e.type.val = type ∧ e.copyB = decide (c = 1))) with
    | none => s.imageReport type 0 0xFFFF
    | some e => match r with
      | [] => s.reportFound type e
      | d :: _ => match errors.find? (fun e => decide (e.type.val = type ∧ e.copyB = decide (d = 1))) with
        | none => s.imageReport type 0 0xFFFF
        | some e => s.reportFound type e

/-- R449, R451: restore the images; the sources, RESTORE_FAULT and the generation are reported. -/
def State.restoreStart (s : State) (answers : Bool) (errors : List FlashError) : State :=
  let taken := fun (t : Nat) => if answers then s.copyTaken errors t else none
  let src := sumNat ([1, 2, 3, 4, 5, 6].map (fun t => match taken t with
    | some (c, _) => (c + 1) * 4 ^ (t - 1)
    | none => 0))
  let order := [1, 5, 3, 4, 2, 6].filterMap taken
  let s := ((s.setE 0x1500 1 (if answers then 1 else 0)).setE 0x1500 2 (if answers then Config.flashSize.toNat else 0)).setE 0x1200 0x18 src
  let s := if answers then [1, 5, 3, 4, 2, 6].foldl (fun s t => s.decodeReports errors t) s else s
  let s := if order.length < 6 then s.flag 0x1200 0x0E 0 true else s
  let s := match order.getLast? with | some (_, i) => s.setE 0x1500 4 i.gen | none => s
  (s.restoreImages true (order.flatMap (fun p => p.2.entries))).1

/-! ### IMAGE_INSTALL (R429) -/

/-- IMAGE_INSTALL ends with a result of Table 15-10, and reports what its read-back test decoded; 3 is a flash failure,
which aborts it. -/
def State.installEnd (s : State) (result : Nat) (found : FlashError) : State :=
  if s.e (opr 0x13) 2 ≠ 1 then s
  else match s.flash.install with
    | none => s
    | some (type, image) =>
      if result = 0 then
        let s := (s.writeCopy type image.entries).flashEnds false
        let x := s.restoreImages false image.entries
        let s := x.1
        let s := { s with flash := { s.flash with dirty := s.flash.dirty.filter (fun k => !x.2.contains k) } }
        (((s.countDirty).reactions).imageReport type 0 0xFFFF).opDone 0x13 0
      else if result = 3 then (s.flashEnds true).opAbort 0x13 6
      else
        let s := if result = 2 then s.reportFound type found else s
        (s.flashEnds false).opDone 0x13 result

/-! ### RESTORE_DEFAULTS (R428) -/

/-- A P entry takes its default, with what follows from it. -/
def State.defaultEntry (s : State) (key : Nat) : State :=
  let idx := key / 256
  let sub := key % 256
  if inRun idx 0x2C00 32 then (if sub = 1 then s.loadSet (idx - 0x2C00) [] else s)
  else if inRun idx 0x3200 8 then (if sub = 1 then s.loadTable (idx - 0x3200) [] else s)
  else
    let v := dictDefault key
    let r := s.entryEffect 0 idx sub (toBytes ((rowAt idx sub).elim 0 (fun r => r.ty.size)) v)
    if accOf idx sub = .ro ∨ r.1 ≠ some 0 then s.setE idx sub v else r.2

/-- Every P entry that differs from its default; while the hub is sealed the safety parameter set keeps its values. -/
def State.toDefault (s : State) : List Nat :=
  (Tbl.keys s.dict ++ Tbl.keys s.blobs).filter (fun k => decide (survOf k = .P) && !(s.sealed && isSafetyKey k))

/-- R428: every P entry takes its default and counts as written; the operating hours start again (R375). -/
def State.restoreDefaults (s : State) : State :=
  (((s.toDefault.foldl State.defaultEntry s).setOwn 0x3600 7 0).reactions).noteDefaults

/-! ### Every write -/

/-- An accepted write, RESTORE_DEFAULTS among them. -/
def State.applyWrite (s : State) (txn idx sub : Nat) (data : List Byte) : Ans :=
  if idx = 0x1411 ∧ sub = 1 then
    let code := s.startTest 0x11 0
    if code ≠ 0 then s.no code else ((s.opStart 0x11).restoreDefaults).done
  else s.applyEntry txn idx sub data

end Sys2Proof.Machine
end

