-- ==== Sys2Proof/Machine/Read.lean ====
section
/-! DEFINITION. What a READ returns: values that an entry holds, values derived at the read, bits that clear on read,
and the two pops (R197, R413, R418, R423, R437). -/

namespace Sys2Proof.Machine

/-- Bits as a number, bit 0 first. -/
def bitsNum (l : List Bool) : Nat := sumNat (l.zipIdx.map (fun p => if p.1 then 2 ^ p.2 else 0))

/-! ### Derived values -/

/-- 0x2600.0A: the port's conditions and the IEPE faults of its channels; the refusal bits are held until read. -/
def State.portStatus (s : State) (g : Nat) : Nat :=
  let x := s.xport g
  let held := fun (i : Nat) => s.flagged (0x2600 + g) 10 i
  let iepe := fun (k : Nat) => (s.chan (4 * g + k)).iepeOpen || (s.chan (4 * g + k)).iepeFolded
  bitsNum [x.on, x.discharging, x.dischargeFail, x.currentLimit, x.foldback, x.senseFault, held 6, held 7,
    iepe 0, iepe 1, iepe 2, iepe 3]

/-- 0x3400.0A: RESERVE_IN_USE and MARKERS_WAITING follow the reserve and the Ledger table. -/
def State.hopperStatus (s : State) : Nat :=
  setBit (setBit (s.e 0x3400 10) 2 (decide (0 < s.hop.usedReserve))) 3
    (s.hop.waiting.any (fun w => decide (0x10 ≤ w.body.kind ∧ w.body.kind ≠ 0x14)))

/-- Entries of a Hopper queue (R300 to R303). -/
def State.queueValue (s : State) (q sub : Nat) : Option Nat :=
  let x := s.hq q
  match sub with
  | 1 => some (wrap32 x.depth)
  | 2 => some x.recs.length
  | 3 => some (wrap32 x.bytes)
  | 4 => some (wrap32 x.commit)
  | 5 => some (wrap32 x.read)
  | 6 => some (wrap32 x.release)
  | 7 => some (wrap32 x.front)
  | 13 => some (1 + sumNat (x.marks.map (fun m => 2 ^ m.1)))
  | _ => none

/-- Entries of a Millstone that R161, R162 and R166 give. -/
def State.millValue (s : State) (c sub : Nat) : Option Nat :=
  match sub with
  | 7 => some (s.warmup c 2)
  | 8 =>
    if s.converted c then some (rne ((s.delay2 c 2 * (s.rawPeriod c).1 : Nat) : Int) (2 * (s.rawPeriod c).2)).toNat
    else if s.chanPresent c then some (Config.idleGroupDelay s.freeCtr).toNat else some 0
  | 9 => let r := s.tapRate c 2; some (rne ((r.1 * 1000000 : Nat) : Int) r.2).toNat
  | _ => none

/-- Test progress of LANE_TEST (R330): per mille of the duration elapsed, and the elapsed seconds. -/
def State.laneTestValue (s : State) (sub : Nat) : Option Nat :=
  match s.testedPort with
  | some p =>
    let x := s.port p
    let ticks := if x.testing = 2 then s.gov.ticks - x.since else 0
    if sub = 3 then some (min 1000 (ticks * 1000 / (400000000 * max 1 x.testSecs)))
    else if sub = 4 then some (ticks / 400000000 % 65536)
    else none
  | none => none

/-- An analogue reading (DESIGN CHOICE, log entry 4), no larger than the entry's range. -/
def State.analogue (s : State) (limit : Nat) : Option Nat := some ((Config.reading s.freeCtr).toNat % (limit + 1))

/-- 0x2700.21 (Table 04-8): a group of rotation length 0 is unused, or given to its interleaved partner (R92, R107,
R108); another one is stopped where no plan has it running or waiting. -/
def State.groupState (s : State) (g : Nat) : Nat :=
  if s.rotLen g = 0 then (if g % 2 = 1 ∧ s.interleaved (g - 1) ∧ 0 < s.rotLen (g - 1) then 4 else 0)
  else if s.e (0x2700 + g) 0x21 = 2 ∨ s.e (0x2700 + g) 0x21 = 3 then s.e (0x2700 + g) 0x21 else 1

/-- The value of an entry that follows from other state. -/
def State.derived (s : State) (idx sub : Nat) : Option Nat :=
  if idx = 0x1008 ∧ sub = 1 then some (if s.pins.mb then 2 else 1)
  else if idx = 0x1430 then s.laneTestValue sub
  else if idx = 0x1600 then (if sub = 2 then some s.log.depth else if sub = 3 then some s.log.occupancy else none)
  else if inRun idx 0x2301 4 then (if sub = 4 then some (toTime96 (s.time (idx - 0x2301)))
    else if sub = 8 then some (setBit (s.e idx 8) 2 (s.ocxoWarmup (idx - 0x2301))) else none)
  else if inRun idx 0x2400 512 then
    if sub = 15 then some (if s.chanPresent (idx - 0x2400) then 1 else 0)
    else if sub = 16 ∧ s.chanPresent (idx - 0x2400) then s.analogue 24000
    else none
  else if inRun idx 0x2600 128 then
    let g := idx - 0x2600
    if sub = 10 then some (s.portStatus g)
    else if s.groupCount ≤ g then none
    else if sub = 11 ∨ sub = 12 then s.analogue 28000 else if sub = 13 then s.analogue 40000 else none
  else if inRun idx 0x2700 128 then (if sub = 0x21 then some (s.groupState (idx - 0x2700)) else none)
  else if inRun idx 0x2800 512 then s.millValue (idx - 0x2800) sub
  else if inRun idx 0x2C00 32 then (if sub = 6 then some (s.setUsers (idx - 0x2C00)) else none)
  else if inRun idx 0x2E10 4 then (if sub = 2 then some (if s.gateActive (idx - 0x2E10) then 1 else 0) else none)
  else if inRun idx 0x2E00 8 then
    let n := idx - 0x2E00
    if sub = 14 then some (s.sailRun n).queue.depth
    else if sub = 15 then some (s.sailRun n).queue.occupancy
    else if sub = 0x18 then some (s.sailStatus n)
    else if sub = 0x19 then some (if (s.sailOwner n).isSome then 1 else 0)
    else none
  else if inRun idx 0x2F00 4 then (if sub = 0x18 then some (qround (s.pointRate (idx - 0x2F00)) % 2 ^ 32) else none)
  else if idx = 0x3100 then (if sub = 1 then some s.defined.length else none)
  else if inRun idx 0x3200 8 then (if sub = 4 then some (s.tableUsers (idx - 0x3200)) else none)
  else if idx = 0x3400 then
    if sub = 1 then some s.hop.free else if sub = 4 then some s.hop.freeReserve else if sub = 5 then some s.hop.freeEntries
    else if sub = 10 then some s.hopperStatus else if sub = 13 then some s.hop.eventsWaiting else none
  else if inRun idx 0x3410 8 then s.queueValue (idx - 0x3410) sub
  else if idx = 0x3500 ∧ sub = 10 then some Config.deviceIdentity.toNat
  else if idx = 0x3600 ∧ sub = 7 then some s.hoursSince
  else if idx = 0x3600 ∧ sub = 10 then some s.configDigest
  else if idx = 0x3810 ∧ sub = 3 then some s.safetyDigest
  else if inRun idx 0x3A00 256 then (if sub = 0x0B then some (sat32 (s.cmpReaction (idx - 0x3A00))) else none)
  else none

/-- The entry's value is one of the free readings. -/
def State.isFree (s : State) (idx sub : Nat) : Bool :=
  (inRun idx 0x2400 512 && decide (sub = 16)) || (inRun idx 0x2600 128 && decide (11 ≤ sub ∧ sub ≤ 13)) ||
  (inRun idx 0x2800 512 && decide (sub = 8) && !s.converted (idx - 0x2800))

/-- Bits of an entry that clear on read. -/
def clearMask (idx sub : Nat) : List Nat :=
  if inRun idx 0x2301 4 && decide (sub = 8) then [0, 1, 5]
  else if inRun idx 0x2600 128 && decide (sub = 10) then [6, 7]
  else if idx = 0x2D00 ∧ sub = 9 then [3, 4]
  else if inRun idx 0x2E00 8 && decide (sub = 0x18) then [2, 4]
  else if inRun idx 0x2F00 4 && decide (sub = 0x11) then [3]
  else if idx = 0x3400 ∧ sub = 10 then [4]
  else if idx = 0x3500 ∧ sub = 4 then [3]
  else if idx = 0x3600 ∧ sub = 2 then [7]
  else []

/-- Byte strings that read as zeros while nothing has been stored: a user table, received Scrim data. -/
def blobDefault (idx : Nat) : List Byte :=
  if inRun idx 0x3200 8 then zeros 17 else if inRun idx 0x3B00 64 then zeros 16 else []

/-! ### Reads -/

/-- R432: a read of Progress or Position while an operation runs, where the spec does not say how far it is at what time
(DESIGN CHOICE, log entry 4): Sounding, lane tests and pairing tell it themselves. -/
def State.opAdvances (s : State) (code : Nat) : State :=
  if !s.running code then s
  else if code = 0x20 then s.checkAdvances
  else if code ≤ 0x13 then
    let at_ := s.e (opr code) 3
    let v := (Config.progress s.freeCtr).toNat
    (s.opProgress code (at_ + v / 65536 % (1001 - at_)) (v % 65536)).fresh
  else s

/-- One entry as it reads: its bytes, and the state with the bits cleared that the read clears. -/
def State.readEntry (s : State) (idx sub : Nat) (r : Row) : List Byte × State :=
  if r.ty = .domain then (Tbl.get (blobDefault idx) s.blobs (ekey idx sub), s)
  else
    let s := if inRun idx 0x1410 0x31 && decide (sub = 3 ∨ sub = 4) then s.opAdvances (idx - 0x1400) else s
    let v := (s.derived idx sub).getD (s.e idx sub)
    let t := (clearMask idx sub).foldl (fun t i => t.flag idx sub i false) s
    let t := if idx = 0x3500 ∧ sub = 4 ∧ s.flagged idx sub 3 then t.announce else t
    (toBytes r.ty.size v, if s.isFree idx sub then t.fresh else t)

/-- A pop entry (R418). -/
def isPop (idx sub : Nat) : Bool := decide (idx = 0x1600 ∧ sub = 1) || (inRun idx 0x2E00 8 && decide (sub = 0x0D))

/-- R418: every entry of an object from subindex 0x01 upward; write-only entries and pops give no bytes. -/
def State.readRecord (s : State) (idx : Nat) (o : Obj) : List Byte × State :=
  (o.rows.flatMap (fun r => r.subs.map (fun sub => (r, sub)))).foldl (fun a p =>
    if p.1.acc = .wo || isPop idx p.2 then a
    else let b := a.2.readEntry idx p.2 p.1; (a.1 ++ b.1, b.2)) ([], s)

/-- R197, R437: a pop. Room that a pop of a Sail queue frees serves an arming that waits. -/
def State.popEntry (s : State) (idx : Nat) : List Byte × State :=
  if idx = 0x1600 then
    let p := s.log.pop 32
    (p.1, { s with log := p.2 })
  else
    let n := idx - 0x2E00
    let p := (s.sailRun n).queue.pop 16
    (p.1, (s.setSail n { s.sailRun n with queue := p.2 }).sailRetry n)

/-- A READ: an abort code, or the value and the state after it. -/
def State.readValue (s : State) (idx sub : Nat) : Nat × List Byte × State :=
  match objAt idx with
  | none => (0x02000001, [], s)
  | some o =>
    if sub = 0 then (0, toBytes 1 (maxNat (o.rows.map Row.hi)), s)
    else if sub = 0xFF then (0, s.readRecord idx o)
    else match rowAt idx sub with
      | none => (0x02000002, [], s)
      | some r =>
        if r.acc = .wo then (0x03000001, [], s)
        else if isPop idx sub then
          if idx ≠ 0x1600 ∧ (s.sailOwner (idx - 0x2E00)).isSome then (0x03000005, [], s) else (0, s.popEntry idx)
        else (0, s.readEntry idx sub r)

end Sys2Proof.Machine
end

