-- ==== Sys2Proof/Machine/Service.lean ====
section
/-! DEFINITION. SERVICE (R411 to R418): what every request goes through, host writes, reads, segmented and domain
transfers, cancels and the transfer timeout. -/

namespace Sys2Proof.Machine

/-! ### Requests -/

/-- Bytes of a request (Table 15-1). -/
def reqBytes (cmd : Nat) (r : Req) (idx sub : Nat) (toggle last : Bool) (len : Nat) (data : List Byte) : List Byte :=
  serviceBytes cmd r.txn.toNat idx sub toggle last len data

/-- A request whose frame this hub consumed is taken out of the inbox. -/
def State.takeService (s : State) (b : List Byte) : State := s.take (fun f => decide (f.ftype = 3 ∧ f.payload = b))

/-- A warm reset runs, or requests that waited for its end come first (R454). -/
def State.waits (s : State) : Bool :=
  match s.power.trans with
  | .warm _ => true
  | _ => !s.power.deferred.isEmpty && !s.power.replay

/-- R454: a request waits at the island, within the 8 open transactions of R416. -/
def State.defer (s : State) (r : Req) (idx sub : Nat) (i : Instr) : State :=
  if s.power.deferred.length < 8 then { s with power := { s.power with deferred := s.power.deferred ++ [i] } }
  else s.reject r.txn.toNat r.south idx sub 0x01000004

/-- What every request goes through: it waits for the end of a warm reset (R454), a reserved bit refuses it (R412), and
a repeat of the request that completed last under its transaction number gets the stored response (R417). Before the
start nothing answers (R453), and an Unplaced hub takes no request (R348). -/
def State.request (s : State) (i : Instr) (r : Req) (idx sub : Nat) (b : List Byte) (act : State → State) : State :=
  if !s.isUp || decide (s.e 0x3500 1 = 2) then s
  else
    let s := s.takeService b
    if s.waits then s.defer r idx sub i
    else if r.reservedSet then s.reject r.txn.toNat r.south idx sub 0x01000001
    else match s.svc.stored.find? (fun e => decide (e.1 = r.txn.toNat ∧ e.2.1 = b)) with
      | some e => (s.bump 0x1300 6).sendResponse r.south e.2.2
      | none => act s

/-- R416: a request that opens a transaction: refused while its number is open, or while 8 are. -/
def State.opening (s : State) (r : Req) (idx sub : Nat) (act : State → State) : State :=
  if (s.svc.txns.lookup r.txn.toNat).isSome then s.reject r.txn.toNat r.south idx sub 0x01000005
  else if 8 ≤ s.svc.txns.length then s.reject r.txn.toNat r.south idx sub 0x01000004
  else act s

/-- Open a transaction, or replace what is known of it. -/
def State.setTxn (s : State) (r : Req) (x : Xfer) (idx sub : Nat) (b : List Byte) : State :=
  s.setTxns (Tbl.put s.svc.txns r.txn.toNat ⟨x, idx, sub, r.south, b, s.gov.ticks⟩)

/-- An answer of a transfer that goes on. -/
def State.reply (s : State) (r : Req) (cmd idx sub : Nat) (toggle : Bool) (data : List Byte) : State :=
  s.sendResponse r.south (serviceBytes cmd r.txn.toNat idx sub toggle false data.length data)

/-! ### Writes (R413, R418, R420) -/

/-- A value has fully arrived: it is tested and applied in one step, and answered unless the answer is owed. -/
def State.writeNow (s : State) (r : Req) (idx sub : Nat) (data b : List Byte) : State :=
  let s := s.setTxn r .executing idx sub b
  let code := s.writeTest false idx sub data
  if code ≠ 0 then s.answer r.txn.toNat code
  else match s.applyWrite r.txn.toNat idx sub data with
    | (some c, t) => t.answer r.txn.toNat c
    | (none, t) => t

/-- A host write whose value has fully arrived. -/
def State.hostWrite (s : State) (i : Instr) (r : Req) (idx sub : Nat) (data : List Byte) : State :=
  let b := reqBytes 0x02 r idx sub false true data.length data
  s.request i r idx sub b (fun s => s.opening r idx sub (fun s => s.writeNow r idx sub data b))

/-- A WRITE request: expedited where its data are the whole value, else the first frame of a download (R414). -/
def State.writeRequest (s : State) (i : Instr) (r : Req) (idx sub total : Nat) (last : Bool) (data : List Byte) : State :=
  let b := reqBytes 0x02 r idx sub false last total data
  s.request i r idx sub b (fun s => s.opening r idx sub (fun s =>
    if last && decide (total = data.length) then s.writeNow r idx sub data b
    else if last || decide (total < data.length) then s.refuse r.txn.toNat r.south b idx sub 0x04000001
    else (s.setTxn r (.download total data false data) idx sub b).reply r 0x84 idx sub false []))

/-- A DOWNLOAD_SEGMENT request (R414). -/
def State.downloadRequest (s : State) (i : Instr) (r : Req) (idx sub : Nat) (toggle last : Bool) (data : List Byte) : State :=
  let b := reqBytes 0x04 r idx sub toggle last data.length data
  s.request i r idx sub b (fun s => match s.svc.txns.lookup r.txn.toNat with
    | some ⟨.download total sofar was seg, idx', sub', _, _, _⟩ =>
      if toggle = was then
        if data = seg then (s.setTxn r (.download total sofar was seg) idx' sub' b).reply r 0x84 idx' sub' toggle []
        else s.refuse r.txn.toNat r.south b idx' sub' 0x01000002
      else
        let all := sofar ++ data
        if total < all.length ∨ (last ∧ all.length < total) then s.refuse r.txn.toNat r.south b idx' sub' 0x04000001
        else if last then s.writeNow r idx' sub' all b
        else (s.setTxn r (.download total all toggle data) idx' sub' b).reply r 0x84 idx' sub' toggle []
    | _ => s.reject r.txn.toNat r.south idx sub 0x01000007)

/-! ### Reads (R413, R414) -/

/-- A READ request. -/
def State.readRequest (s : State) (i : Instr) (r : Req) (idx sub : Nat) : State :=
  let b := reqBytes 0x01 r idx sub false false 0 []
  s.request i r idx sub b (fun s => s.opening r idx sub (fun s =>
    let v := s.readValue idx sub
    let data := v.2.1
    if v.1 ≠ 0 then s.refuse r.txn.toNat r.south b idx sub v.1
    else if data.length ≤ 248 then
      v.2.2.complete r.txn.toNat r.south b (serviceBytes 0x81 r.txn.toNat idx sub false true data.length data)
    else
      (v.2.2.setTxn r (.upload data 248 false none) idx sub b).sendResponse r.south
        (serviceBytes 0x81 r.txn.toNat idx sub false false data.length (data.take 248))))

/-- An UPLOAD_SEGMENT request (R414). -/
def State.uploadRequest (s : State) (i : Instr) (r : Req) (idx sub : Nat) (toggle : Bool) : State :=
  let b := reqBytes 0x03 r idx sub toggle false 0 []
  s.request i r idx sub b (fun s => match s.svc.txns.lookup r.txn.toNat with
    | some ⟨.upload data pos was seg, idx', sub', _, _, _⟩ =>
      if toggle = was then
        match seg with
        | some d => (s.setTxn r (.upload data pos was seg) idx' sub' b).reply r 0x83 idx' sub' toggle d
        | none => s.refuse r.txn.toNat r.south b idx' sub' 0x01000002
      else
        let d := (data.drop pos).take 248
        if data.length ≤ pos + 248 then
          s.complete r.txn.toNat r.south b (serviceBytes 0x83 r.txn.toNat idx' sub' toggle true d.length d)
        else (s.setTxn r (.upload data (pos + 248) toggle (some d)) idx' sub' b).reply r 0x83 idx' sub' toggle d
    | _ => s.reject r.txn.toNat r.south idx sub 0x01000007)

/-! ### Domain transfers (R415) -/

/-- The staged content: bytes, length and digest. -/
def State.stage (s : State) (data : Option (List Byte)) : State :=
  let s := { s with flash := { s.flash with staged := data } }
  match data with
  | some d => (s.setE 0x1500 0x11 d.length).setE 0x1500 0x12 (crc32C d)
  | none => (s.setE 0x1500 0x11 0).setE 0x1500 0x12 0

/-- A domain transfer is open. -/
def State.domainOpen (s : State) : Bool :=
  s.svc.txns.any (fun t => match t.2.xfer with | .domain _ _ _ _ => true | _ => false)

/-- A DOMAIN_START request. -/
def State.domainStartRequest (s : State) (i : Instr) (r : Req) (idx sub total : Nat) : State :=
  let b := reqBytes 0x05 r idx sub false false 4 (toBytes 4 total)
  s.request i r idx sub b (fun s =>
    if s.domainOpen then s.reject r.txn.toNat r.south idx sub 0x01000005
    else s.opening r idx sub (fun s =>
      let code := orElse (s.existence idx sub)
        (orElse (refuseIf (decide (idx ≠ 0x1500 ∨ sub ≠ 0x10)) 0x03000002)
        (refuseIf (decide (total = 0 ∨ 4194304 < total)) 0x04000001))
      if code ≠ 0 then s.refuse r.txn.toNat r.south b idx sub code
      else ((s.stage none).setTxn r (.domain total [] 0 false) idx sub b).reply r 0x85 idx sub false (toBytes 2 16)))

/-- A DOMAIN_SEGMENT request: one out of order is discarded and acknowledged at once. -/
def State.domainSegmentRequest (s : State) (i : Instr) (r : Req) (idx sub num : Nat) (last : Bool) (data : List Byte) : State :=
  let b := reqBytes 0x06 r idx sub false last num data
  s.request i r idx sub b (fun s => match s.svc.txns.lookup r.txn.toNat with
    | some ⟨.domain total sofar next ended, idx', sub', _, _, _⟩ =>
      if ended ∨ num ≠ next then
        (s.setTxn r (.domain total sofar next ended) idx' sub' b).reply r 0x86 idx' sub' false (toBytes 2 next)
      else
        let t := s.setTxn r (.domain total (sofar ++ data) (next + 1) last) idx' sub' b
        if last ∨ (next + 1) % 8 = 0 then t.reply r 0x86 idx' sub' false (toBytes 2 (next + 1)) else t
    | _ => s.reject r.txn.toNat r.south idx sub 0x01000007)

/-- A DOMAIN_END request. -/
def State.domainEndRequest (s : State) (i : Instr) (r : Req) (idx sub crc : Nat) : State :=
  let b := reqBytes 0x07 r idx sub false false 4 (toBytes 4 crc)
  s.request i r idx sub b (fun s => match s.svc.txns.lookup r.txn.toNat with
    | some ⟨.domain total sofar _ _, idx', sub', _, _, _⟩ =>
      if crc32C sofar ≠ crc then (s.stage none).refuse r.txn.toNat r.south b idx' sub' 0x01000006
      else if sofar.length ≠ total then (s.stage none).refuse r.txn.toNat r.south b idx' sub' 0x04000001
      else (s.stage (some sofar)).complete r.txn.toNat r.south b (serviceBytes 0x87 r.txn.toNat idx' sub' false false 0 [])
    | _ => s.reject r.txn.toNat r.south idx sub 0x01000007)

/-! ### Ends (R416) -/

/-- A CANCEL request. -/
def State.cancelRequest (s : State) (i : Instr) (r : Req) (idx sub : Nat) : State :=
  let b := reqBytes 0x09 r idx sub false false 0 []
  s.request i r idx sub b (fun s => match s.svc.txns.lookup r.txn.toNat with
    | none => s.reject r.txn.toNat r.south idx sub 0x01000007
    | some t =>
      if t.xfer = .executing then s.reject r.txn.toNat r.south idx sub 0x01000005
      else s.refuse r.txn.toNat r.south b t.idx t.sub 0x01000008)

/-- Transfer timeout in island ticks. -/
def State.transferTicks (s : State) : Nat := s.e 0x1300 5 * 400000

/-- R416: a transaction that awaits a request has received none for Transfer timeout. -/
def State.timedOut (s : State) (txn : Nat) : Bool :=
  match s.svc.txns.lookup txn with
  | some t => decide (t.xfer ≠ .executing) && decide (t.since + s.transferTicks ≤ s.gov.ticks)
  | none => false

/-- R416: it is closed, and its partial content is discarded. -/
def State.closeTimedOut (s : State) (txn : Nat) : State :=
  match s.svc.txns.lookup txn with
  | some t =>
    if s.timedOut txn then (s.setTxns (Tbl.drop s.svc.txns txn)).reject txn t.south t.idx t.sub 0x01000003 else s
  | none => s

end Sys2Proof.Machine
end

