-- ==== Sys2Proof/Machine/Cmd.lean ====
section
/-! DEFINITION. What the meanings of the commands share: the outcome type, and the guard that every command but the
SERVICE requests goes through. -/

namespace Sys2Proof.Machine

/-- The outcome of a command. -/
abbrev Result := Host.Outcome State Fault Refusal

/-- A command whose condition does not hold, or that meets a hub that is not up, leaves the state as it is. -/
def State.live (s : State) (cond : Bool) (f : State → State) : State := if s.isUp && cond then f s else s

/-- The same for what goes on whenever the Governor island runs (R32, R465): only the wait for the PLL stops it. -/
def State.island (s : State) (cond : Bool) (f : State → State) : State :=
  if decide (s.power.phase ≠ .awaitPll) && cond then f s else s

/-- R348: an Unplaced hub consumes LINK_RESET alone: frames that other commands carry in are not taken. -/
def State.consumes (s : State) : Bool := decide (s.e 0x3500 1 ≠ 2)

end Sys2Proof.Machine
end

