-- ==== Sys2Proof/Machine/ExcitationCmds.lean ====
section
/-! DEFINITION. Meanings of the commands of inputs, excitation and blanking (chapter 03) and of the seal pins (R80,
R401). -/

namespace Sys2Proof.Machine

/-! ### Host writes -/

/-- SENSOR_MODE_WRITE (R61): a host write of 0x2400.01. -/
def execSensorModeWrite (r : Req) (c : Fin 512) (v : BitVec 8) (s : State) : Result :=
  .next (s.hostWrite (.sensorModeWrite r c v) r (0x2400 + c) 1 (toBytes 1 v.toNat))

/-- PORT_MODE_WRITE (R61): a host write of 0x2600.01. -/
def execPortModeWrite (r : Req) (g : Fin 128) (v : BitVec 8) (s : State) : Result :=
  .next (s.hostWrite (.portModeWrite r g v) r (0x2600 + g) 1 (toBytes 1 v.toNat))

/-- OUTPUT_ENABLE_WRITE (R72): a host write of 0x2600.09. -/
def execOutputEnableWrite (r : Req) (g : Fin 128) (v : BitVec 8) (s : State) : Result :=
  .next (s.hostWrite (.outputEnableWrite r g v) r (0x2600 + g) 9 (toBytes 1 v.toNat))

/-- Subindex of a port setting. -/
def portSettingSub : PortSetting → Nat
  | .voltageSet => 2 | .senseLimit => 3 | .sense => 4 | .currentLimit => 5 | .currentSet => 6 | .compliance => 7

/-- PORT_SETTING_WRITE (R79): a host write of 0x2600.02 to .07; the request has the bytes of the entry's type. -/
def execPortSettingWrite (r : Req) (g : Fin 128) (e : PortSetting) (v : BitVec 16) (s : State) : Result :=
  .next (s.hostWrite (.portSettingWrite r g e v) r (0x2600 + g) (portSettingSub e)
    (if e = .sense then toBytes 1 (v.toNat % 256) else toBytes 2 v.toNat))

/-- IEPE_SETTING_WRITE (R84): a host write of 0x2400.0A or .0B; the request has the bytes of the entry's type. -/
def execIepeSettingWrite (r : Req) (c : Fin 512) (e : IepeSetting) (v : BitVec 16) (s : State) : Result :=
  .next (match e with
    | .current => s.hostWrite (.iepeSettingWrite r c e v) r (0x2400 + c) 10 (toBytes 2 v.toNat)
    | .highPass => s.hostWrite (.iepeSettingWrite r c e v) r (0x2400 + c) 11 (toBytes 1 (v.toNat % 256)))

/-- DISSIPATION_BUDGET_WRITE (R76): a host write of 0x2690.06. -/
def execDissipationBudgetWrite (r : Req) (v : BitVec 16) (s : State) : Result :=
  .next (s.hostWrite (.dissipationBudgetWrite r v) r 0x2690 6 (toBytes 2 v.toNat))

/-- Subindex of a range setting. -/
def rangeSettingSub : RangeSetting → Nat
  | .mode => 2 | .fixed => 3 | .widest => 4 | .narrowest => 5

/-- RANGE_SETTING_WRITE (R70): a host write of 0x2400.02 to .05. -/
def execRangeSettingWrite (r : Req) (c : Fin 512) (e : RangeSetting) (v : BitVec 8) (s : State) : Result :=
  .next (s.hostWrite (.rangeSettingWrite r c e v) r (0x2400 + c) (rangeSettingSub e) (toBytes 1 v.toNat))

/-- INPUT_BIAS_WRITE (R117): a host write of 0x2400.08. -/
def execInputBiasWrite (r : Req) (c : Fin 512) (v : BitVec 8) (s : State) : Result :=
  .next (s.hostWrite (.inputBiasWrite r c v) r (0x2400 + c) 8 (toBytes 1 v.toNat))

/-! ### Ports -/

/-- R77: VEXC of both dies as measured, and the check of their totals. -/
def State.checkBudget (s : State) (a b : Nat) : State :=
  let s := (s.setE 0x2690 2 a).shed 0
  if s.pins.mb then s else (s.setE 0x2690 3 b).shed 1

/-- BUDGET_CHECK (R77). -/
def execBudgetCheck (vexcA vexcB : BitVec 16) (s : State) : Result :=
  .next (s.live true (fun s => s.checkBudget vexcA.toNat vexcB.toNat))

/-- DISCHARGE_COMPLETE (R82, R83). -/
def execDischargeComplete (g : Fin 128) (s : State) : Result := .next (s.dischargeDone g)

/-- DISCHARGE_FAIL (R83). -/
def execDischargeFail (g : Fin 128) (s : State) : Result :=
  let x := s.xport g
  .next (s.live (x.discharging && !x.dischargeFail) (fun s =>
    (s.setXport g { x with dischargeFail := true }).event 2 0x0305 (toBytes 1 g)))

/-- R74: the port is a voltage port that is on. -/
def State.voltagePort (s : State) (g : Nat) : Bool := (s.xport g).on && decide (s.e (0x2600 + g) 1 = 1)

/-- FOLDBACK (R74). -/
def execFoldback (g : Fin 128) (s : State) : Result :=
  let x := s.xport g
  .next (s.live (s.voltagePort g && !x.foldback) (fun s =>
    (s.setXport g { x with foldback := true, currentLimit := true }).event 1 0x0303 (toBytes 1 g)))

/-- FOLDBACK_RETRY (R74, R84): a port that regulates ends its foldback, an excitation change. -/
def execFoldbackRetry (g : Fin 128) (regulates : Bool) (s : State) : Result :=
  let x := s.xport g
  .next (s.live (x.foldback && regulates) (fun s =>
    (s.setXport g { x with foldback := false, currentLimit := false }).settle g))

/-- SENSE_FAULT (R73, R502): a port that is on and cannot regulate. -/
def execSenseFault (g : Fin 128) (s : State) : Result :=
  let x := s.xport g
  .next (s.live x.on (fun s => s.setXport g { x with senseFault := true }))

/-- REGULATION_HOLDS_AGAIN (R73). -/
def execRegulationHoldsAgain (g : Fin 128) (s : State) : Result :=
  .next (s.live true (fun s => s.setXport g { s.xport g with senseFault := false }))

/-- The settle interval of a port has ended, and its bounds are forgotten. -/
def State.settled (s : State) (g : Nat) : State := s.setXport g { s.xport g with settleFrom := 0, settleTo := 0 }

/-- EXCITATION_SETTLE_END (R118). -/
def execExcitationSettleEnd (g : Fin 128) (s : State) : Result :=
  .next (s.island (decide ((s.xport g).settleTo ≤ s.now)) (fun s => s.settled g))

/-! ### IEPE (R64) -/

/-- The channel is in IEPE mode and its port is on in IEPE mode. -/
def State.iepeOn (s : State) (c : Nat) : Bool :=
  (s.xport (grp c)).on && decide (s.e (0x2600 + grp c) 1 = 3) && decide (s.e (0x2400 + c) 1 = 4)

/-- R64: the bias of a channel as the hub compares it with the compliance voltage: open above it less 1.0 V. -/
def State.iepeLevel (s : State) (c bias : Nat) : State :=
  let x := s.chan c
  let high := decide (s.e (0x2600 + grp c) 7 < bias + 1000)
  let t := s.setChan c { x with iepeOpen := high }
  if high && !x.iepeOpen then t.event 2 0x0301 (toBytes 2 c) else t

/-- IEPE_OPEN (R64). -/
def execIepeOpen (c : Fin 512) (bias : BitVec 16) (s : State) : Result :=
  .next (s.live (s.iepeOn c) (fun s => s.iepeLevel c bias.toNat))

/-- IEPE_SHORT (R64). -/
def execIepeShort (c : Fin 512) (bias : BitVec 16) (s : State) : Result :=
  let x := s.chan c
  .next (s.live (s.iepeOn c && decide (bias.toNat < 2000) && !x.iepeFolded) (fun s =>
    (s.setChan c { x with iepeFolded := true }).event 2 0x0302 (toBytes 2 c)))

/-- IEPE_RETRY (R64): a source whose bias is 2.0 V or more at its set current is folded no longer. -/
def execIepeRetry (c : Fin 512) (bias : BitVec 16) (s : State) : Result :=
  let x := s.chan c
  .next (s.live (s.iepeOn c && x.iepeFolded && decide (2000 ≤ bias.toNat)) (fun s =>
    (s.setChan c { x with iepeFolded := false }).settle (grp c)))

/-! ### Blanking (R87) -/

/-- BLANK_PIN (R87). -/
def execBlankPin (k : Fin 4) (level : Bool) (s : State) : Result :=
  let s := { s with pins := { s.pins with blank := setBit s.pins.blank k level } }
  .next (s.live true (fun s => s.takeBlank k))

/-- R87: the hang time of a BLANK pin has run out. -/
def State.hangOver (s : State) (k : Nat) : State :=
  let b := Tbl.get (Blank.mk none none) s.blanks k
  match b.hangEnd with
  | some h =>
    if h ≤ s.now then { s with blanks := Tbl.set (Blank.mk none none) s.blanks k { b with hangEnd := none } } else s
  | none => s

/-- BLANK_HANG_EXPIRY (R87). -/
def execBlankHangExpiry (k : Fin 4) (s : State) : Result := .next (s.live true (fun s => s.hangOver k))

/-- R87: end of the occurrence of a window that is active now. -/
def State.windowUntil (s : State) (w : Nat) : Option Int :=
  if s.windowActive w s.now then (s.windowStart w s.now).map (fun a => a + ((s.e (0x2681 + w) 3 * fuNs : Nat) : Int))
  else none

/-- R87: note whether a window is active, with the end of its occurrence. -/
def State.noteWindow (s : State) (w : Nat) : State :=
  { s with windows := match s.windowUntil w with
    | some t => Tbl.put s.windows w t
    | none => Tbl.drop s.windows w }

/-- BLANK_WINDOW_START (R87). -/
def execBlankWindowStart (w : Fin 8) (s : State) : Result :=
  .next (s.live (s.windowUntil w).isSome (fun s => s.noteWindow w))

/-- BLANK_WINDOW_END (R87). -/
def execBlankWindowEnd (w : Fin 8) (s : State) : Result :=
  .next (s.live (s.windowUntil w).isNone (fun s => s.noteWindow w))

/-! ### Seal pins (R80, R401) -/

/-- R80: a change of SEAL14 to SEAL12 switches every port off until the next start. -/
def State.classLost (s : State) : State :=
  let s := s.allOff
  let s := s.allPorts.foldl (fun s g => s.setE (0x2600 + g) 9 0) s
  { s with power := { s.power with classChanged := true } }

/-- R401: the seal pins as they are read every 10 ms, against the reading at the start. -/
def State.sealSeen (s : State) (now : Nat) : State :=
  let start := s.e 0x3810 1
  let was := s.e 0x3810 2
  let s := { s with pins := { s.pins with sealSw := now } }.setE 0x3810 2 now
  let s := if now ≠ start ∧ now ≠ was then s.event 3 0x0A01 (toBytes 2 now ++ toBytes 2 start) else s
  let s := if now ≠ start then (s.flag 0x3810 4 2 true).safetyFault else s
  if now / 4096 % 8 ≠ start / 4096 % 8 ∧ !s.power.classChanged then s.classLost else s

/-- SEAL_READ (R401). -/
def execSealRead (pins : BitVec 16) (s : State) : Result := .next (s.live true (fun s => s.sealSeen pins.toNat))

end Sys2Proof.Machine
end

