-- ==== Sys2Proof/Machine/GovernorCmds.lean ====
section
/-! DEFINITION. Meanings of the Governor's commands (chapter 02). -/

namespace Sys2Proof.Machine

/-- INCREMENT_WRITE (R32): a host write of 0x2301.03. -/
def execIncrementWrite (r : Req) (d : Fin 4) (v : BitVec 64) (s : State) : Result :=
  .next (s.hostWrite (.incrementWrite r d v) r (domr d) 3 (toBytes 8 v.toNat))

/-- SET_TIME (R38): a host write of 0x2301.05. -/
def execSetTime (r : Req) (d : Fin 4) (v : BitVec 96) (s : State) : Result :=
  .next (s.hostWrite (.setTime r d v) r (domr d) 5 (toBytes 12 v.toNat))

/-- OFFSET_ADJUST (R38): a host write of 0x2301.06. -/
def execOffsetAdjust (r : Req) (d : Fin 4) (v : BitVec 64) (s : State) : Result :=
  .next (s.hostWrite (.offsetAdjust r d v) r (domr d) 6 (toBytes 8 v.toNat))

/-- R101: domain 0 has stepped over the plan start instant: the plan starts, and each group's rotations resume at the
first scheduled instant at or after the new time. -/
def State.stepOverStart (s : State) : State :=
  if s.startDue then s.usedGroups.foldl (fun t g => (t.skipTo g s.now).1) s.planBegins else s

/-- R38, R40: a pending step is applied; a step of domain 0 while the plan runs has its effects on the plan and the
grids. -/
def State.stepNow (s : State) (d : Nat) : State :=
  let told := s.now
  let t := s.applyStep d
  if d = 0 ∧ t.planState ≠ 0 ∧ t.now ≠ told then (t.stepPlan told t.now).stepGrids
  else if d = 0 ∧ told < t.now then t.stepOverStart
  else t

/-- STEP_APPLY (R38, R40). -/
def execStepApply (d : Fin 4) (s : State) : Result :=
  .next (s.island (s.dom d).step.isSome (fun s => s.stepNow d))

/-- GOVERNOR_MODE_WRITE (R33): a host write of 0x2300.01. -/
def execGovernorModeWrite (r : Req) (v : BitVec 8) (s : State) : Result :=
  .next (s.hostWrite (.governorModeWrite r v) r 0x2300 1 (toBytes 1 v.toNat))

/-- SERVO_ENABLE_WRITE (R53): a host write of 0x2300.02. -/
def execServoEnableWrite (r : Req) (v : BitVec 8) (s : State) : Result :=
  .next (s.hostWrite (.servoEnableWrite r v) r 0x2300 2 (toBytes 1 v.toNat))

/-- MASTER_ACKNOWLEDGE (R42): a host write of 0x2301.0D. -/
def execMasterAcknowledge (r : Req) (d : Fin 4) (v : BitVec 8) (s : State) : Result :=
  .next (s.hostWrite (.masterAcknowledge r d v) r (domr d) 0x0D (toBytes 1 v.toNat))

/-- A consumed timing frame of a message kind (Table 02-3). -/
def timingOf (kind : Nat) (f : Frame) : Bool := decide (f.ftype = 4 ∧ ofBytes (f.payload.take 1) / 16 = kind)

/-- SYNC (R48). -/
def execSync (p : Port) (m : TimingMsg) (dly : Fin 163840) (s : State) : Result :=
  .next (s.live (s.up (portIdx p) && s.consumes) (fun s => (s.take (timingOf 0)).takeSync (portIdx p) m dly))

/-- DELAY_REQ (R47). -/
def execDelayReq (p : Port) (m : TimingMsg) (dly : Fin 163840) (s : State) : Result :=
  .next (s.live (s.up (portIdx p) && s.consumes) (fun s => (s.take (timingOf 1)).takeDelayReq (portIdx p) m dly))

/-- DELAY_RESP (R48). -/
def execDelayResp (p : Port) (m : TimingMsg) (s : State) : Result :=
  .next (s.live (s.up (portIdx p) && s.consumes) (fun s => (s.take (timingOf 2)).takeDelayResp (portIdx p) m))

/-- SYNC_SEND (R47). -/
def execSyncSend (d : Fin 4) (s : State) : Result :=
  .next (s.live (s.syncDue d && s.consumes) (fun s => s.sendSync d))

/-- SYNC_LOSS (R52). -/
def execSyncLoss (d : Fin 4) (s : State) : Result :=
  .next (s.island (s.syncLost d) (fun s => s.holdover d))

/-- OCXO_RDY_CHANGE (R51). -/
def execOcxoRdyChange (level : Bool) (s : State) : Result := .next (s.island true (fun s => s.ocxoRdy level))

/-- PPS_PULSE (R55). -/
def execPpsPulse (s : State) : Result := .next (s.island s.ppsDue State.ppsRises)

end Sys2Proof.Machine
end

