-- ==== Sys2Proof/Machine/HopperCmds.lean ====
section
/-! DEFINITION. Meanings of the commands of Screed (chapter 10) and of the Hopper (chapter 11). -/

namespace Sys2Proof.Machine

/-! ### Screed -/

/-- Table 10-7: the code of what the verify decoder reports, 0 for nothing. -/
def verifyCode : Verify → Nat
  | .good => 0 | .illegalCode => 1 | .distance => 2 | .length => 3 | .header => 4 | .mismatch => 7

/-- BLOCK_ENCODE (R283). -/
def execBlockEncode (st : Fin 16384) (verify : Encoding) (s : State) : Result :=
  .next (s.live true (fun s =>
    (s.blockEncode st (verifyCode verify.verify) verify.stalls.toNat verify.popWins).settlePower))

/-- CODE_LENGTHS_WRITE (R280): a host write of 0x3200.01. -/
def execCodeLengthsWrite (r : Req) (u : Fin 8) (bytes : List Byte) (s : State) : Result :=
  .next (s.hostWrite (.codeLengthsWrite r u bytes) r (0x3200 + u) 1 bytes)

/-- USER_TABLE_CLEAR (R280): a host write of 0x3200.05. -/
def execUserTableClear (r : Req) (u : Fin 8) (v : BitVec 8) (s : State) : Result :=
  .next (s.hostWrite (.userTableClear r u v) r (0x3200 + u) 5 (toBytes 1 v.toNat))

/-! ### Hopper queues -/

/-- HOPPER_MARK (R301): a host write of 0x3410.08. -/
def execHopperMark (r : Req) (q : Fin 8) (v : BitVec 8) (s : State) : Result :=
  .next (s.hostWrite (.hopperMark r q v) r (0x3410 + q) 8 (toBytes 1 v.toNat))

/-- HOPPER_REWIND (R303): a host write of 0x3410.09. -/
def execHopperRewind (r : Req) (q : Fin 8) (v : BitVec 8) (s : State) : Result :=
  .next (s.hostWrite (.hopperRewind r q v) r (0x3410 + q) 9 (toBytes 1 v.toNat))

/-- REWIND_TO (R303): a host write of 0x3410.0C. -/
def execRewindTo (r : Req) (q : Fin 8) (v : BitVec 32) (s : State) : Result :=
  .next (s.hostWrite (.rewindTo r q v) r (0x3410 + q) 0x0C (toBytes 4 v.toNat))

/-- HOPPER_RELEASE (R302): a host write of 0x3410.0A. -/
def execHopperRelease (r : Req) (q : Fin 8) (v : BitVec 8) (s : State) : Result :=
  .next (s.hostWrite (.hopperRelease r q v) r (0x3410 + q) 0x0A (toBytes 1 v.toNat))

/-- RELEASE_THROUGH (R302): a host write of 0x3410.0B. -/
def execReleaseThrough (r : Req) (q : Fin 8) (v : BitVec 32) (s : State) : Result :=
  .next (s.hostWrite (.releaseThrough r q v) r (0x3410 + q) 0x0B (toBytes 4 v.toNat))

/-! ### Memory errors (R310, R311) -/

/-- SCRUB_PASS (R310). -/
def execScrubPass (corrected uncorrectableFree : BitVec 32) (errors : List EccError) (s : State) : Result :=
  .next (s.live true (fun s => s.scrub corrected.toNat uncorrectableFree.toNat errors))

end Sys2Proof.Machine
end

