-- ==== Sys2Proof/Machine/LeatCmds.lean ====
section
/-! DEFINITION. Meanings of the commands of Leat and Weir (chapter 12). -/

namespace Sys2Proof.Machine

/-! ### Ports -/

/-- PORT_ENABLE_WRITE (R327): a host write of 0x3510.01. -/
def execPortEnableWrite (r : Req) (p : Port) (v : BitVec 8) (s : State) : Result :=
  .next (s.hostWrite (.portEnableWrite r p v) r (lp (portIdx p)) 1 (toBytes 1 v.toNat))

/-- No lane test runs on any port of this hub. -/
def State.untested (s : State) : Bool := [0, 1, 2, 3, 4].all (fun p => decide ((s.port p).testing = 0))

/-- R326, R327, R330, R338: what received TRAIN sets do: the test answered or begun, the partner's retrain followed, or
the bring-up advanced. -/
def State.trainTaken (s : State) (p : Nat) (t : TrainRun) : State :=
  let s := s.lanes p t
  let x := s.port p
  let st := s.e (lp p) 2
  let now := s.gov.ticks
  if x.testing = 1 then
    if t.set.testAccept then s.setPort p { x with testing := 2, since := now, sets := 0 } else s
  else if st = 3 then
    if t.set.testStart then
      if s.powerState = 0 ∧ s.untested then
        s.enterTest p { x with testing := 3, testSecs := t.set.duration.toNat }
      else s
    else if t.set.resume then s.retrainPort p
    else s
  else if x.testing = 0 ∧ (st = 1 ∨ st = 2 ∨ st = 4) then s.trained p t
  else s

/-- R253: a Run command that a link reset ended is refused once its answer can leave: the port is UP and the hub has an
ID again (DEDUCED, log entry 36). -/
def State.refuseLate (s : State) : State :=
  match s.power.trans with
  | .check txn =>
    let way := match s.svc.txns.lookup txn with | some t => s.onward (s.redirect (!t.south)) | none => none
    if !s.running 0x20 && s.hubId.isSome && way.isSome then s.runVerdict false else s
  | _ => s

/-- TRAIN_RECEIVED (R327). -/
def execTrainReceived (p : Port) (t : TrainRun) (s : State) : Result :=
  .next (s.live (s.powered (portIdx p)) (fun s => (s.trainTaken (portIdx p) t).refuseLate))

/-- R328: a port has switched to a higher rate and has not reached UP within 2 ms. -/
def State.rateFailed (s : State) (p : Nat) : Bool :=
  let x := s.port p
  let st := s.e (lp p) 2
  decide ((st = 1 ∨ st = 2) ∧ (x.step = .high ∨ x.step = .final) ∧ 0 < x.rate ∧ x.since + tickUs 2000 ≤ s.gov.ticks)

/-- R328: the port trains again from step 1, its maximum one step below the failed rate. -/
def State.fallBack (s : State) (p : Nat) : State := (s.bump (lp p) 0x0D).train p (some ((s.port p).rate - 1))

/-- RATE_FALLBACK (R328). -/
def execRateFallback (p : Port) (s : State) : Result :=
  .next (s.live (s.rateFailed (portIdx p)) (fun s => s.fallBack (portIdx p)))

/-- LANE_TEST (R330): a host write of 0x1430.01. -/
def execLaneTest (r : Req) (args : List Byte) (s : State) : Result :=
  .next (s.hostWrite (.laneTest r args) r (opr 0x30) 1 args)

/-- R330: no TEST_ACCEPT has arrived within 1 ms. -/
def State.testRefused (s : State) (p : Nat) : Bool :=
  decide ((s.port p).testing = 1 ∧ (s.port p).since + tickUs 1000 ≤ s.gov.ticks)

/-- TEST_ACCEPT_TIMEOUT (R330): result 3. -/
def execTestAcceptTimeout (p : Port) (s : State) : Result :=
  .next (s.live (s.testRefused (portIdx p)) (fun s => s.laneTestDone (portIdx p) 3 0 0 0))

/-- R330: a lane test ends: its duration has passed, a lane lost lock, or a cancellation was written. -/
def State.testEnds (s : State) (p : Nat) (lockLost : Bool) : Bool :=
  let x := s.port p
  let own := decide (x.testing = 1 ∨ x.testing = 2) && decide (s.e (opr 0x30) 2 = 2)
  own || (decide (2 ≤ x.testing) && (lockLost || decide (x.since + x.testSecs * 400000000 ≤ s.gov.ticks)))

/-- R330: the result of a lane test. -/
def State.testResult (s : State) (p : Nat) (errors : Nat) (lockLost : Bool) : Nat :=
  if lockLost then 4
  else if (s.port p).testing ≠ 3 ∧ s.e (opr 0x30) 2 = 2 then 5
  else if errors ≠ 0 then 2
  else 1

/-- LANE_TEST_END (R330). -/
def execLaneTestEnd (p : Port) (bits e0 e1 : BitVec 64) (lockLost : Bool) (s : State) : Result :=
  .next (s.live (s.testEnds (portIdx p) lockLost) (fun s =>
    s.laneTestDone (portIdx p) (s.testResult (portIdx p) (e0.toNat + e1.toNat) lockLost) bits.toNat e0.toNat e1.toNat))

/-! ### Reception and replay -/

/-- R412: a SERVICE request whose command is none of Table 15-2's host commands. -/
def Frame.unknownRequest (f : Frame) : Bool :=
  decide (f.ftype = 3) && !f.hubOrigin &&
    !([1, 2, 3, 4, 5, 6, 7, 9] : List Nat).contains (Machine.ofBytes (f.payload.take 1))

/-- R412: such requests are answered with ABORT 0x01000001, those of a warm reset once it has ended (R454). -/
def State.answerUnknown (s : State) : State :=
  if s.waits then s
  else
    let fs := s.leat.inbox.filter Frame.unknownRequest
    let s := { s with leat := { s.leat with inbox := s.leat.inbox.filter (fun f => !f.unknownRequest) } }
    let u := fun (f : Frame) (i n : Nat) => Machine.ofBytes ((f.payload.drop i).take n)
    fs.foldl (fun s f => s.reject (u f 1 1) f.south (u f 2 2) (u f 4 1) 0x01000001) s

/-- FRAME_RECEIVED (R335, R340). -/
def execFrameReceived (p : Port) (bytes : List Byte) (codeError : Bool) (s : State) : Result :=
  .next (s.live (s.up (portIdx p)) (fun s => (s.receive (portIdx p) bytes codeError).answerUnknown))

/-- R323: an ordered set whose complement bytes do not match is discarded, and counts as a code error. -/
def State.answerTaken (s : State) (p : Nat) (seq window : Checked) (f : LPort → LPort) : State :=
  if answerSound seq window then s.setPort p (f (s.port p)) else s.bump (lp p) 0x0A

/-- ACK (R337). -/
def execAck (p : Port) (seq window : Checked) (s : State) : Result :=
  .next (s.live (s.up (portIdx p)) (fun s =>
    s.answerTaken (portIdx p) seq window (fun x => x.acked seq.value.toNat window.value.toNat)))

/-- R337: a NAK: the frames before the one expected are covered, and the rest is resent in order. -/
def LPort.naked (x : LPort) (seq window : Nat) : LPort :=
  (x.acked ((seq + 65535) % 65536) window).resendFrom seq

/-- NAK (R337). -/
def execNak (p : Port) (seq window : Checked) (s : State) : Result :=
  .next (s.live (s.up (portIdx p)) (fun s =>
    s.answerTaken (portIdx p) seq window (fun x => x.naked seq.value.toNat window.value.toNat)))

/-- R337: the oldest unacknowledged frame was sent 20 µs ago: its hop sequence. -/
def State.replayDue (s : State) (p : Nat) : Option Nat :=
  match (s.port p).replay with
  | (seq, _, t) :: _ => if t + tickUs 20 ≤ s.gov.ticks then some seq else none
  | [] => none

/-- R337: the transmitter resends from the oldest unacknowledged frame. -/
def State.replayFrom (s : State) (p : Nat) : State :=
  match s.replayDue p with
  | some seq => s.setPort p ((s.port p).resendFrom seq)
  | none => s

/-- REPLAY_TIMEOUT (R337). -/
def execReplayTimeout (p : Port) (s : State) : Result :=
  .next (s.live (s.up (portIdx p)) (fun s => s.replayFrom (portIdx p)))

/-- R338: the port is UP and the cause holds; replays without progress are counted here. -/
def State.mustRetrain (s : State) (p : Nat) (c : RetrainCause) : Bool :=
  s.up p && (decide (c ≠ .replays) || decide (8 ≤ (s.port p).stalls))

/-- RETRAIN (R338). -/
def execRetrain (p : Port) (cause : RetrainCause) (s : State) : Result :=
  .next (s.live (s.mustRetrain (portIdx p) cause) (fun s => s.retrainPort (portIdx p)))

/-- R339: a port has not returned to UP within 10 ms of entering RETRAIN. -/
def State.retrainFailed (s : State) (p : Nat) : Bool :=
  decide (s.e (lp p) 2 = 4) && decide ((s.port p).since + tickUs 10000 ≤ s.gov.ticks)

/-- PORT_DOWN (R339). -/
def execPortDown (p : Port) (s : State) : Result :=
  .next (s.live (s.retrainFailed (portIdx p)) (fun s => (s.laneTestDown (portIdx p)).portDownNow (portIdx p)))

/-- R310: the transmitter reads the record of the queue whose frame goes next; what its SECDED meets counts before the
frame is formed. -/
def State.readAhead (s : State) (p : Nat) (m : MemRead) : State :=
  if s.ownSamples p then
    match s.turnQueue with
    | some (q, _) => s.readErrors q m
    | none => s
  else s

/-- R327, R334, R461: what goes onto the lanes of a port at a frame boundary, and what a port that is not UP sends in its
place; on the way into Dormant a port sends what it still holds and powers down. -/
def State.frameBoundary (s : State) (p : Nat) (m : MemRead) : State :=
  if s.power.phase = .dormant then (if s.up p then s.dormantBoundary p else s)
  else if s.power.phase ≠ .up then s
  else if !s.up p then (if s.powered p then s.trainBoundary p else s)
  else if p = 4 then s.boundaryT
  else (s.readAhead p m).boundary p

/-- FRAME_BOUNDARY (R334). -/
def execFrameBoundary (p : BoundaryRead) (s : State) : Result := .next (s.frameBoundary (portIdx p.port) p.read)

/-! ### Weir -/

/-- R345, R367: a CREDIT frame: releases, rewind, credit limit in that order. A member of a Ladder passes the payload to its
partner, while it copies its Hopper behind the copies. -/
def State.takeCredit (s : State) (m : CreditMsg) : State :=
  let s := s.applyCredit m
  let b := twinItem 5 48 (zeros 2 ++ creditBytes m)
  if s.ladder && s.up 4 then (if s.pairing then s.sendBehind b else s.sendItem b) else s

/-- CREDIT (R345). -/
def execCredit (m : CreditMsg) (s : State) : Result :=
  .next (s.live s.consumes (fun s => (s.take (fun f => decide (f.ftype = 2))).takeCredit m))

/-! ### Enumeration -/

/-- A consumed ENUM frame of a command (Table 12-10). -/
def enumOf (cmd : Nat) (f : Frame) : Bool := decide (f.enumCmd = cmd)

/-- ASSIGN (R347). -/
def execAssign (p : Port) (m : AssignMsg) (s : State) : Result :=
  .next (s.live (s.up (portIdx p)) (fun s => ((s.take (enumOf 1)).assigned (portIdx p) m).refuseLate))

/-- R348: an UNPLACE reaches a hub that is not yet Unplaced. -/
def State.takeUnplace (s : State) : State := if s.e 0x3500 1 = 2 then s else s.unplaced

/-- UNPLACE (R348). -/
def execUnplace (p : Port) (s : State) : Result :=
  .next (s.live (s.up (portIdx p)) (fun s => (s.take (enumOf 3)).takeUnplace))

/-- R349: no LINK_RESET of this hub waits for a turn or for its acknowledge. -/
def State.resetForwarded (s : State) : Bool :=
  [0, 1, 2, 3].all (fun p => (s.port p).fwd.all (fun f => decide (f.enumCmd ≠ 4)) &&
    (s.port p).replay.all (fun r => decide (r.2.1.enumCmd ≠ 4)))

/-- R349: a broadcast LINK_RESET has been forwarded and acknowledged, or 10 µs have passed. -/
def State.resetDue (s : State) : Bool :=
  match s.leat.resetAt with
  | some t => s.resetForwarded || decide (t + tickUs 10 ≤ s.gov.ticks)
  | none => true

/-- R323, R325: what the straps say: preset, CHAIN_END, TWIN_B. -/
def State.readStraps (s : State) : State :=
  (s.setE 0x3500 3 s.pins.eqSel).setE 0x3500 4 (setBit (setBit (s.e 0x3500 4) 6 s.pins.chainEnd) 7 s.pins.twinB)

/-- Table 16-8: a link reset ends every long operation; a flash operation leaves its copy invalid, and a running PLAN_CHECK
leaves verdict 3 (R253). -/
def State.opsEnded (s : State) : State :=
  let s := if s.running 0x20 then (s.setE 0x3100 0x11 3).setE 0x3100 0x15 s.stamp else s
  let s := if s.pairing then s.dropPairing else s
  let s := s.abortSweep 0
  let s := if s.e 0x1500 1 = 2 then s.flashEnds false else s
  { s with flash := { s.flash with testing := none } }.opsReset

/-- Leat's W entries (Table 16-8). -/
def leatEntry (k : Nat) : Bool := decide (0x3500 ≤ k / 256 ∧ k / 256 ≤ 0x3527) && decide (survOf k = .W)

/-- R349: the link reset. -/
def State.linkResetNow (s : State) : State :=
  let s := (s.opsEnded).rewindAll
  let s := s.keepE (fun k => !leatEntry k)
  let s := ((s.setE 0x1018 1 0xFFFF).setE 0x1018 2 0xFF).setE 0x1018 3 0xFFFFFFFF
  let s := { s with leat := { Leat.reset with ports := s.leat.ports } }
  let s := (s.readStraps).bump 0x3500 9
  [0, 1, 2, 3, 4].foldl (fun s p => s.train p none) s

/-- LINK_RESET (R349). -/
def execLinkReset (broadcast : Bool) (s : State) : Result :=
  .next (s.live (!broadcast || s.resetDue) State.linkResetNow)

/-- R342: a path notice counts only on a hub that was assigned with DUAL_HOMED. -/
def State.pathBit (s : State) (south lost : Bool) : State :=
  if s.flagged 0x3500 4 8 then s.chainBit (if south then 5 else 4) lost else s

/-- PATH_LOST (R342). -/
def execPathLost (p : Port) (south : Bool) (s : State) : Result :=
  .next (s.live (s.up (portIdx p) && s.consumes) (fun s => (s.take (enumOf 5)).pathBit south true))

/-- PATH_RESTORED (R342). -/
def execPathRestored (p : Port) (south : Bool) (s : State) : Result :=
  .next (s.live (s.up (portIdx p) && s.consumes) (fun s => (s.take (enumOf 6)).pathBit south false))

end Sys2Proof.Machine
end

