-- ==== Sys2Proof/Machine/PlanCmds.lean ====
section
/-! DEFINITION. Meanings of the commands of the sample plan (chapter 04), of wire faults and Sounding (chapter 05) and
of the Millstones (chapter 06). -/

namespace Sys2Proof.Machine

/-! ### The plan -/

/-- PLAN_START (R100). -/
def execPlanStart (s : State) : Result := .next (s.live s.startDue State.planBegins)

/-- ROTATION_START (R100, R104). -/
def execRotationStart (g : Fin 128) (s : State) : Result :=
  .next (s.live (s.rotationDue g).isSome (fun s => s.rotate g))

/-- R97, R502: the converter of a group acts in a channel entry; a die whose rail is out of range keeps no record. -/
def State.convertChannel (s : State) (g i : Nat) (second : Bool) (sched : Int) (code : Int) (beyond : Bool) : State :=
  let c := entryChan g ((s.entries g).getD i 0)
  if s.railOut g then s.setGroup g { s.group g with missing := addMissing c s.now sched (s.group g).missing }
  else
    let a := s.sample c i second code beyond s.now
    a.2.pushRaw g { a.1 with sched := sched }

/-- R126, R134: a due check; a member in listen mode applies no pull current (R86). -/
def State.checkEntry (s : State) (g i : Nat) (sched : Int) (code : Int) : State :=
  let c := entryChan g ((s.entries g).getD i 0)
  let now := s.now
  if s.listening || s.railOut g then s
  else
    let judged := (s.chan c).lastRaw.isSome && !s.blanked c now
    let t := s.checkConversion c code now
    (if judged then t.mirrorCheck c i (decide ((t.chan c).lastClean ≠ some now)) sched else t).fresh

/-- R97: the converter acts in the next entry of the rotation in progress, at the first tick at or after its scheduled
instant. -/
def State.convert (s : State) (g : Nat) (second : Bool) (code : Int) (beyond : Bool) : State :=
  let x := s.group g
  match x.origin with
  | none => s
  | some o => match s.nextEntry g o with
    | none => s
    | some i =>
      let sched := s.scheduled g o i second
      if second ≠ x.second ∨ s.now < sched then s
      else
        let t := if entryKind ((s.entries g).getD i 0) = 0 then s.convertChannel g i second sched code beyond
          else s.checkEntry g i sched code
        t.advance g i second

/-- CONVERSION (R97). -/
def execConversion (g : Fin 128) (second : Bool) (code : BitVec 18) (beyondRail : Bool) (s : State) : Result :=
  .next (s.live true (fun s => s.convert g second code.toInt beyondRail))

/-- EVT_QUALIFY (R104). -/
def execEvtQualify (k : Fin 4) (high : Bool) (width : BitVec 32) (s : State) : Result :=
  .next (s.live true (fun s => s.evtPulse k high width.toNat))

/-- R104: the EVT delay since a qualified pulse has passed. -/
def State.burstDue (s : State) (k : Nat) : Bool :=
  match s.evtFire.lookup k with | some t => decide (t ≤ s.now) | none => false

/-- BURST_START (R104). -/
def execBurstStart (k : Fin 4) (s : State) : Result := .next (s.live (s.burstDue k) (fun s => s.startBursts k))

/-- BURST_END (R104). -/
def execBurstEnd (g : Fin 128) (s : State) : Result := .next (s.live (s.burstDone g) (fun s => s.endRotation g 3))

/-- GAP_RECORD (R112). -/
def execGapRecord (g : Fin 128) (s : State) : Result := .next (s.live true (fun s => s.sendGaps g))

/-- R102: a group that has completed its rotation stops; what its raw buffer holds goes through the Millstones. -/
def State.stopGroup (s : State) (g : Nat) : State :=
  let s := (s.drain g).endRotation g 1
  (s.setGroup g { s.group g with stopping := false }).settlePower

/-- GROUP_STOP (R102). -/
def execGroupStop (g : Fin 128) (s : State) : Result := .next (s.live (s.groupStops g) (fun s => s.stopGroup g))

/-! ### Wire faults and Sounding -/

/-- Subindex of a detector setting. -/
def detectorSettingSub : DetectorSetting → Nat | .openWire => 0x11 | .excursion => 0x14

/-- DETECTOR_SETTING_WRITE (R505): a host write of 0x2400.11 or .14. -/
def execDetectorSettingWrite (r : Req) (c : Fin 512) (e : DetectorSetting) (v : BitVec 8) (s : State) : Result :=
  .next (s.hostWrite (.detectorSettingWrite r c e v) r (0x2400 + c) (detectorSettingSub e) (toBytes 1 v.toNat))

/-- SOUNDING_SWEEP (R139): a host write of 0x1421.01. -/
def execSoundingSweep (r : Req) (args : List Byte) (s : State) : Result :=
  .next (s.hostWrite (.soundingSweep r args) r (opr 0x21) 1 args)

/-- Number of a port die. -/
def dieIdx : Die → Nat | .A => 0 | .B => 1

/-- SOUNDING_CHANNEL_DONE (R139). -/
def execSoundingChannelDone (die : Die) (z : SoundingEstimate) (s : State) : Result :=
  .next (s.live (s.tone (dieIdx die)).fallen (fun s => s.soundDone (dieIdx die) z))

/-- TONE_PERIOD_END (R135, R138). -/
def execTonePeriodEnd (die : Die) (s : State) : Result :=
  .next (s.live (s.tonePeriodDue (dieIdx die)) (fun s => s.tonePeriod (dieIdx die)))

/-! ### Millstones -/

/-- R144, R365, R368: a raw record leaves its group's buffer; a ready standby only compares its own with the active's. -/
def State.takeRaw (s : State) (g : Nat) : State :=
  match s.popRaw g with
  | none => s
  | some (r, t) => if t.role = 3 then t.ownRaw r else t.takeRecord r

/-- RAW_RECORD (R144). -/
def execRawRecord (g : Fin 128) (s : State) : Result := .next (s.live true (fun s => s.takeRaw g))

/-- COEFFICIENTS_WRITE (R158): a host write of 0x2C00.01. -/
def execCoefficientsWrite (r : Req) (k : Fin 32) (taps : List Byte) (s : State) : Result :=
  .next (s.hostWrite (.coefficientsWrite r k taps) r (0x2C00 + k) 1 taps)

/-- FIR_SET_CLEAR (R160): a host write of 0x2C00.07. -/
def execFirSetClear (r : Req) (k : Fin 32) (v : BitVec 8) (s : State) : Result :=
  .next (s.hostWrite (.firSetClear r k v) r (0x2C00 + k) 7 (toBytes 1 v.toNat))

/-- COEFFICIENT_BLOCK_WRITE (R174): a host write of 0x2A00.19. -/
def execCoefficientBlockWrite (r : Req) (c : Fin 512) (bytes : List Byte) (s : State) : Result :=
  .next (s.hostWrite (.coefficientBlockWrite r c bytes) r (0x2A00 + c) 0x19 bytes)

/-- R172: a reading of a port die sensor. Every one is kept: outputs of a run have instants before its start. -/
def State.dieRead (s : State) (die : Nat) (v : Nat) : State := { s with dieTemps := (die, s.now, v) :: s.dieTemps }

/-- DIE_SENSOR_READ (R172). -/
def execDieSensorRead (die : Die) (reading : BitVec 32) (s : State) : Result :=
  .next (s.live true (fun s => s.dieRead (dieIdx die) reading.toNat))

end Sys2Proof.Machine
end

