-- ==== Sys2Proof/Machine/TwinCmds.lean ====
section
/-! DEFINITION. Meanings of the commands of twin operation (chapter 13). Commands that the T port brings in take the
oldest consumed frame of their type; an item's content is the command's operand. -/

namespace Sys2Proof.Machine

/-- What the T port brings in: taken while the hub is up, in Ladder operation and the T port is UP. -/
def State.fromTwin (s : State) (ftype : Nat) (f : State → State) : State :=
  s.live (s.ladder && s.up 4 && s.consumes) (fun s => f (s.take (fun g => decide (g.ftype = ftype))))

/-! ### Raw words and items -/

/-- R357, R364, R365: only a ready standby takes raw words. They say that its active has started: where the standby's own
plan start is still awaited, it begins first (DEDUCED, log entry 41). -/
def State.takeWords (s : State) (ws : List Nat) : State :=
  if s.role ≠ 3 then s
  else ws.foldl State.twinWord (if s.power.trans = .start ∧ ws ≠ [] then s.planBegins else s)

/-- TWIN_RAW (R357, R365). -/
def execTwinRaw (words : List (BitVec 64)) (s : State) : Result :=
  .next (s.fromTwin 7 (fun s => s.takeWords (words.map BitVec.toNat)))

/-- HEARTBEAT (R359). -/
def execHeartbeat (h : HeartbeatItem) (s : State) : Result :=
  .next (s.live (s.up 4 && s.consumes) (fun s => (s.take (fun g => decide (g.ftype = 8))).takeHeartbeat h))

/-- R359: an active member owes a HEARTBEAT every 10 µs. -/
def State.heartbeatDue (s : State) : Bool :=
  s.up 4 && decide (s.role = 4 ∨ s.role = 5) && (match s.twin.sentAt with
    | some t => decide (t + tickUs 10 ≤ s.gov.ticks)
    | none => true)

/-- HEARTBEAT_SEND (R359). -/
def execHeartbeatSend (s : State) : Result := .next (s.live s.heartbeatDue State.sendHeartbeat)

/-- HEARTBEAT_SILENCE (R369, R371). -/
def execHeartbeatSilence (s : State) : Result := .next (s.live (s.ladder && s.silence) State.onSilence)

/-- COMMIT (R366). -/
def execCommit (m : CommitItem) (s : State) : Result := .next (s.fromTwin 8 (fun s => s.takeCommit m))

/-- CONFIRM (R367). -/
def execConfirm (q : Fin 8) (record : BitVec 32) (s : State) : Result :=
  .next (s.fromTwin 8 (fun s => s.takeConfirm q record.toNat))

/-- RECORD (R366). -/
def execRecord (q : Fin 8) (bytes : List Byte) (s : State) : Result :=
  .next (s.fromTwin 8 (fun s => s.takeRecordItem q bytes))

/-- TWIN_CREDIT (R367): the partner's CREDIT payload; only an active member applies its credit limit. -/
def execTwinCredit (m : CreditMsg) (s : State) : Result := .next (s.fromTwin 8 (fun s => s.applyCredit m))

/-- DROP (R366). -/
def execDrop (st : Fin 16384) (first : BitVec 32) (s : State) : Result :=
  .next (s.fromTwin 8 (fun s => s.takeDrop st first.toNat))

/-! ### Commands of the partner -/

/-- RELINQUISH (R369): a ready standby takes over. -/
def execRelinquish (_cause : BitVec 8) (s : State) : Result :=
  .next (s.fromTwin 9 (fun s => if s.role = 3 then s.takeover 2 else s))

/-- R372: a ready standby notes the swap instant. The spec gives no frame for a swap asked for at the standby: it sends
SWAP_AT itself, and its active then fixes the instant (DESIGN CHOICE, log entry 41). -/
def State.noteSwap (s : State) (t : Nat) : State :=
  if s.role = 3 then { s with twin := { s.twin with swapAt := some (ofTime96 t) } }
  else if s.role = 4 ∧ s.twin.swapAt.isNone then s.planSwap
  else s

/-- SWAP_AT (R372). -/
def execSwapAt (t : BitVec 96) (s : State) : Result := .next (s.fromTwin 9 (fun s => s.noteSwap t.toNat))

/-- SWAP_INSTANT (R372): acts once domain 0 has reached the instant. -/
def execSwapInstant (s : State) : Result := .next (s.live s.ladder State.swapNow)

/-- R364: a ready standby in Idle starts with its active at S. -/
def State.twinStart (s : State) (t : Nat) : State :=
  if s.role = 3 ∧ s.powerState = 0 ∧ s.planState = 0 then
    ((s.setE 0x2790 3 t).setE 0x1200 2 1).setTrans .start
  else s

/-- TWIN_RUN (R364). -/
def execTwinRun (t : BitVec 96) (s : State) : Result := .next (s.fromTwin 9 (fun s => s.twinStart t.toNat))

/-- R363: the active has given the pairing up. -/
def State.pairingDropped (s : State) (target : Nat) : Bool :=
  decide (target = 0) && (decide (s.role = 2) || decide (s.role = 3 ∧ s.powerState = 0 ∧ s.twin.partner = some 5 ∧ s.twin.seam = none))

/-- R363, R364: a ready standby enters the power state that its active enters; a copy that was given up goes. -/
def State.twinFollow (s : State) (target : Nat) : State :=
  if s.pairingDropped target then s.unpair
  else if s.role ≠ 3 then s
  else match target with
    | 0 =>
      if s.powerState = 2 then s.leaveStill.enterIdle true
      else if s.powerState = 0 then s
      else s.beginStop .toIdle
    | 2 => if s.powerState = 2 then s else s.park.beginStop .toStill
    | 3 => if s.powerState = 0 ∨ s.powerState = 2 then s.enterDormant else s
    | _ => s

/-- TWIN_STOP (R364). -/
def execTwinStop (target : BitVec 8) (s : State) : Result :=
  .next (s.fromTwin 9 (fun s => s.twinFollow target.toNat))

/-- PAIR_BEGIN (R363). -/
def execPairBegin (_total : BitVec 32) (_queues : BitVec 16) (s : State) : Result :=
  .next (s.fromTwin 9 State.pairBegun)

/-- COPY (R363). -/
def execCopy (q : Fin 8) (record : BitVec 32) (offset : BitVec 16) (bytes : List Byte) (s : State) : Result :=
  .next (s.fromTwin 9 (fun s => s.takeCopy q record.toNat offset.toNat bytes))

/-- PAIR_END (R363). -/
def execPairEnd (points : Vector (BitVec 32) 8) (s : State) : Result :=
  .next (s.fromTwin 9 (fun s => s.takePairEnd (points.toList.map BitVec.toNat)))

/-! ### Commands of the host, and time -/

/-- TWIN_PAIR (R363): a host write of 0x1440.01. -/
def execTwinPair (r : Req) (args : List Byte) (s : State) : Result :=
  .next (s.hostWrite (.twinPair r args) r (opr 0x40) 1 args)

/-- ROLE_SWAP (R372): Role command 1. -/
def execRoleSwap (r : Req) (s : State) : Result := .next (s.hostWrite (.roleSwap r) r 0x3600 3 (toBytes 1 1))

/-- ROLE_FORCED_SWAP (R372): Role command 2. -/
def execRoleForcedSwap (r : Req) (s : State) : Result :=
  .next (s.hostWrite (.roleForcedSwap r) r 0x3600 3 (toBytes 1 2))

/-- ROLE_STEP_DOWN (R373): Role command 3. -/
def execRoleStepDown (r : Req) (s : State) : Result := .next (s.hostWrite (.roleStepDown r) r 0x3600 3 (toBytes 1 3))

/-- ROLE_WAIT_EXPIRY (R354). -/
def execRoleWaitExpiry (s : State) : Result := .next (s.live s.roleReady State.takeRole)

/-- PARTNER_HELD (R371): PARTNER_HELD with the T port UP, PARTNER_LOST with it down. -/
def execPartnerHeld (s : State) : Result :=
  .next (s.live s.partnerGone (fun s => s.twinBit (if s.up 4 then 0 else 1) true))

/-- EXCITATION_DEFERRED_ENABLE (R370). -/
def execExcitationDeferredEnable (g : Fin 128) (s : State) : Result :=
  .next (s.live (s.xport g).deferred (fun s => s.enableDeferred g))

/-- R375: the hours since the last planned swap have reached Proof interval. -/
def State.proofDue (s : State) : Bool := s.ladder && decide (s.e 0x3600 8 ≤ s.hoursSince)

/-- PROOF_DUE (R375). It brings no hours: the hub counts them. -/
def execProofDue (_hours : Unit) (s : State) : Result := .next (s.live s.proofDue (fun s => s.twinBit 5 true))

/-- RESET_PARTNER (R456): a host write of 0x1200.04. -/
def execResetPartner (r : Req) (v : BitVec 8) (s : State) : Result :=
  .next (s.hostWrite (.resetPartner r v) r 0x1200 4 (toBytes 1 v.toNat))

/-- TWRST_N (R456): a standby performs the twin-commanded reset; any other member ignores the input. -/
def execTwrstN (s : State) : Result := .next (s.live s.listening (fun s => s.beginWarm true))

end Sys2Proof.Machine
end

