-- ==== Sys2Proof/Machine/PowerCmds.lean ====
section
/-! DEFINITION. Meanings of the commands of start, reset and power states (chapter 16), of the port dies' rails (R502)
and of the TAP (R501). -/

namespace Sys2Proof.Machine

/-! ### Resets -/

/-- POWER_ON_RESET (R443). -/
def execPowerOnReset (s : State) : Result := .next (s.hardReset 1)

/-- R491: a clock that goes missing after start is a power-on reset; before the PLL lock it only keeps the PLL from
locking. -/
def State.clockLost (s : State) : State :=
  let t := { s with pins := { s.pins with ocxoClk := false } }
  if s.power.phase = .awaitPll then t else t.hardReset 1

/-- OCXO_CLK_MISSING (R491). -/
def execOcxoClkMissing (s : State) : Result := .next s.clockLost

/-- R453: RESET_N has been low for 20 µs. A hub whose PLL has not locked waits on (R444). -/
def State.resetHeld (s : State) : State :=
  let t := { s with pins := { s.pins with resetN := false } }
  if s.power.phase = .awaitPll then t else t.hold

/-- RESET_N_LOW (R453). -/
def execResetNLow (s : State) : Result := .next s.resetHeld

/-- R453: RESET_N rises after a hold: a pin reset, unless a TAP instruction still holds the hub (R501). -/
def State.resetReleased (s : State) : State :=
  let t := { s with pins := { s.pins with resetN := true } }
  if s.power.phase = .held ∧ !s.power.tapHold then t.hardReset 2 else t

/-- PIN_RESET (R453). -/
def execPinReset (s : State) : Result := .next s.resetReleased

/-- R444: the PLL locks, with RESET_N high and the clock there. -/
def State.locked (s : State) : State :=
  { s with power := { s.power with phase := .awaitStart }, pins := { s.pins with ocxoClk := true } }

/-- PLL_LOCK (R444). -/
def execPllLock (s : State) : Result :=
  .next (if s.power.phase = .awaitPll ∧ s.pins.resetN ∧ !s.power.tapHold then s.locked else s)

/-- WATCHDOG_EXPIRY (R455). -/
def execWatchdogExpiry (s : State) : Result := .next (s.live true (fun s => s.hardReset 3))

/-- WATCHDOG_WARNING (R455, R369). -/
def execWatchdogWarning (s : State) : Result := .next (s.live true State.relinquish)

/-- WARM_RESET (R454): a host write of 0x1200.03. -/
def execWarmReset (r : Req) (v : BitVec 8) (s : State) : Result :=
  .next (s.hostWrite (.warmReset r v) r 0x1200 3 (toBytes 1 v.toNat))

/-- R501: a TAP instruction other than BYPASS and IDCODE holds the hub; the next of those two lets it go. -/
def State.tapGiven (s : State) (i : TapInstr) : State :=
  let held := decide (i = .other)
  let t := { s with power := { s.power with tapHold := held } }
  if held then (if s.power.phase = .awaitPll then t else t.hold)
  else if s.power.phase = .held ∧ s.power.tapHold ∧ s.pins.resetN then t.hardReset 2
  else t

/-- TAP_INSTRUCTION (R501). -/
def execTapInstruction (i : TapInstr) (s : State) : Result := .next (s.tapGiven i)

/-! ### The start (R447) -/

/-- R447 step 2: the straps, the seal pins and the energy class. -/
def State.pinsRead (s : State) : State :=
  let w := s.pins.sealSw
  let c := w / 4096 % 8
  (((s.readStraps).setE 0x3810 1 w).setE 0x3810 2 w).setE 0x2690 1 (if c < 5 then c else 0xFF)

/-- R447 step 5: bring-up of every enabled port. In Ladder operation the role is found under R354; until then the hub
listens (DEDUCED, log entry 40). -/
def State.portsBegin (s : State) : State :=
  let s := [0, 1, 2, 3, 4].foldl (fun s p => s.train p none) s
  if s.e (lp 4) 1 = 1 then
    { s.setRole 1 with twin := { Twin.reset with since := s.gov.ticks, roleWait := some (s.gov.ticks + tickUs 2000000) } }
  else s.setRole 0

/-- R447: the start, steps 2 to 6. -/
def State.starts (s : State) (flashAnswers : Bool) (errors : List FlashError) : State :=
  let s := (s.pinsRead).restoreStart flashAnswers errors
  let s := ((s.sealCompare).safetyStart).sailsStart
  let s := (s.portsBegin).setE 0x1200 2 0
  { s with power := { s.power with phase := .up } }

/-- START (R447). -/
def execStart (flashAnswers : Bool) (errors : List FlashError) (s : State) : Result :=
  .next (if s.power.phase = .awaitStart then s.starts flashAnswers errors else s)

/-! ### Power states -/

/-- IDLE_COMMAND (R459): Power command 0. -/
def execIdleCommand (r : Req) (s : State) : Result := .next (s.hostWrite (.idleCommand r) r 0x1200 1 (toBytes 1 0))

/-- RUN_COMMAND (R458): Power command 1. -/
def execRunCommand (r : Req) (s : State) : Result := .next (s.hostWrite (.runCommand r) r 0x1200 1 (toBytes 1 1))

/-- STILL_COMMAND (R460): Power command 2. -/
def execStillCommand (r : Req) (s : State) : Result := .next (s.hostWrite (.stillCommand r) r 0x1200 1 (toBytes 1 2))

/-- DORMANT_COMMAND (R461): Power command 3. -/
def execDormantCommand (r : Req) (s : State) : Result :=
  .next (s.hostWrite (.dormantCommand r) r 0x1200 1 (toBytes 1 3))

/-- Bit and code of a wake source (0x1200.0B, 0x1200.0C). -/
def wakeBit : WakeSource → Nat | .wakeN => 0 | .wakeTime => 1 | .nSignal => 2

/-- R462: an enabled wake source is active; the wake time is reached by domain 0, and 0 names none. -/
def State.wakes (s : State) (w : WakeSource) : Bool :=
  decide (s.power.phase = .dormant) && bit (s.e 0x1200 0x0B) (wakeBit w) &&
  (decide (w ≠ .wakeTime) || (decide (s.e 0x1200 0x0A ≠ 0) && decide (ofTime96 (s.e 0x1200 0x0A) ≤ s.now)))

/-- R462: the wake: the start of R447 follows. -/
def State.wake (s : State) (w : WakeSource) : State := (s.hardReset 6).setE 0x1200 0x0C (wakeBit w + 1)

/-- DORMANT_WAKE (R462). -/
def execDormantWake (w : WakeSource) (s : State) : Result := .next (if s.wakes w then s.wake w else s)

/-- RAIL_MEASURE (R446). -/
def execRailMeasure (m : RailReading) (s : State) : Result := .next (s.live true (fun s => s.railsMeasured m))

/-! ### Requests that waited (R454) -/

/-- R454: the request that waited longest for the end of a warm reset, once it has ended. -/
def State.nextDeferred (s : State) : Option (Instr × State) :=
  match s.power.trans, s.power.deferred with
  | .warm _, _ => none
  | _, i :: r => some (i, { s with power := { s.power with deferred := r, replay := true } })
  | _, [] => none

/-- R454: the request has been taken. -/
def State.replayed (s : State) : State := { s with power := { s.power with replay := false } }

/-! ### Port dies (R502) -/

/-- Note a die's rails as out of range, or back. -/
def State.setRail (s : State) (die : Die) (out : Bool) : State :=
  { s with power := match die with
    | .A => { s.power with railA := out }
    | .B => { s.power with railB := out } }

/-- PORT_DIE_RAIL_FAULT (R502): the die's ports discharge and keep their Output enable. -/
def execPortDieRailFault (die : Die) (s : State) : Result :=
  .next (s.live true (fun s => (s.portsOf (dieIdx die)).foldl State.portOff (s.setRail die true)))

/-- R502: ports with Output enable 1 come on again, where nothing else keeps them off. -/
def State.railBack (s : State) (die : Die) : State :=
  let t := s.setRail die false
  if t.mayDrive then (t.portsOf (dieIdx die)).foldl State.comeOn t else t

/-- PORT_DIE_RAIL_RETURN (R502). -/
def execPortDieRailReturn (die : Die) (s : State) : Result := .next (s.live true (fun s => s.railBack die))

end Sys2Proof.Machine
end

