-- ==== Sys2Proof/Machine/SafetyCmds.lean ====
section
/-! DEFINITION. Meanings of the commands of the safety functions and of Scrim (chapter 14). -/

namespace Sys2Proof.Machine

/-! ### Inputs, trips and comparators -/

/-- SAFETY_TICK (R379). -/
def execSafetyTick (pins : SafetyPins) (mismatch : Bool) (s : State) : Result :=
  .next (s.live s.safeOn (fun s => s.tick10 pins mismatch))

/-- DEBOUNCE_ACCEPT (R382, R383). -/
def execDebounceAccept (i : Fin 16) (chB : Bool) (s : State) : Result :=
  .next (s.live s.safeOn (fun s => (s.debounce i chB).inputFollow i))

/-- DISCREPANCY_FAULT (R384). -/
def execDiscrepancyFault (i : Fin 16) (s : State) : Result :=
  .next (s.live s.safeOn (fun s => (s.discrepancy i).inputFollow i))

/-- R393: two consecutive differences between a trip pin and its readback, not yet reported. -/
def State.readbackDiffers (s : State) (n : Nat) (chB : Bool) : Bool :=
  s.tripOn n && !s.flagged (tripr n) 0x0A (if chB then 2 else 1) && decide (2 ≤ (if chB then (s.trip n).diffB else (s.trip n).diffA))

/-- READBACK_FAULT (R393). -/
def execReadbackFault (n : Fin 8) (chB : Bool) (s : State) : Result :=
  .next (s.live (s.safeOn && s.readbackDiffers n chB) (fun s => s.readbackFault n chB))

/-- TICK_OVERRUN (R379): the hardware watchdog drives every trip pin low. -/
def execTickOverrun (s : State) : Result :=
  .next (s.live s.safeOn (fun s => (s.flag 0x3810 4 4 true).pinsLow))

/-- TEST_PULSE (R394). -/
def execTestPulse (n : Fin 8) (chB : Bool) (s : State) : Result :=
  .next (s.live (s.safeOn && s.pulseDue n chB) (fun s => (s.startPulse n chB).drive n))

/-- INPUT_ACKNOWLEDGE (R386): a host write of 0x3800.06. -/
def execInputAcknowledge (r : Req) (i : Fin 16) (v : BitVec 8) (s : State) : Result :=
  .next (s.hostWrite (.inputAcknowledge r i v) r (sin i) 6 (toBytes 1 v.toNat))

/-- TRIP_ACKNOWLEDGE (R391): a host write of 0x3820.0B. -/
def execTripAcknowledge (r : Req) (n : Fin 8) (v : BitVec 8) (s : State) : Result :=
  .next (s.hostWrite (.tripAcknowledge r n v) r (tripr n) 0x0B (toBytes 1 v.toNat))

/-- An enabled comparator. -/
def State.cmpOn (s : State) (l : Nat) : Bool := s.enabledCmps.contains l

/-- COMPARATOR_STALE (R388). -/
def execComparatorStale (l : Fin 256) (s : State) : Result :=
  .next (s.live (s.safeOn && s.cmpOn l && s.cmpStale l) (fun s => s.cmpDemand l))

/-- COMPARATOR_INVALID_HOLD (R388). -/
def execComparatorInvalidHold (l : Fin 256) (s : State) : Result :=
  .next (s.live (s.safeOn && s.cmpOn l && s.cmpInvalid l) (fun s => s.cmpDemand l))

/-! ### Scrim -/

/-- SCRIM_PRODUCE (R404). -/
def execScrimProduce (k : Fin 64) (s : State) : Result := .next (s.live (s.produceDue k) (fun s => s.produce k))

/-- SCRIM_MESSAGE (R405). -/
def execScrimMessage (bytes : List Byte) (s : State) : Result :=
  .next (s.live s.consumes (fun s => (s.take (fun f => decide (f.ftype = 5 ∧ f.payload = bytes))).scrimReceive bytes))

/-- SCRIM_WATCHDOG (R405). -/
def execScrimWatchdog (k : Fin 64) (s : State) : Result := .next (s.live (s.scrimLate k) (fun s => s.scrimFail k 4))

/-- SCRIM_RESET (R406): a host write of 0x3B00.0B. -/
def execScrimReset (r : Req) (k : Fin 64) (v : BitVec 8) (s : State) : Result :=
  .next (s.hostWrite (.scrimReset r k v) r (scr k) 0x0B (toBytes 1 v.toNat))

/-- CONNECTION_ENABLE_WRITE (R402): a host write of 0x3B00.01. -/
def execConnectionEnableWrite (r : Req) (k : Fin 64) (v : BitVec 8) (s : State) : Result :=
  .next (s.hostWrite (.connectionEnableWrite r k v) r (scr k) 1 (toBytes 1 v.toNat))

end Sys2Proof.Machine
end

