-- ==== Sys2Proof/Machine/SailCmds.lean ====
section
/-! DEFINITION. Meanings of the commands of Sail (chapter 07), of the angle grids (chapter 08), of streams and the
admission check (chapter 09). -/

namespace Sys2Proof.Machine

/-! ### Sail -/

/-- R183, R187: an edge arrives: a stamped one serves its Sail's mode, and the angle grids that name the Sail. -/
def State.sailEdgeAt (s : State) (n : Nat) (rising : Bool) (f : Nat) : State :=
  let a := s.sailArrives n rising f
  match a.1 with
  | none => a.2
  | some e =>
    let t := a.2.sailUse n e
    if s.selected n rising then t.gridEdge n e else t

/-- SAIL_EDGE (R183). -/
def execSailEdge (n : Fin 8) (rising : Bool) (f : Fin 512) (s : State) : Result :=
  .next (s.live true (fun s => s.sailEdgeAt n rising f))

/-- ARM_TIMEOUT (R191). -/
def execArmTimeout (n : Fin 8) (s : State) : Result := .next (s.live (s.sailTimedOut n) (fun s => s.sailClose n true))

/-- GATE_EVENT (R188, R189). -/
def execGateEvent (g : Fin 4) (level : GatePulse) (s : State) : Result :=
  .next (s.live true (fun s => s.gateLevel g level.level level.ticks.toNat))

/-- ARM (R189): a host write of 0x2E00.0C. -/
def execArm (r : Req) (n : Fin 8) (v : BitVec 8) (s : State) : Result :=
  .next (s.hostWrite (.arm r n v) r (sail n) 0x0C (toBytes 1 v.toNat))

/-- R194: the window in progress ends when Measure time has passed. -/
def State.windowOver (s : State) (n : Nat) : State :=
  match s.windowDone n with
  | some t => s.windowEnd n t
  | none => s

/-- MEASURE_WINDOW_END (R194). -/
def execMeasureWindowEnd (n : Fin 8) (s : State) : Result := .next (s.live true (fun s => s.windowOver n))

/-- FIRST_WINDOW_START (R194). -/
def execFirstWindowStart (n : Fin 8) (s : State) : Result := .next (s.live true (fun s => s.firstWindow n))

/-- SAIL_CALIBRATION (R184). -/
def execSailCalibration (n : Fin 8) (temperature : BitVec 16) (s : State) : Result :=
  .next (s.live (s.calibrationDue n temperature.toInt) (fun s => s.sailCalibrated n temperature.toInt))

/-- SAIL_START_CALIBRATION_DONE (R184). -/
def execSailStartCalibrationDone (temperature : BitVec 16) (s : State) : Result :=
  .next (s.live true (fun s => s.startCalibrated temperature.toInt))

/-- QUEUE_POP (R197): a READ of 0x2E00.0D. -/
def execQueuePop (r : Req) (n : Fin 8) (s : State) : Result := .next (s.readRequest (.queuePop r n) r (sail n) 0x0D)

/-- SAIL_QUEUE_MARK (R197): a host write of 0x2E00.10. -/
def execSailQueueMark (r : Req) (n : Fin 8) (v : BitVec 8) (s : State) : Result :=
  .next (s.hostWrite (.sailQueueMark r n v) r (sail n) 0x10 (toBytes 1 v.toNat))

/-- SAIL_QUEUE_REWIND (R197): a host write of 0x2E00.11. -/
def execSailQueueRewind (r : Req) (n : Fin 8) (v : BitVec 8) (s : State) : Result :=
  .next (s.hostWrite (.sailQueueRewind r n v) r (sail n) 0x11 (toBytes 1 v.toNat))

/-- SAIL_QUEUE_RELEASE (R197): a host write of 0x2E00.12. -/
def execSailQueueRelease (r : Req) (n : Fin 8) (v : BitVec 8) (s : State) : Result :=
  .next (s.hostWrite (.sailQueueRelease r n v) r (sail n) 0x12 (toBytes 1 v.toNat))

/-! ### Angle grids -/

/-- TOOTH_TIMEOUT (R214). -/
def execToothTimeout (a : Fin 4) (s : State) : Result := .next (s.live (s.toothLate a) (fun s => s.toothError a))

/-- STANDSTILL (R222). -/
def execStandstill (a : Fin 4) (s : State) : Result := .next (s.live (s.stoodStill a) (fun s => s.standStill a))

/-- PHASE_FLIP (R216): a host write of 0x2F00.0E. -/
def execPhaseFlip (r : Req) (a : Fin 4) (v : BitVec 8) (s : State) : Result :=
  .next (s.hostWrite (.phaseFlip r a v) r (gridr a) 0x0E (toBytes 1 v.toNat))

/-- SUSPEND (R222): a host write of 0x2F00.0F. -/
def execSuspend (r : Req) (a : Fin 4) (v : BitVec 8) (s : State) : Result :=
  .next (s.hostWrite (.suspend r a v) r (gridr a) 0x0F (toBytes 1 v.toNat))

/-! ### Streams and the admission check -/

/-- ALLOCATE (R230): a host write of 0x3100.02. -/
def execAllocate (r : Req) (v : BitVec 8) (s : State) : Result :=
  .next (s.hostWrite (.allocate r v) r 0x3100 2 (toBytes 1 v.toNat))

/-- PLAN_CHECK (R248): a host write of 0x1420.01. -/
def execPlanCheck (r : Req) (args : List Byte) (s : State) : Result :=
  .next (s.hostWrite (.planCheck r args) r (opr 0x20) 1 args)

/-- R252, R253: PLAN_CHECK writes its verdict, and a Run command that waits for it goes on or is refused. -/
def State.checkEnds (s : State) : State :=
  let done := max (s.e (opr 0x20) 3) (s.checkedPermille (s.checkedUpTo s.checkFault))
  let s := s.writeVerdict
  let v := s.e 0x3100 0x11
  ((s.opDone 0x20 v).setE (opr 0x20) 3 done).runVerdict (decide (v = 1))

/-- PLAN_CHECK_COMPLETE (R252). -/
def execPlanCheckComplete (s : State) : Result :=
  .next (s.live (decide (s.e (opr 0x20) 2 = 1)) State.checkEnds)

/-- PACE_MEASURE (R254). -/
def execPaceMeasure (intake screed hopper : BitVec 16) (s : State) : Result :=
  .next (s.live true (fun s => s.paceMeasured intake.toNat screed.toNat hopper.toNat))

end Sys2Proof.Machine
end

