-- ==== Sys2Proof/Machine/ServiceCmds.lean ====
section
/-! DEFINITION. Meanings of the SERVICE requests (R411 to R418), of the long operations (R427 to R434) and of the event
log's commands (R437). -/

namespace Sys2Proof.Machine

/-! ### Requests -/

/-- READ (R413). -/
def execRead (r : Req) (idx : BitVec 16) (sub : BitVec 8) (s : State) : Result :=
  .next (s.readRequest (.read r idx sub) r idx.toNat sub.toNat)

/-- WRITE (R413). -/
def execWrite (r : Req) (idx : BitVec 16) (sub : BitVec 8) (total : BitVec 16) (last : Bool) (data : List Byte)
    (s : State) : Result :=
  .next (s.writeRequest (.write r idx sub total last data) r idx.toNat sub.toNat total.toNat last data)

/-- UPLOAD_SEGMENT (R414). -/
def execUploadSegment (r : Req) (idx : BitVec 16) (sub : BitVec 8) (toggle : Bool) (s : State) : Result :=
  .next (s.uploadRequest (.uploadSegment r idx sub toggle) r idx.toNat sub.toNat toggle)

/-- DOWNLOAD_SEGMENT (R414). -/
def execDownloadSegment (r : Req) (idx : BitVec 16) (sub : BitVec 8) (toggle last : Bool) (data : List Byte)
    (s : State) : Result :=
  .next (s.downloadRequest (.downloadSegment r idx sub toggle last data) r idx.toNat sub.toNat toggle last data)

/-- DOMAIN_START (R415). -/
def execDomainStart (r : Req) (idx : BitVec 16) (sub : BitVec 8) (total : BitVec 32) (s : State) : Result :=
  .next (s.domainStartRequest (.domainStart r idx sub total) r idx.toNat sub.toNat total.toNat)

/-- DOMAIN_SEGMENT (R415). -/
def execDomainSegment (r : Req) (idx : BitVec 16) (sub : BitVec 8) (num : BitVec 16) (last : Bool) (data : List Byte)
    (s : State) : Result :=
  .next (s.domainSegmentRequest (.domainSegment r idx sub num last data) r idx.toNat sub.toNat num.toNat last data)

/-- DOMAIN_END (R415). -/
def execDomainEnd (r : Req) (idx : BitVec 16) (sub : BitVec 8) (crc : BitVec 32) (s : State) : Result :=
  .next (s.domainEndRequest (.domainEnd r idx sub crc) r idx.toNat sub.toNat crc.toNat)

/-- CANCEL (R416). -/
def execCancel (r : Req) (idx : BitVec 16) (sub : BitVec 8) (s : State) : Result :=
  .next (s.cancelRequest (.cancel r idx sub) r idx.toNat sub.toNat)

/-- TRANSFER_TIMEOUT (R416). -/
def execTransferTimeout (txn : BitVec 8) (s : State) : Result :=
  .next (s.live true (fun s => s.closeTimedOut txn.toNat))

/-! ### Long operations -/

/-- Operation codes of Table 15-8. -/
def longOpCode : LongOp → Nat
  | .persist => 0x10 | .restoreDefaults => 0x11 | .imageTest => 0x12 | .imageInstall => 0x13
  | .planCheck => 0x20 | .soundingSweep => 0x21 | .laneTest => 0x30 | .twinPair => 0x40

/-- PERSIST (R427): a host write of 0x1410.01. -/
def execPersist (r : Req) (args : List Byte) (s : State) : Result :=
  .next (s.hostWrite (.persist r args) r (opr 0x10) 1 args)

/-- PERSIST_DONE (R427). -/
def execPersistDone (result : FlashEnd) (s : State) : Result :=
  .next (s.live true (fun s => s.persistEnd result.code result.found))

/-- RESTORE_DEFAULTS (R428): a host write of 0x1411.01. -/
def execRestoreDefaults (r : Req) (args : List Byte) (s : State) : Result :=
  .next (s.hostWrite (.restoreDefaults r args) r (opr 0x11) 1 args)

/-- RESTORE_DEFAULTS_DONE (R432). -/
def execRestoreDefaultsDone (s : State) : Result :=
  .next (s.live (decide (s.e (opr 0x11) 2 = 1)) (fun s => s.opDone 0x11 0))

/-- IMAGE_TEST (R429): a host write of 0x1412.01. -/
def execImageTest (r : Req) (args : List Byte) (s : State) : Result :=
  .next (s.hostWrite (.imageTest r args) r (opr 0x12) 1 args)

/-- IMAGE_TEST_DONE (R432). -/
def execImageTestDone (errors : List FlashError) (s : State) : Result :=
  .next (s.live true (fun s => s.imageTestEnd errors))

/-- IMAGE_INSTALL (R429): a host write of 0x1413.01. -/
def execImageInstall (r : Req) (args : List Byte) (s : State) : Result :=
  .next (s.hostWrite (.imageInstall r args) r (opr 0x13) 1 args)

/-- IMAGE_INSTALL_DONE (R429). -/
def execImageInstallDone (result : FlashEnd) (s : State) : Result :=
  .next (s.live true (fun s => s.installEnd result.code result.found))

/-- LONG_OPERATION_CANCEL (R433): a host write of the operation's Cancel. -/
def execLongOperationCancel (r : Req) (op : LongOp) (v : BitVec 8) (s : State) : Result :=
  .next (s.hostWrite (.longOperationCancel r op v) r (opr (longOpCode op)) 5 (toBytes 1 v.toNat))

/-- CANCELLATION_DONE (R433). -/
def execCancellationDone (op : LongOp) (s : State) : Result :=
  .next (s.live true (fun s => s.cancelDone (longOpCode op)))

/-! ### The event log -/

/-- EVENT_POP (R437): a READ of 0x1600.01. -/
def execEventPop (r : Req) (s : State) : Result := .next (s.readRequest (.eventPop r) r 0x1600 1)

/-- EVENT_LOG_MARK (R437): a host write of 0x1600.04. -/
def execEventLogMark (r : Req) (v : BitVec 8) (s : State) : Result :=
  .next (s.hostWrite (.eventLogMark r v) r 0x1600 4 (toBytes 1 v.toNat))

/-- EVENT_LOG_REWIND (R437): a host write of 0x1600.05. -/
def execEventLogRewind (r : Req) (v : BitVec 8) (s : State) : Result :=
  .next (s.hostWrite (.eventLogRewind r v) r 0x1600 5 (toBytes 1 v.toNat))

/-- EVENT_LOG_RELEASE (R437): a host write of 0x1600.06. -/
def execEventLogRelease (r : Req) (v : BitVec 8) (s : State) : Result :=
  .next (s.hostWrite (.eventLogRelease r v) r 0x1600 6 (toBytes 1 v.toNat))

end Sys2Proof.Machine
end

