-- ==== Sys2Proof/Machine/Dispatch.lean ====
section
/-! DEFINITION. What each command does: one arm for each row of spec/opcode_table.json. -/

namespace Sys2Proof.Machine

def exec (i : Instr) (s : State) : Host.Outcome State Fault Refusal :=
  match i with
  | .incrementWrite r d v => Sys2Proof.Machine.execIncrementWrite r d v s
  | .setTime r d v => Sys2Proof.Machine.execSetTime r d v s
  | .offsetAdjust r d v => Sys2Proof.Machine.execOffsetAdjust r d v s
  | .stepApply d => Sys2Proof.Machine.execStepApply d s
  | .governorModeWrite r v => Sys2Proof.Machine.execGovernorModeWrite r v s
  | .servoEnableWrite r v => Sys2Proof.Machine.execServoEnableWrite r v s
  | .masterAcknowledge r d v => Sys2Proof.Machine.execMasterAcknowledge r d v s
  | .sync p m dly => Sys2Proof.Machine.execSync p m dly s
  | .delayReq p m dly => Sys2Proof.Machine.execDelayReq p m dly s
  | .delayResp p m => Sys2Proof.Machine.execDelayResp p m s
  | .syncSend d => Sys2Proof.Machine.execSyncSend d s
  | .syncLoss d => Sys2Proof.Machine.execSyncLoss d s
  | .ocxoRdyChange level => Sys2Proof.Machine.execOcxoRdyChange level s
  | .ppsPulse => Sys2Proof.Machine.execPpsPulse s
  | .sensorModeWrite r c v => Sys2Proof.Machine.execSensorModeWrite r c v s
  | .portModeWrite r g v => Sys2Proof.Machine.execPortModeWrite r g v s
  | .outputEnableWrite r g v => Sys2Proof.Machine.execOutputEnableWrite r g v s
  | .portSettingWrite r g e v => Sys2Proof.Machine.execPortSettingWrite r g e v s
  | .iepeSettingWrite r c e v => Sys2Proof.Machine.execIepeSettingWrite r c e v s
  | .dissipationBudgetWrite r v => Sys2Proof.Machine.execDissipationBudgetWrite r v s
  | .budgetCheck vexcA vexcB => Sys2Proof.Machine.execBudgetCheck vexcA vexcB s
  | .dischargeComplete g => Sys2Proof.Machine.execDischargeComplete g s
  | .dischargeFail g => Sys2Proof.Machine.execDischargeFail g s
  | .foldback g => Sys2Proof.Machine.execFoldback g s
  | .foldbackRetry g regulates => Sys2Proof.Machine.execFoldbackRetry g regulates s
  | .senseFault g => Sys2Proof.Machine.execSenseFault g s
  | .iepeOpen c bias => Sys2Proof.Machine.execIepeOpen c bias s
  | .iepeShort c bias => Sys2Proof.Machine.execIepeShort c bias s
  | .iepeRetry c bias => Sys2Proof.Machine.execIepeRetry c bias s
  | .rangeSettingWrite r c e v => Sys2Proof.Machine.execRangeSettingWrite r c e v s
  | .inputBiasWrite r c v => Sys2Proof.Machine.execInputBiasWrite r c v s
  | .blankPin k level => Sys2Proof.Machine.execBlankPin k level s
  | .blankHangExpiry k => Sys2Proof.Machine.execBlankHangExpiry k s
  | .blankWindowStart w => Sys2Proof.Machine.execBlankWindowStart w s
  | .blankWindowEnd w => Sys2Proof.Machine.execBlankWindowEnd w s
  | .excitationSettleEnd g => Sys2Proof.Machine.execExcitationSettleEnd g s
  | .sealRead pins => Sys2Proof.Machine.execSealRead pins s
  | .planStart => Sys2Proof.Machine.execPlanStart s
  | .rotationStart g => Sys2Proof.Machine.execRotationStart g s
  | .conversion g second code beyondRail => Sys2Proof.Machine.execConversion g second code beyondRail s
  | .evtQualify k high width => Sys2Proof.Machine.execEvtQualify k high width s
  | .burstStart k => Sys2Proof.Machine.execBurstStart k s
  | .burstEnd g => Sys2Proof.Machine.execBurstEnd g s
  | .gapRecord g => Sys2Proof.Machine.execGapRecord g s
  | .groupStop g => Sys2Proof.Machine.execGroupStop g s
  | .detectorSettingWrite r c e v => Sys2Proof.Machine.execDetectorSettingWrite r c e v s
  | .soundingSweep r args => Sys2Proof.Machine.execSoundingSweep r args s
  | .soundingChannelDone die z => Sys2Proof.Machine.execSoundingChannelDone die z s
  | .tonePeriodEnd die => Sys2Proof.Machine.execTonePeriodEnd die s
  | .rawRecord g => Sys2Proof.Machine.execRawRecord g s
  | .coefficientsWrite r k taps => Sys2Proof.Machine.execCoefficientsWrite r k taps s
  | .firSetClear r k v => Sys2Proof.Machine.execFirSetClear r k v s
  | .coefficientBlockWrite r c bytes => Sys2Proof.Machine.execCoefficientBlockWrite r c bytes s
  | .dieSensorRead die reading => Sys2Proof.Machine.execDieSensorRead die reading s
  | .sailEdge n rising f => Sys2Proof.Machine.execSailEdge n rising f s
  | .armTimeout n => Sys2Proof.Machine.execArmTimeout n s
  | .gateEvent g level => Sys2Proof.Machine.execGateEvent g level s
  | .arm r n v => Sys2Proof.Machine.execArm r n v s
  | .measureWindowEnd n => Sys2Proof.Machine.execMeasureWindowEnd n s
  | .sailCalibration n temperature => Sys2Proof.Machine.execSailCalibration n temperature s
  | .sailStartCalibrationDone temperature => Sys2Proof.Machine.execSailStartCalibrationDone temperature s
  | .queuePop r n => Sys2Proof.Machine.execQueuePop r n s
  | .sailQueueMark r n v => Sys2Proof.Machine.execSailQueueMark r n v s
  | .sailQueueRewind r n v => Sys2Proof.Machine.execSailQueueRewind r n v s
  | .sailQueueRelease r n v => Sys2Proof.Machine.execSailQueueRelease r n v s
  | .toothTimeout a => Sys2Proof.Machine.execToothTimeout a s
  | .standstill a => Sys2Proof.Machine.execStandstill a s
  | .phaseFlip r a v => Sys2Proof.Machine.execPhaseFlip r a v s
  | .suspend r a v => Sys2Proof.Machine.execSuspend r a v s
  | .allocate r v => Sys2Proof.Machine.execAllocate r v s
  | .planCheck r args => Sys2Proof.Machine.execPlanCheck r args s
  | .planCheckComplete => Sys2Proof.Machine.execPlanCheckComplete s
  | .paceMeasure intake screed hopper => Sys2Proof.Machine.execPaceMeasure intake screed hopper s
  | .blockEncode st verify => Sys2Proof.Machine.execBlockEncode st verify s
  | .codeLengthsWrite r u bytes => Sys2Proof.Machine.execCodeLengthsWrite r u bytes s
  | .userTableClear r u v => Sys2Proof.Machine.execUserTableClear r u v s
  | .hopperMark r q v => Sys2Proof.Machine.execHopperMark r q v s
  | .hopperRewind r q v => Sys2Proof.Machine.execHopperRewind r q v s
  | .rewindTo r q v => Sys2Proof.Machine.execRewindTo r q v s
  | .hopperRelease r q v => Sys2Proof.Machine.execHopperRelease r q v s
  | .releaseThrough r q v => Sys2Proof.Machine.execReleaseThrough r q v s
  | .scrubPass corrected uncorrectableFree errors => Sys2Proof.Machine.execScrubPass corrected uncorrectableFree errors s
  | .portEnableWrite r p v => Sys2Proof.Machine.execPortEnableWrite r p v s
  | .trainReceived p t => Sys2Proof.Machine.execTrainReceived p t s
  | .rateFallback p => Sys2Proof.Machine.execRateFallback p s
  | .laneTest r args => Sys2Proof.Machine.execLaneTest r args s
  | .testAcceptTimeout p => Sys2Proof.Machine.execTestAcceptTimeout p s
  | .laneTestEnd p bits errors0 errors1 lockLost => Sys2Proof.Machine.execLaneTestEnd p bits errors0 errors1 lockLost s
  | .frameReceived p bytes codeError => Sys2Proof.Machine.execFrameReceived p bytes codeError s
  | .ack p seq window => Sys2Proof.Machine.execAck p seq window s
  | .nak p seq window => Sys2Proof.Machine.execNak p seq window s
  | .replayTimeout p => Sys2Proof.Machine.execReplayTimeout p s
  | .retrain p cause => Sys2Proof.Machine.execRetrain p cause s
  | .portDown p => Sys2Proof.Machine.execPortDown p s
  | .frameBoundary p => Sys2Proof.Machine.execFrameBoundary p s
  | .credit m => Sys2Proof.Machine.execCredit m s
  | .assign p m => Sys2Proof.Machine.execAssign p m s
  | .unplace p => Sys2Proof.Machine.execUnplace p s
  | .linkReset broadcast => Sys2Proof.Machine.execLinkReset broadcast s
  | .pathLost p south => Sys2Proof.Machine.execPathLost p south s
  | .pathRestored p south => Sys2Proof.Machine.execPathRestored p south s
  | .twinRaw words => Sys2Proof.Machine.execTwinRaw words s
  | .heartbeat h => Sys2Proof.Machine.execHeartbeat h s
  | .heartbeatSend => Sys2Proof.Machine.execHeartbeatSend s
  | .heartbeatSilence => Sys2Proof.Machine.execHeartbeatSilence s
  | .commit m => Sys2Proof.Machine.execCommit m s
  | .confirm q record => Sys2Proof.Machine.execConfirm q record s
  | .record q bytes => Sys2Proof.Machine.execRecord q bytes s
  | .twinCredit m => Sys2Proof.Machine.execTwinCredit m s
  | .drop st first => Sys2Proof.Machine.execDrop st first s
  | .relinquish cause => Sys2Proof.Machine.execRelinquish cause s
  | .swapAt t => Sys2Proof.Machine.execSwapAt t s
  | .swapInstant => Sys2Proof.Machine.execSwapInstant s
  | .twinRun t => Sys2Proof.Machine.execTwinRun t s
  | .twinStop target => Sys2Proof.Machine.execTwinStop target s
  | .pairBegin total queues => Sys2Proof.Machine.execPairBegin total queues s
  | .copy q record offset bytes => Sys2Proof.Machine.execCopy q record offset bytes s
  | .pairEnd points => Sys2Proof.Machine.execPairEnd points s
  | .twinPair r args => Sys2Proof.Machine.execTwinPair r args s
  | .roleSwap r => Sys2Proof.Machine.execRoleSwap r s
  | .roleForcedSwap r => Sys2Proof.Machine.execRoleForcedSwap r s
  | .roleStepDown r => Sys2Proof.Machine.execRoleStepDown r s
  | .roleWaitExpiry => Sys2Proof.Machine.execRoleWaitExpiry s
  | .partnerHeld => Sys2Proof.Machine.execPartnerHeld s
  | .excitationDeferredEnable g => Sys2Proof.Machine.execExcitationDeferredEnable g s
  | .proofDue hours => Sys2Proof.Machine.execProofDue hours s
  | .resetPartner r v => Sys2Proof.Machine.execResetPartner r v s
  | .twrstN => Sys2Proof.Machine.execTwrstN s
  | .safetyTick pins mismatch => Sys2Proof.Machine.execSafetyTick pins mismatch s
  | .debounceAccept k chB => Sys2Proof.Machine.execDebounceAccept k chB s
  | .discrepancyFault k => Sys2Proof.Machine.execDiscrepancyFault k s
  | .readbackFault n chB => Sys2Proof.Machine.execReadbackFault n chB s
  | .tickOverrun => Sys2Proof.Machine.execTickOverrun s
  | .testPulse n chB => Sys2Proof.Machine.execTestPulse n chB s
  | .inputAcknowledge r k v => Sys2Proof.Machine.execInputAcknowledge r k v s
  | .tripAcknowledge r n v => Sys2Proof.Machine.execTripAcknowledge r n v s
  | .comparatorStale l => Sys2Proof.Machine.execComparatorStale l s
  | .comparatorInvalidHold l => Sys2Proof.Machine.execComparatorInvalidHold l s
  | .scrimProduce k => Sys2Proof.Machine.execScrimProduce k s
  | .scrimMessage bytes => Sys2Proof.Machine.execScrimMessage bytes s
  | .scrimWatchdog k => Sys2Proof.Machine.execScrimWatchdog k s
  | .scrimReset r k v => Sys2Proof.Machine.execScrimReset r k v s
  | .connectionEnableWrite r k v => Sys2Proof.Machine.execConnectionEnableWrite r k v s
  | .read r idx sub => Sys2Proof.Machine.execRead r idx sub s
  | .write r idx sub total last data => Sys2Proof.Machine.execWrite r idx sub total last data s
  | .uploadSegment r idx sub toggle => Sys2Proof.Machine.execUploadSegment r idx sub toggle s
  | .downloadSegment r idx sub toggle last data => Sys2Proof.Machine.execDownloadSegment r idx sub toggle last data s
  | .domainStart r idx sub total => Sys2Proof.Machine.execDomainStart r idx sub total s
  | .domainSegment r idx sub num last data => Sys2Proof.Machine.execDomainSegment r idx sub num last data s
  | .domainEnd r idx sub crc => Sys2Proof.Machine.execDomainEnd r idx sub crc s
  | .cancel r idx sub => Sys2Proof.Machine.execCancel r idx sub s
  | .transferTimeout txn => Sys2Proof.Machine.execTransferTimeout txn s
  | .persist r args => Sys2Proof.Machine.execPersist r args s
  | .persistDone result => Sys2Proof.Machine.execPersistDone result s
  | .restoreDefaults r args => Sys2Proof.Machine.execRestoreDefaults r args s
  | .restoreDefaultsDone => Sys2Proof.Machine.execRestoreDefaultsDone s
  | .imageTest r args => Sys2Proof.Machine.execImageTest r args s
  | .imageTestDone errors => Sys2Proof.Machine.execImageTestDone errors s
  | .imageInstall r args => Sys2Proof.Machine.execImageInstall r args s
  | .imageInstallDone result => Sys2Proof.Machine.execImageInstallDone result s
  | .longOperationCancel r op v => Sys2Proof.Machine.execLongOperationCancel r op v s
  | .cancellationDone op => Sys2Proof.Machine.execCancellationDone op s
  | .eventPop r => Sys2Proof.Machine.execEventPop r s
  | .eventLogMark r v => Sys2Proof.Machine.execEventLogMark r v s
  | .eventLogRewind r v => Sys2Proof.Machine.execEventLogRewind r v s
  | .eventLogRelease r v => Sys2Proof.Machine.execEventLogRelease r v s
  | .powerOnReset => Sys2Proof.Machine.execPowerOnReset s
  | .ocxoClkMissing => Sys2Proof.Machine.execOcxoClkMissing s
  | .resetNLow => Sys2Proof.Machine.execResetNLow s
  | .pinReset => Sys2Proof.Machine.execPinReset s
  | .pllLock => Sys2Proof.Machine.execPllLock s
  | .start flashAnswers errors => Sys2Proof.Machine.execStart flashAnswers errors s
  | .watchdogExpiry => Sys2Proof.Machine.execWatchdogExpiry s
  | .watchdogWarning => Sys2Proof.Machine.execWatchdogWarning s
  | .warmReset r v => Sys2Proof.Machine.execWarmReset r v s
  | .idleCommand r => Sys2Proof.Machine.execIdleCommand r s
  | .runCommand r => Sys2Proof.Machine.execRunCommand r s
  | .stillCommand r => Sys2Proof.Machine.execStillCommand r s
  | .dormantCommand r => Sys2Proof.Machine.execDormantCommand r s
  | .dormantWake w => Sys2Proof.Machine.execDormantWake w s
  | .railMeasure m => Sys2Proof.Machine.execRailMeasure m s
  | .portDieRailFault die => Sys2Proof.Machine.execPortDieRailFault die s
  | .portDieRailReturn die => Sys2Proof.Machine.execPortDieRailReturn die s
  | .tapInstruction t => Sys2Proof.Machine.execTapInstruction t s
  | .regulationHoldsAgain g => Sys2Proof.Machine.execRegulationHoldsAgain g s
  | .firstWindowStart n => Sys2Proof.Machine.execFirstWindowStart n s

end Sys2Proof.Machine
end

