-- ==== Sys2Proof/Machine/Step.lean ====
section
/-! DEFINITION. The step: the command at the front of the queue, or, with the queue empty, a request that waited for the
end of a warm reset, or else one tick of the Governor. -/

namespace Sys2Proof.Machine

/-- The hub with no command waiting (DESIGN CHOICE, log entry 2): a request deferred by R454 is taken, or one 2.5 ns tick passes. -/
def idle (s : State) : Host.Outcome State Fault Refusal :=
  match s.nextDeferred with
  | some (i, t) => match exec i t with
    | .next u => .next u.replayed
    | .fault f => .fault f
    | .refused r => .refused r
  | none => .next s.tick

/-- One step: commands are taken first in, first out. -/
def step (s : State) : Host.Outcome State Fault Refusal :=
  match s.pending with
  | c :: rest => exec c { s with pending := rest }
  | [] => idle s

/-- No row of the command table gives bits, so a word spells no command and the state is as it was. -/
def State.withFetchWord (s : State) (nbits w : Nat) : State :=
  match decodeTableWord nbits w with
  | some c => { s with pending := c :: s.pending }
  | none => s

end Sys2Proof.Machine
end

