-- ==== Sys2Proof/Safety.lean ====
section
/-! DEFINITION. What every state of a hub has, in the terms that claims use: the tables of the state are in their one
canonical form, and every store that the spec bounds lies within its bound. -/

namespace Sys2Proof.Machine

/-- Every table that has a value for unlisted keys is in canonical form: keys rise, and none is listed with that value.
Equal hubs are then equal data. -/
def State.canonical (s : State) : Prop :=
  Tbl.wf dictDefault s.dict = true ∧ Tbl.wf (fun _ => []) s.blobs = true ∧
  Tbl.wf (fun _ => Chan.reset) s.chans = true ∧ Tbl.wf (fun _ => XPort.reset) s.xports = true ∧
  Tbl.wf (fun _ => Blank.mk none none) s.blanks = true ∧ Tbl.wf (fun _ => Group.reset) s.groups = true ∧
  Tbl.wf (fun _ => Tone.reset) s.tones = true ∧ Tbl.wf (fun _ => Mill.reset) s.mills = true ∧
  Tbl.wf (fun _ => SailRun.reset) s.sails = true ∧ Tbl.wf (fun _ => Grid.reset) s.grids = true ∧
  Tbl.wf (fun _ => HQueue.reset) s.hop.queues = true ∧ Tbl.wf (fun _ => LPort.reset) s.leat.ports = true ∧
  Tbl.wf (fun _ => Dom.reset) s.gov.doms = true ∧ Tbl.wf (fun _ => SafeIn.reset) s.inputs = true ∧
  Tbl.wf (fun _ => CmpRun.reset) s.cmps = true ∧ Tbl.wf (fun _ => TripRun.reset) s.trips = true ∧
  Tbl.wf (fun _ => ScrimRun.reset) s.scrims = true

/-- The stores that the spec bounds: the event log (R435) and each Sail queue (R197) hold at most 1,024 records, a raw
buffer at most 64 (R111), and at most 8 requests wait for the end of a warm reset (R416, R454). -/
def State.withinRoom (s : State) : Prop :=
  s.log.items.length ≤ 1024 ∧ (∀ e ∈ s.sails, e.2.queue.items.length ≤ 1024) ∧
  (∀ e ∈ s.groups, e.2.buf.length ≤ 64) ∧ s.power.deferred.length ≤ 8

/-- The invariant of the hub: reset has it, and every step keeps it. -/
def State.Inv (s : State) : Prop := s.canonical ∧ s.withinRoom

end Sys2Proof.Machine
end

