-- ==== Sys2Proof/Certificates/Slice0/Claim.lean ====
section
/-! DEFINITION. The words in which the statements of Obligations.lean are written: what a state keeps of another, and
what it takes for a host write to be accepted and answered. -/

namespace Sys2Proof.Claim

open Sys2Proof.Machine

/-- The parts of the state, one for each field. -/
inductive Part where
  | dict | blobs | gov | chans | xports | orders | blanks | windows | groups | evtFire | tones | mills | dieTemps
  | sails | sailCal | grids | streams | hop | leat | svc | twin | inputs | cmps | trips | scrims | safeOn | safeTicks
  | log | flash | power | pins | freeCtr | pending
  deriving DecidableEq, Repr

/-- A part of two states is the same. -/
def Part.same (s t : State) : Part → Prop
  | .dict => t.dict = s.dict
  | .blobs => t.blobs = s.blobs
  | .gov => t.gov = s.gov
  | .chans => t.chans = s.chans
  | .xports => t.xports = s.xports
  | .orders => t.orders = s.orders
  | .blanks => t.blanks = s.blanks
  | .windows => t.windows = s.windows
  | .groups => t.groups = s.groups
  | .evtFire => t.evtFire = s.evtFire
  | .tones => t.tones = s.tones
  | .mills => t.mills = s.mills
  | .dieTemps => t.dieTemps = s.dieTemps
  | .sails => t.sails = s.sails
  | .sailCal => t.sailCal = s.sailCal
  | .grids => t.grids = s.grids
  | .streams => t.streams = s.streams
  | .hop => t.hop = s.hop
  | .leat => t.leat = s.leat
  | .svc => t.svc = s.svc
  | .twin => t.twin = s.twin
  | .inputs => t.inputs = s.inputs
  | .cmps => t.cmps = s.cmps
  | .trips => t.trips = s.trips
  | .scrims => t.scrims = s.scrims
  | .safeOn => t.safeOn = s.safeOn
  | .safeTicks => t.safeTicks = s.safeTicks
  | .log => t.log = s.log
  | .flash => t.flash = s.flash
  | .power => t.power = s.power
  | .pins => t.pins = s.pins
  | .freeCtr => t.freeCtr = s.freeCtr
  | .pending => t.pending = s.pending

/-- Every part but the ones named is as it was. -/
def Kept (s t : State) (but : List Part) : Prop := ∀ p : Part, p ∉ but → p.same s t

/-- Every entry of the object dictionary but the ones named reads as it did. -/
def Entries (s t : State) (but : Nat → Nat → Prop) : Prop :=
  ∀ i j : Nat, j < 256 → ¬but i j → t.e i j = s.e i j

/-- No entry but those. -/
def noEntry (_ _ : Nat) : Prop := False

/-- One entry. -/
def entry (i j : Nat) (i' j' : Nat) : Prop := i' = i ∧ j' = j

/-- Entries of one record. -/
def entriesOf (i : Nat) (l : List Nat) (i' j' : Nat) : Prop := i' = i ∧ j' ∈ l

/-- Entries that an answer moves: the counts of SERVICE (0x1300.01 to .06) and of frames without a way out
(0x3500.0C). -/
def serviceEntry (i j : Nat) : Prop := (i = 0x1300 ∧ j ∈ [1, 2, 3, 4, 5, 6] ∧ j ≠ 5) ∨ (i = 0x3500 ∧ j = 0x0C)

/-- An event is logged: the log's pushes (R435) and its entries 0x1600.07 and .08. -/
def logEntry (i j : Nat) : Prop := i = 0x1600 ∧ (j = 7 ∨ j = 8)

/-! ### Host writes -/

/-- A request that opens a transaction goes through (R348, R412, R416, R417, R454): the hub is up and not Unplaced, no
request waits, no reserved bit is set, it repeats no completed request, its number is free and fewer than 8 are open. -/
def opens (s : State) (r : Req) (b : List Byte) : Bool :=
  s.isUp && s.consumes && !s.waits && !r.reservedSet &&
  s.svc.stored.all (fun e => decide (¬(e.1 = r.txn.toNat ∧ e.2.1 = b))) &&
  (s.svc.txns.lookup r.txn.toNat).isNone && decide (s.svc.txns.length < 8)

/-- The bytes of a request that writes a whole value. -/
def writeBytes (r : Req) (idx sub : Nat) (data : List Byte) : List Byte := reqBytes 0x02 r idx sub false true data.length data

/-- The state in which a write is tested: the frame is consumed and the transaction is open. -/
def opened (s : State) (r : Req) (idx sub : Nat) (data : List Byte) : State :=
  (s.takeService (writeBytes r idx sub data)).setTxn r .executing idx sub (writeBytes r idx sub data)

/-- A host write that passes the tests of R420, steps 1 to 4. -/
def accepted (s : State) (r : Req) (idx sub : Nat) (data : List Byte) : Bool :=
  opens s r (writeBytes r idx sub data) && decide ((opened s r idx sub data).writeTest false idx sub data = 0)

/-- The answer of a write: WRITE_DONE for code 0, else ABORT with the code. -/
def answerBytes (r : Req) (idx sub code : Nat) : List Byte :=
  if code = 0 then serviceBytes 0x82 r.txn.toNat idx sub false false 0 []
  else serviceBytes 0xFF r.txn.toNat idx sub false false 4 (toBytes 4 code)

/-- R417: the transaction is closed, and its final response is kept under its number. -/
def answered (r : Req) (idx sub : Nat) (data : List Byte) (code : Nat) (t : State) : Prop :=
  t.svc.txns.lookup r.txn.toNat = none ∧
  t.svc.stored.head? = some (r.txn.toNat, writeBytes r idx sub data, answerBytes r idx sub code)

/-- R341, R413: and it is sent, opposite to the request. -/
def sentTo (s : State) (r : Req) (idx sub : Nat) (data : List Byte) (code : Nat) (t : State) : Prop :=
  t.leat = ((s.takeService (writeBytes r idx sub data)).sendResponse r.south (answerBytes r idx sub code)).leat

/-- A host write is answered with a code; of the rest only the named entries and parts may change, beside the counts
of SERVICE and the count of entries not yet persisted (R425). -/
def Answers (s : State) (r : Req) (idx sub : Nat) (data : List Byte) (code : Nat) (own : Nat → Nat → Prop)
    (parts : List Part) (t : State) : Prop :=
  answered r idx sub data code t ∧ sentTo s r idx sub data code t ∧
  Entries s t (fun i j => own i j ∨ serviceEntry i j ∨ (i = 0x1500 ∧ j = 3)) ∧
  Kept s t ([.dict, .svc, .leat, .flash] ++ parts) ∧
  { t.flash with dirty := [], since := [] } = { s.flash with dirty := [], since := [] }

/-- Entries that follow a setting of the reaction times (R395). -/
def reactionEntry (i j : Nat) : Prop := (0x3A00 ≤ i ∧ i < 0x3B00 ∧ j = 0x0B) ∨ (0x3820 ≤ i ∧ i < 0x3828 ∧ j = 8)

/-! ### Words of single chapters -/

/-- R38: a requested step of that size is taken: within Jump threshold, in an UNSET domain, or armed. -/
def stepAllowed (s : State) (d : Nat) (size : Int) : Prop :=
  size.natAbs ≤ s.e 0x2300 3 * 65536 ∨ s.e (0x2301 + d) 7 = 0 ∨ s.e 0x2300 4 = 1

/-- Of Leat only the timing frames due on the ports and the consumed frames may differ. -/
def timingOnly (s t : State) : Prop :=
  (∀ k, { t.port k with timing := [] } = { s.port k with timing := [] }) ∧
  { t.leat with ports := [], inbox := [] } = { s.leat with ports := [], inbox := [] }

/-- Entries that report planned dissipation (R76). -/
def dissipationEntry (i j : Nat) : Prop := (0x2600 ≤ i ∧ i < 0x2680 ∧ j = 14) ∨ (i = 0x2690 ∧ (j = 4 ∨ j = 5))

/-- An event of Table 15-13 is pushed to the log, and nothing but the log and its entries tells of it. -/
def Logged (s t : State) (sev code : Nat) (detail : List Byte) : Prop :=
  t.log = (s.event sev code detail).log ∧ ∀ j, logEntry 0x1600 j → t.e 0x1600 j = (s.event sev code detail).e 0x1600 j

/-- Of the channels only one may differ. -/
def onlyChan (s t : State) (c : Nat) (x : Chan) : Prop := t.chan c = x ∧ ∀ k, k ≠ c → t.chan k = s.chan k

/-- Of the ports only one may differ. -/
def onlyXport (s t : State) (g : Nat) (x : XPort) : Prop := t.xport g = x ∧ ∀ k, k ≠ g → t.xport k = s.xport k

/-- Of the converter groups only one may differ. -/
def onlyGroup (s t : State) (g : Nat) (x : Group) : Prop := t.group g = x ∧ ∀ k, k ≠ g → t.group k = s.group k

/-- Commands that act on a hub that is not up, too. -/
def standing : Instr → Bool
  | .stepApply _ | .syncLoss _ | .ocxoRdyChange _ | .ppsPulse | .dischargeComplete _ | .excitationSettleEnd _
  | .powerOnReset | .ocxoClkMissing | .resetNLow | .pinReset | .pllLock | .start _ _ | .dormantWake _
  | .tapInstruction _ | .frameBoundary _ => true
  | _ => false

/-- The entry and the value of a host write that has a row of its own (R420): request, index, subindex, value. -/
def target : Instr → Option (Req × Nat × Nat × List Byte)
  | .incrementWrite r d v => some (r, 0x2301 + d, 3, toBytes 8 v.toNat)
  | .setTime r d v => some (r, 0x2301 + d, 5, toBytes 12 v.toNat)
  | .offsetAdjust r d v => some (r, 0x2301 + d, 6, toBytes 8 v.toNat)
  | .governorModeWrite r v => some (r, 0x2300, 1, toBytes 1 v.toNat)
  | .servoEnableWrite r v => some (r, 0x2300, 2, toBytes 1 v.toNat)
  | .masterAcknowledge r d v => some (r, 0x2301 + d, 13, toBytes 1 v.toNat)
  | .sensorModeWrite r c v => some (r, 0x2400 + c, 1, toBytes 1 v.toNat)
  | .portModeWrite r g v => some (r, 0x2600 + g, 1, toBytes 1 v.toNat)
  | .outputEnableWrite r g v => some (r, 0x2600 + g, 9, toBytes 1 v.toNat)
  | .portSettingWrite r g .voltageSet v => some (r, 0x2600 + g, 2, toBytes 2 v.toNat)
  | .portSettingWrite r g .senseLimit v => some (r, 0x2600 + g, 3, toBytes 2 v.toNat)
  | .portSettingWrite r g .sense v => some (r, 0x2600 + g, 4, toBytes 1 (v.toNat % 256))
  | .portSettingWrite r g .currentLimit v => some (r, 0x2600 + g, 5, toBytes 2 v.toNat)
  | .portSettingWrite r g .currentSet v => some (r, 0x2600 + g, 6, toBytes 2 v.toNat)
  | .portSettingWrite r g .compliance v => some (r, 0x2600 + g, 7, toBytes 2 v.toNat)
  | .iepeSettingWrite r c .current v => some (r, 0x2400 + c, 10, toBytes 2 v.toNat)
  | .iepeSettingWrite r c .highPass v => some (r, 0x2400 + c, 11, toBytes 1 (v.toNat % 256))
  | .dissipationBudgetWrite r v => some (r, 0x2690, 6, toBytes 2 v.toNat)
  | .rangeSettingWrite r c .mode v => some (r, 0x2400 + c, 2, toBytes 1 v.toNat)
  | .rangeSettingWrite r c .fixed v => some (r, 0x2400 + c, 3, toBytes 1 v.toNat)
  | .rangeSettingWrite r c .widest v => some (r, 0x2400 + c, 4, toBytes 1 v.toNat)
  | .rangeSettingWrite r c .narrowest v => some (r, 0x2400 + c, 5, toBytes 1 v.toNat)
  | .inputBiasWrite r c v => some (r, 0x2400 + c, 8, toBytes 1 v.toNat)
  | .detectorSettingWrite r c .openWire v => some (r, 0x2400 + c, 0x11, toBytes 1 v.toNat)
  | .detectorSettingWrite r c .excursion v => some (r, 0x2400 + c, 0x14, toBytes 1 v.toNat)
  | .soundingSweep r args => some (r, 0x1421, 1, args)
  | .coefficientsWrite r k taps => some (r, 0x2C00 + k, 1, taps)
  | .firSetClear r k v => some (r, 0x2C00 + k, 7, toBytes 1 v.toNat)
  | .coefficientBlockWrite r c bytes => some (r, 0x2A00 + c, 0x19, bytes)
  | .arm r n v => some (r, 0x2E00 + n, 0x0C, toBytes 1 v.toNat)
  | .sailQueueMark r n v => some (r, 0x2E00 + n, 0x10, toBytes 1 v.toNat)
  | .sailQueueRewind r n v => some (r, 0x2E00 + n, 0x11, toBytes 1 v.toNat)
  | .sailQueueRelease r n v => some (r, 0x2E00 + n, 0x12, toBytes 1 v.toNat)
  | .phaseFlip r a v => some (r, 0x2F00 + a, 0x0E, toBytes 1 v.toNat)
  | .suspend r a v => some (r, 0x2F00 + a, 0x0F, toBytes 1 v.toNat)
  | .allocate r v => some (r, 0x3100, 2, toBytes 1 v.toNat)
  | .planCheck r args => some (r, 0x1420, 1, args)
  | .codeLengthsWrite r u bytes => some (r, 0x3200 + u, 1, bytes)
  | .userTableClear r u v => some (r, 0x3200 + u, 5, toBytes 1 v.toNat)
  | .hopperMark r q v => some (r, 0x3410 + q, 8, toBytes 1 v.toNat)
  | .hopperRewind r q v => some (r, 0x3410 + q, 9, toBytes 1 v.toNat)
  | .rewindTo r q v => some (r, 0x3410 + q, 12, toBytes 4 v.toNat)
  | .hopperRelease r q v => some (r, 0x3410 + q, 10, toBytes 1 v.toNat)
  | .releaseThrough r q v => some (r, 0x3410 + q, 11, toBytes 4 v.toNat)
  | .portEnableWrite r p v => some (r, 0x3510 + portIdx p, 1, toBytes 1 v.toNat)
  | .laneTest r args => some (r, 0x1430, 1, args)
  | .twinPair r args => some (r, 0x1440, 1, args)
  | .roleSwap r => some (r, 0x3600, 3, toBytes 1 1)
  | .roleForcedSwap r => some (r, 0x3600, 3, toBytes 1 2)
  | .roleStepDown r => some (r, 0x3600, 3, toBytes 1 3)
  | .resetPartner r v => some (r, 0x1200, 4, toBytes 1 v.toNat)
  | .inputAcknowledge r k v => some (r, 0x3800 + k, 6, toBytes 1 v.toNat)
  | .tripAcknowledge r n v => some (r, 0x3820 + n, 0x0B, toBytes 1 v.toNat)
  | .scrimReset r k v => some (r, 0x3B00 + k, 0x0B, toBytes 1 v.toNat)
  | .connectionEnableWrite r k v => some (r, 0x3B00 + k, 1, toBytes 1 v.toNat)
  | .persist r args => some (r, 0x1410, 1, args)
  | .restoreDefaults r args => some (r, 0x1411, 1, args)
  | .imageTest r args => some (r, 0x1412, 1, args)
  | .imageInstall r args => some (r, 0x1413, 1, args)
  | .longOperationCancel r op v => some (r, 0x1400 + longOpCode op, 5, toBytes 1 v.toNat)
  | .eventLogMark r v => some (r, 0x1600, 4, toBytes 1 v.toNat)
  | .eventLogRewind r v => some (r, 0x1600, 5, toBytes 1 v.toNat)
  | .eventLogRelease r v => some (r, 0x1600, 6, toBytes 1 v.toNat)
  | .warmReset r v => some (r, 0x1200, 3, toBytes 1 v.toNat)
  | .idleCommand r => some (r, 0x1200, 1, toBytes 1 0)
  | .runCommand r => some (r, 0x1200, 1, toBytes 1 1)
  | .stillCommand r => some (r, 0x1200, 1, toBytes 1 2)
  | .dormantCommand r => some (r, 0x1200, 1, toBytes 1 3)
  | _ => none

/-- The bytes of a READ. -/
def readBytes (r : Req) (idx sub : Nat) : List Byte := reqBytes 0x01 r idx sub false false 0 []

/-- The request that a command carries, where it carries one: entry and bytes. -/
def request : Instr → Option (Req × Nat × Nat × List Byte)
  | .read r i j => some (r, i.toNat, j.toNat, readBytes r i.toNat j.toNat)
  | .queuePop r n => some (r, 0x2E00 + n, 0x0D, readBytes r (0x2E00 + n) 0x0D)
  | .eventPop r => some (r, 0x1600, 1, readBytes r 0x1600 1)
  | .write r i j total last data => some (r, i.toNat, j.toNat, reqBytes 0x02 r i.toNat j.toNat false last total.toNat data)
  | .uploadSegment r i j toggle => some (r, i.toNat, j.toNat, reqBytes 0x03 r i.toNat j.toNat toggle false 0 [])
  | .downloadSegment r i j toggle last data =>
    some (r, i.toNat, j.toNat, reqBytes 0x04 r i.toNat j.toNat toggle last data.length data)
  | .domainStart r i j total => some (r, i.toNat, j.toNat, reqBytes 0x05 r i.toNat j.toNat false false 4 (toBytes 4 total.toNat))
  | .domainSegment r i j num last data => some (r, i.toNat, j.toNat, reqBytes 0x06 r i.toNat j.toNat false last num.toNat data)
  | .domainEnd r i j crc => some (r, i.toNat, j.toNat, reqBytes 0x07 r i.toNat j.toNat false false 4 (toBytes 4 crc.toNat))
  | .cancel r i j => some (r, i.toNat, j.toNat, reqBytes 0x09 r i.toNat j.toNat false false 0 [])
  | c => (target c).map (fun x => (x.1, x.2.1, x.2.2.1, writeBytes x.1 x.2.1 x.2.2.1 x.2.2.2))

/-- The requests that open a transaction (R416). -/
def opensTransaction : Instr → Bool
  | .uploadSegment _ _ _ _ | .downloadSegment _ _ _ _ _ _ | .domainSegment _ _ _ _ _ _ | .domainEnd _ _ _ _ | .cancel _ _ _ => false
  | _ => true

/-- The state with a request's frame consumed, and an ABORT sent under a transaction that stays as it is (R416). -/
def aborted (s : State) (r : Req) (idx sub : Nat) (b : List Byte) (code : Nat) : State :=
  ((((s.takeService b).bump 0x1300 2).setE 0x1300 3 code).setE 0x1300 4 (idx * 256 + sub)).sendResponse r.south
    (serviceBytes 0xFF r.txn.toNat idx sub false false 4 (toBytes 4 code))

/-- A request ends a transaction with a response that is sent and kept (R417), and of the rest only the named parts
and entries differ. -/
def Finished (s : State) (r : Req) (req resp : List Byte) (own : Nat → Nat → Prop) (parts : List Part) (t : State) : Prop :=
  t.svc.txns.lookup r.txn.toNat = none ∧ t.svc.stored.head? = some (r.txn.toNat, req, resp) ∧
  t.leat = ((s.takeService req).sendResponse r.south resp).leat ∧
  Entries s t (fun i j => own i j ∨ serviceEntry i j) ∧ Kept s t ([.dict, .svc, .leat] ++ parts)

/-- A request of a transfer that goes on is answered: the transaction stands as given, and nothing else but the sent
frame and the parts named differs. -/
def GoesOn (s : State) (r : Req) (idx sub : Nat) (req resp : List Byte) (x : Xfer) (own : Nat → Nat → Prop)
    (parts : List Part) (t : State) : Prop :=
  t.svc.txns.lookup r.txn.toNat = some ⟨x, idx, sub, r.south, req, s.gov.ticks⟩ ∧ t.svc.stored = s.svc.stored ∧
  t.leat = ((s.takeService req).sendResponse r.south resp).leat ∧
  Entries s t (fun i j => own i j ∨ serviceEntry i j) ∧ Kept s t ([.dict, .svc, .leat] ++ parts)

/-- A request goes through to an open transfer: the hub is up and not Unplaced, nothing waits, no reserved bit is set, and it repeats no
completed request. -/
def through (s : State) (r : Req) (b : List Byte) : Bool :=
  s.isUp && s.consumes && !s.waits && !r.reservedSet && s.svc.stored.all (fun e => decide (¬(e.1 = r.txn.toNat ∧ e.2.1 = b)))

/-- Entries whose write stores the value and has no other effect but on the reaction times (R395): the comparators,
trips, inputs, EVT inputs, converter groups, Millstones, scheduled windows and Sounding's settings. -/
def plain (idx sub : Nat) : Prop :=
  (0x2681 ≤ idx ∧ idx < 0x2689) ∨ idx = 0x2698 ∨ (0x2700 ≤ idx ∧ idx < 0x2784) ∨ (0x2800 ≤ idx ∧ idx < 0x2A00) ∨
  (0x3800 ≤ idx ∧ idx < 0x3810 ∧ sub ≠ 6) ∨ (0x3820 ≤ idx ∧ idx < 0x3828 ∧ sub ≠ 0x0B) ∨
  (0x3A00 ≤ idx ∧ idx < 0x3B00 ∧ sub ≠ 1)

/-- R431: the record of an operation right after an accepted start: RUNNING, progress 0, no result or reason, started
now, not ended, one start more. -/
def Started (s t : State) (code : Nat) : Prop :=
  t.e (0x1400 + code) 2 = 1 ∧ t.e (0x1400 + code) 3 = 0 ∧ t.e (0x1400 + code) 6 = 0 ∧ t.e (0x1400 + code) 7 = 0 ∧
  t.e (0x1400 + code) 8 = toTime96 s.now ∧ t.e (0x1400 + code) 9 = 0 ∧
  t.e (0x1400 + code) 0x0A = sat32 (s.e (0x1400 + code) 0x0A + 1)

/-- The entries of an operation's record that the hub writes. -/
def opEntry (code : Nat) : Nat → Nat → Prop := entriesOf (0x1400 + code) [2, 3, 4, 6, 7, 8, 9, 0x0A]

/-- R431, R434: the record of an operation that left RUNNING: its state, the position that reads 0xFFFF, the time of
its end. -/
def Ended (s t : State) (code st : Nat) : Prop :=
  t.e (0x1400 + code) 2 = st ∧ t.e (0x1400 + code) 4 = 0xFFFF ∧ t.e (0x1400 + code) 9 = toTime96 s.now

/-- Queue `q` of the Hopper stands as `x`; records that waited for room, what ends a suspension and the report of lost
events may follow; the other queues keep their positions, marks and records, and may get such records too. -/
def onlyQueue (s t : State) (q : Nat) (x : HQueue) : Prop :=
  (∀ k, ∃ l : List Rec, t.hq k = (let y := if k = q then x else s.hq k
    { y with recs := y.recs ++ l }) ∧ (s.hop.waiting = [] → s.hop.lost = none → s.yStreams = [] → l = []))

/-- No stream that is placed on a grid runs. -/
def gridIdle (s : State) (a : Nat) : Prop := ∀ n ∈ s.streamsOfGrid a, s.e (0x4000 + n) 0x12 = 0

/-- Of the Sails only one may differ. -/
def onlySail (s t : State) (n : Nat) (x : SailRun) : Prop := t.sailRun n = x ∧ ∀ k, k ≠ n → t.sailRun k = s.sailRun k

/-- A Sail's input is off: the mode counts for nothing (R181). -/
def sailMode (s : State) (n : Nat) : Nat := if s.e (0x2E00 + n) 1 = 0 then 0 else s.e (0x2E00 + n) 2

/-- Of Leat's ports only one may differ. -/
def onlyPort (s t : State) (p : Nat) (x : LPort) : Prop := t.port p = x ∧ ∀ k, k ≠ p → t.port k = s.port k

/-- The state of a frame boundary before a frame is chosen: what went before has left the lanes (R324), an episode of
waiting for credit is noticed (R343), and, where no timing frame goes, an answer that is due is sent (R336). -/
def offered (s : State) (p : Nat) : State := ((s.openBoundary p).creditStall p).answerSets p

/-- R302, R303, R345, R367: what a CREDIT payload does to the queues, the refusals counted and the credit limit: releases in
queue order, but on a member whose Hopper is neither sent nor released; then, on a member that sends, the rewind and the
limit, which only moves ahead. -/
def credited (s t : State) (m : CreditMsg) : Prop :=
  let rel := fun (q : Nat) => if bit m.mask.toNat q = true ∧ s.role ≠ 1
    then (s.hq q).releaseThrough (m.release.toList.getD q 0).toNat (s.releaseLimit q) else (s.hq q, false)
  let y := (rel m.queue.toNat).1
  let ok := y.position m.rewindTo.toNat ≤ y.front
  (∀ q, q < 8 → t.hq q = if s.sends = true ∧ m.rewind = true ∧ q = m.queue.toNat ∧ ok
    then y.moveRead (y.position m.rewindTo.toNat) else (rel q).1) ∧
  t.e 0x3500 6 = (if s.sends = true ∧ (m.limit.toNat + 2 ^ 32 - s.e 0x3500 6) % 2 ^ 32 < 2 ^ 31 then m.limit.toNat
    else s.e 0x3500 6) ∧
  (s.e 0x3500 0x0B < 2 ^ 32 → t.e 0x3500 0x0B = sat32 (s.e 0x3500 0x0B + ((List.range 8).filter (fun q => (rel q).2)).length +
    (if s.sends = true ∧ m.rewind = true ∧ ¬ok then 1 else 0)))

/-- Nothing waits for room in the Hopper, and nothing there yields: a release then frees space and no more. -/
def roomOnly (s : State) : Prop := s.hop.waiting = [] ∧ s.hop.lost = none ∧ s.yStreams = []

/-- A record as it is committed: it has an address of the record area. -/
def asCommitted (r y : Rec) : Prop := { y with addr := 0 } = { r with addr := 0 }

/-- A CONFIRM item (R367). -/
def confirmItem (q num : Nat) : Nat × List Byte := (0, twinItem 3 8 (toBytes 1 q ++ zeros 1 ++ toBytes 4 num))

/-- A byte string of the dictionary as the state holds it. -/
def blob (s : State) (idx : Nat) : List Byte := Tbl.get [] s.blobs (ekey idx 1)

/-- The transaction of a host write that is accepted and whose answer is owed stays open (R416). -/
def owed (s : State) (r : Req) (idx sub : Nat) (data : List Byte) (t : State) : Prop :=
  t.svc.txns.lookup r.txn.toNat = some ⟨.executing, idx, sub, r.south, writeBytes r idx sub data, s.gov.ticks⟩ ∧
  t.svc.stored = s.svc.stored

/-- The state with the oldest consumed frame of a type taken out: its content is what the command carries. -/
def taken (s : State) (ftype : Nat) : State :=
  { s with leat := { s.leat with inbox := s.leat.inbox.eraseP (fun g => decide (g.ftype = ftype)) } }

end Sys2Proof.Claim
end

