-- ==== Sys2Proof/Certificates/Slice0/Obligations.lean ====
section
/-! DEFINITION. The statements for the provers. -/

open Sys2Proof Sys2Proof.Machine Sys2Proof.Claim

/-! ### The whole hub -/

/-- Commands are taken first in, first out: a step with a command waiting runs the one at the front, on the hub with
the rest of the queue. -/
def Obligations.StepRunsFront : Prop :=
  ∀ (c : Instr) (rest : List Instr) (s : State), s.pending = c :: rest → step s = exec c { s with pending := rest }

/-- Every command answers a next state, and leaves the queue of waiting commands alone.

Model's choices on which this rests: log entries 2, 6. -/
def Obligations.CommandsAnswer : Prop :=
 ∀ (c : Instr) (s : State), ∃ t, exec c s = .next t ∧ t.pending = s.pending

/-- R32, R55, R456, R503 (with the model's choice of log entry 2, that a step on an empty queue is one tick): every
2.5 ns each domain's time advances by its increment, in either mode; PPS_OUT falls and TWRQ_N rises when their time is
over; before the island PLL has locked nothing moves. -/
def Obligations.TickAdvancesTime : Prop :=
  ∀ s : State, s.pending = [] → s.nextDeferred = none →
    (s.power.phase = .awaitPll → step s = .next s) ∧
    (s.power.phase ≠ .awaitPll → ∃ t, step s = .next t ∧
      (∀ d, d < 4 → t.fine d = s.fine d + s.e (0x2301 + d) 3) ∧ t.gov.ticks = s.gov.ticks + 1 ∧
      t.pins.pps = (s.pins.pps && !(s.gov.ppsFall.any (fun f => decide (f ≤ s.gov.ticks + 1)))) ∧
      t.pins.twrqN = (s.pins.twrqN || decide (s.pins.twrqEnd ≤ s.gov.ticks + 1)) ∧
      { t.pins with pps := false, twrqN := false } = { s.pins with pps := false, twrqN := false } ∧
      { t.gov with ticks := 0, doms := [], ppsFall := none } = { s.gov with ticks := 0, doms := [], ppsFall := none } ∧
      Kept s t [.gov, .pins])

/-- Every step keeps it, from any state that has it, and every step answers a next state. -/
def Obligations.StepKeepsInvariant : Prop :=
 ∀ s : State, s.Inv → ∃ t, step s = .next t ∧ t.Inv

/-- The invariant of the hub (Safety.lean): every table of the state in its one canonical form, and every store within
the bound that R111, R197, R416 and R435 give. Reset has it.

What the spec says of a hub whose power has just come up: it waits for the island PLL (R443, R444); every time is 0
and every domain UNSET at 2.5 ns a tick (R43); the hub is unenumerated (R346); no operation has run (R434); no port
drives (R81), no plan runs; the event log (R435), the Hopper (R297) and the SERVICE transactions are empty.

Model's choices on which this rests: log entries 3 to 6. -/
def Obligations.AfterReset : Prop :=
  (
 State.reset.Inv) ∧
  (
  State.reset.power.phase = .awaitPll ∧ State.reset.pending = [] ∧
  (∀ d, d < 4 → State.reset.fine d = 0 ∧ State.reset.e (0x2301 + d) 7 = 0 ∧ State.reset.e (0x2301 + d) 3 = 0x28000 * 2 ^ 32) ∧
  State.reset.e 0x3500 1 = 0 ∧ State.reset.e 0x1018 3 = 0xFFFFFFFF ∧
  (∀ op ∈ [0x10, 0x11, 0x12, 0x13, 0x20, 0x21, 0x30, 0x40], State.reset.e (0x1400 + op) 2 = 0) ∧
  (∀ g, (State.reset.xport g).on = false ∧ State.reset.e (0x2600 + g) 9 = 0) ∧ State.reset.planState = 0 ∧
  State.reset.log.items = [] ∧ State.reset.hop.held = [] ∧ State.reset.svc.txns = [] ∧ State.reset.svc.stored = [])

/-- R443, R453, R461: while the hub is not up, a command has no effect unless it belongs to what goes on then: the
Governor island, discharging ports, the resets and the start, and the frames that leave before a port powers down.

Model's choices on which this rests: log entry 7. -/
def Obligations.NotUpNothingHappens : Prop :=
  ∀ (c : Instr) (s : State), s.isUp = false → standing c = false → exec c s = .next s

/-! ### SERVICE -/

/-- R420: a host write that has a row of its own is the WRITE of that row's entry: the hub does the same at both. -/
def Obligations.NamedWriteIsWrite : Prop :=
  ∀ (c : Instr) (r : Req) (idx : BitVec 16) (sub : BitVec 8) (data : List Byte) (s : State),
    target c = some (r, idx.toNat, sub.toNat, data) → data.length < 65536 → s.waits = false →
    exec c s = exec (.write r idx sub (BitVec.ofNat 16 data.length) true data) s

/-- R413, R420: a WRITE of an entry that is a plain setting: the value is stored in one step, reserved bits of a TIME96
reading 0 (R29), and answered with WRITE_DONE; besides the reaction times that follow from it nothing changes.

Model's choices on which this rests: log entries 5, 8. -/
def Obligations.WriteStores : Prop :=
  ∀ (s : State) (r : Req) (idx : BitVec 16) (sub : BitVec 8) (data : List Byte),
    plain idx.toNat sub.toNat → data.length < 65536 → accepted s r idx.toNat sub.toNat data = true →
    ∃ t, exec (.write r idx sub (BitVec.ofNat 16 data.length) true data) s = .next t ∧
      t.e idx.toNat sub.toNat = (if (idx.toNat, sub.toNat) ∈ [0x2681, 0x2682, 0x2683, 0x2684, 0x2685, 0x2686, 0x2687, 0x2688].map (fun i => (i, 2))
        then clean96 (ofBytes data) else ofBytes data) ∧
      Answers s r idx.toNat sub.toNat data 0 (fun i j => entry idx.toNat sub.toNat i j ∨ reactionEntry i j) [] t

/-- R420: a WRITE that fails a test of steps 1 to 4 is answered with ABORT and the code of the first test that fails,
and changes nothing. An unknown object or subindex, an entry that only reads, a value of the wrong length fail with the
codes that R419 gives. -/
def Obligations.WriteRefused : Prop :=
  ∀ (s : State) (r : Req) (idx : BitVec 16) (sub : BitVec 8) (data : List Byte), data.length < 65536 →
    opens s r (writeBytes r idx.toNat sub.toNat data) = true →
    (let code := (opened s r idx.toNat sub.toNat data).writeTest false idx.toNat sub.toNat data
     code ≠ 0 →
     code ∈ [0x02000001, 0x02000002, 0x02000003, 0x02000004, 0x03000002, 0x03000003, 0x03000004, 0x03000005, 0x03000006,
       0x03000007, 0x04000001, 0x04000002, 0x04000003] ∧
     (objAt idx.toNat = none → code = 0x02000001) ∧
     ((objAt idx.toNat).isSome = true → sub ≠ 0 → sub ≠ 0xFF → rowAt idx.toNat sub.toNat = none → code = 0x02000002) ∧
     (∀ row, rowAt idx.toNat sub.toNat = some row → s.absentRecord idx.toNat = false →
       (row.acc = .ro → s.numberLimit idx.toNat sub.toNat (ofBytes data) = false →
         s.namesAbsent idx.toNat sub.toNat (ofBytes data) = false → code = 0x03000002) ∧
       (lengthFits idx.toNat sub.toNat data.length = false →
         (opened s r idx.toNat sub.toNat data).accessTest idx.toNat sub.toNat (ofBytes data) = 0 → code = 0x04000001)) ∧
     ∃ t, exec (.write r idx sub (BitVec.ofNat 16 data.length) true data) s = .next t ∧
       t.e 0x1300 3 = code ∧ t.e 0x1300 4 = idx.toNat * 256 + sub.toNat ∧
       Answers s r idx.toNat sub.toNat data code noEntry [] t ∧ t.flash = s.flash)

/-- R348, R412, R416, R417, R454: what a request meets before it is looked at. An Unplaced hub takes none. During a warm reset it waits, as long as fewer
than 8 wait; a reserved bit refuses it; a byte for byte repeat of the request that completed last under its number is
answered from the stored response and counted; one that opens a transaction is refused while its number is open, or
while 8 are open.

Model's choices on which this rests: log entries 8, 10. -/
def Obligations.RequestsGuarded : Prop :=
  ∀ (c : Instr) (r : Req) (idx sub : Nat) (b : List Byte) (s : State), request c = some (r, idx, sub, b) → s.isUp = true →
    (s.e 0x3500 1 = 2 → exec c s = .next s) ∧ (s.e 0x3500 1 ≠ 2 →
    (s.waits = true → s.power.deferred.length < 8 → ∃ t, exec c s = .next t ∧
      t.power = { s.power with deferred := s.power.deferred ++ [c] } ∧ t.leat = (s.takeService b).leat ∧ Kept s t [.power, .leat]) ∧
    (s.waits = true → 8 ≤ s.power.deferred.length → exec c s = .next (aborted s r idx sub b 0x01000004)) ∧
    (s.waits = false → r.reservedSet = true → exec c s = .next (aborted s r idx sub b 0x01000001)) ∧
    (s.waits = false → r.reservedSet = false → ∀ resp : List Byte,
      s.svc.stored.find? (fun e => decide (e.1 = r.txn.toNat ∧ e.2.1 = b)) = some (r.txn.toNat, b, resp) →
      exec c s = .next (((s.takeService b).bump 0x1300 6).sendResponse r.south resp)) ∧
    (through s r b = true → opensTransaction c = true → (∀ i j t, c ≠ .domainStart r i j t) →
      ((s.svc.txns.lookup r.txn.toNat).isSome = true → exec c s = .next (aborted s r idx sub b 0x01000005)) ∧
      ((s.svc.txns.lookup r.txn.toNat).isSome = false → 8 ≤ s.svc.txns.length →
        exec c s = .next (aborted s r idx sub b 0x01000004))))

/-- R413, R418, R423, R437, R197: reads. A READ of an entry that holds a value answers it whole, most significant byte first (R421)
in the entry's width, and changes nothing; a write-only entry is refused. A pop answers the oldest record not yet read
of the event log, or of a Sail's queue, with its 32-bit status, and takes it out; the queue of a Sail that a stream
owns is not popped.

Model's choices on which this rests: log entry 4. -/
def Obligations.ReadsAnswer : Prop :=
  (∀ (s : State) (r : Req) (idx : BitVec 16) (sub : BitVec 8) (row : Row),
    opens s r (readBytes r idx.toNat sub.toNat) = true → sub ≠ 0 → sub ≠ 0xFF → rowAt idx.toNat sub.toNat = some row →
    (row.acc ≠ .wo → row.ty ≠ .domain → s.derived idx.toNat sub.toNat = none → clearMask idx.toNat sub.toNat = [] →
      ¬(0x1410 ≤ idx.toNat ∧ idx.toNat ≤ 0x1440 ∧ (sub = 3 ∨ sub = 4) ∧ s.running (idx.toNat - 0x1400) = true) →
      s.isFree idx.toNat sub.toNat = false → isPop idx.toNat sub.toNat = false →
      ∃ t, exec (.read r idx sub) s = .next t ∧ Finished s r (readBytes r idx.toNat sub.toNat)
        (serviceBytes 0x81 r.txn.toNat idx.toNat sub.toNat false true row.ty.size (toBytes row.ty.size (s.e idx.toNat sub.toNat)))
        noEntry [] t) ∧
    (row.acc = .wo → ∃ t, exec (.read r idx sub) s = .next t ∧ t.e 0x1300 3 = 0x03000001 ∧
      Finished s r (readBytes r idx.toNat sub.toNat)
        (serviceBytes 0xFF r.txn.toNat idx.toNat sub.toNat false false 4 (toBytes 4 0x03000001)) noEntry [] t)) ∧
  (∀ (s : State) (r : Req), opens s r (readBytes r 0x1600 1) = true →
    ∃ t, exec (.eventPop r) s = .next t ∧ t.log = (s.log.pop 32).2 ∧ ((s.log.pop 32).1.length ≤ 248 →
      Finished s r (readBytes r 0x1600 1)
        (serviceBytes 0x81 r.txn.toNat 0x1600 1 false true (s.log.pop 32).1.length (s.log.pop 32).1) noEntry [.log] t)) ∧
  (∀ (s : State) (r : Req) (n : Fin 8), opens s r (readBytes r (0x2E00 + n) 0x0D) = true →
    (let p := (s.sailRun n).queue.pop 16
     (s.sailOwner n = none → p.1.length ≤ 248 →
       ∃ t, exec (.queuePop r n) s = .next t ∧ (t.sailRun n).queue = p.2 ∧ (∀ k, k ≠ n.val → t.sailRun k = s.sailRun k) ∧
         Finished s r (readBytes r (0x2E00 + n) 0x0D)
           (serviceBytes 0x81 r.txn.toNat (0x2E00 + n) 0x0D false true p.1.length p.1) noEntry [.sails] t) ∧
     (s.sailOwner n ≠ none →
       ∃ t, exec (.queuePop r n) s = .next t ∧ t.e 0x1300 3 = 0x03000005 ∧
         Finished s r (readBytes r (0x2E00 + n) 0x0D)
           (serviceBytes 0xFF r.txn.toNat (0x2E00 + n) 0x0D false false 4 (toBytes 4 0x03000005)) noEntry [] t)))

/-- R197, R437: what a pop gives: the oldest record not yet popped with the number of records left, in order, or, from an
empty queue, the record given last with the empty bit; a refused push shows once. A popped record is kept while a mark
at or before it stands, and a Rewind to that mark makes it the next one again. -/
def Obligations.PopsGiveTheOldest : Prop :=
  ∀ (q : MarkQueue) (size : Nat) (x : List Byte), q.base ≤ q.read →
    (q.items[q.read - q.base]? = some x →
      (q.pop size).1 = x ++ toBytes 4 ((if q.refused then 2 else 0) + 4 * (q.depth - 1)) ∧
      (q.pop size).2.read = q.read + 1 ∧ (q.pop size).2.refused = false ∧ (q.pop size).2.depth = q.depth - 1 ∧
      (∀ k, q.read + 1 ≤ k → (q.pop size).2.items[k - (q.pop size).2.base]? = q.items[k - q.base]?)) ∧
    (q.items[q.read - q.base]? = none →
      (q.pop size).1 = q.last.getD (zeros size) ++ toBytes 4 (1 + (if q.refused then 2 else 0)) ∧ (q.pop size).2 = { q with refused := false }) ∧
    (∀ n : Nat, q.items[q.read - q.base]? = some x →
      ((q.mark n).pop size).2.markAt n = some q.read ∧
      (((q.mark n).pop size).2.rewind q.read).items[q.read - (((q.mark n).pop size).2.rewind q.read).base]? = some x)

/-- R414: segmented transfers. A READ of a value of more than 248 bytes sends its length and its first 248 bytes and
stays open; an UPLOAD_SEGMENT of the opposite toggle sends the next bytes, the last of them with Last, and one of the
same toggle sends the last segment again. A WRITE with the first frame of a longer value opens a download, and a
DOWNLOAD_SEGMENT of the opposite toggle adds to it; a repeat is acknowledged again, and the same toggle with other
bytes, or too many bytes, end it. A segment under a number with no such transfer is refused.

Model's choices on which this rests: log entry 9. -/
def Obligations.SegmentsMove : Prop :=
  (∀ (s : State) (r : Req) (idx : BitVec 16) (sub : BitVec 8),
    (let b := readBytes r idx.toNat sub.toNat
     let v := (s.takeService b).readValue idx.toNat sub.toNat
     opens s r b = true → v.1 = 0 → 248 < v.2.1.length →
     ∃ t, exec (.read r idx sub) s = .next t ∧ t.svc.txns.lookup r.txn.toNat =
         some ⟨.upload v.2.1 248 false none, idx.toNat, sub.toNat, r.south, b, v.2.2.gov.ticks⟩ ∧
       t.leat = (v.2.2.sendResponse r.south
         (serviceBytes 0x81 r.txn.toNat idx.toNat sub.toNat false false v.2.1.length (v.2.1.take 248))).leat)) ∧
  (∀ (s : State) (r : Req) (i : BitVec 16) (j : BitVec 8) (toggle was : Bool) (data : List Byte) (pos : Nat)
      (seg : Option (List Byte)) (idx sub : Nat) (south : Bool) (req : List Byte) (t0 : Nat),
    (let b := reqBytes 0x03 r i.toNat j.toNat toggle false 0 []
     let d := (data.drop pos).take 248
     through s r b = true → s.svc.txns.lookup r.txn.toNat = some ⟨.upload data pos was seg, idx, sub, south, req, t0⟩ →
     (toggle ≠ was → data.length ≤ pos + 248 → ∃ t, exec (.uploadSegment r i j toggle) s = .next t ∧
       Finished s r b (serviceBytes 0x83 r.txn.toNat idx sub toggle true d.length d) noEntry [] t) ∧
     (toggle ≠ was → pos + 248 < data.length → ∃ t, exec (.uploadSegment r i j toggle) s = .next t ∧
       GoesOn s r idx sub b (serviceBytes 0x83 r.txn.toNat idx sub toggle false d.length d)
         (.upload data (pos + 248) toggle (some d)) noEntry [] t) ∧
     (∀ x : List Byte, toggle = was → seg = some x → ∃ t, exec (.uploadSegment r i j toggle) s = .next t ∧
       GoesOn s r idx sub b (serviceBytes 0x83 r.txn.toNat idx sub toggle false x.length x) (.upload data pos was seg) noEntry [] t))) ∧
  (∀ (s : State) (r : Req) (idx : BitVec 16) (sub : BitVec 8) (total : BitVec 16) (data : List Byte),
    (let b := reqBytes 0x02 r idx.toNat sub.toNat false false total.toNat data
     opens s r b = true → data.length ≤ total.toNat →
     ∃ t, exec (.write r idx sub total false data) s = .next t ∧
       GoesOn s r idx.toNat sub.toNat b (serviceBytes 0x84 r.txn.toNat idx.toNat sub.toNat false false 0 [])
         (.download total.toNat data false data) noEntry [] t)) ∧
  (∀ (s : State) (r : Req) (i : BitVec 16) (j : BitVec 8) (toggle was last : Bool) (data sofar seg : List Byte) (total : Nat)
      (idx sub : Nat) (south : Bool) (req : List Byte) (t0 : Nat),
    (let b := reqBytes 0x04 r i.toNat j.toNat toggle last data.length data
     let c : Instr := .downloadSegment r i j toggle last data
     through s r b = true → s.svc.txns.lookup r.txn.toNat = some ⟨.download total sofar was seg, idx, sub, south, req, t0⟩ →
     (toggle ≠ was → last = false → (sofar ++ data).length ≤ total → ∃ t, exec c s = .next t ∧
       GoesOn s r idx sub b (serviceBytes 0x84 r.txn.toNat idx sub toggle false 0 [])
         (.download total (sofar ++ data) toggle data) noEntry [] t) ∧
     (toggle ≠ was → last = true → (sofar ++ data).length = total →
       exec c s = .next ((s.takeService b).writeNow r idx sub (sofar ++ data) b)) ∧
     (toggle ≠ was → (total < (sofar ++ data).length ∨ (last = true ∧ (sofar ++ data).length < total)) →
       ∃ t, exec c s = .next t ∧ t.e 0x1300 3 = 0x04000001 ∧
         Finished s r b (serviceBytes 0xFF r.txn.toNat idx sub false false 4 (toBytes 4 0x04000001)) noEntry [] t) ∧
     (toggle = was → data = seg → ∃ t, exec c s = .next t ∧
       GoesOn s r idx sub b (serviceBytes 0x84 r.txn.toNat idx sub toggle false 0 []) (.download total sofar was seg) noEntry [] t) ∧
     (toggle = was → data ≠ seg → ∃ t, exec c s = .next t ∧ t.e 0x1300 3 = 0x01000002 ∧
       Finished s r b (serviceBytes 0xFF r.txn.toNat idx sub false false 4 (toBytes 4 0x01000002)) noEntry [] t))) ∧
  (∀ (s : State) (r : Req) (i : BitVec 16) (j : BitVec 8) (toggle last : Bool) (data : List Byte),
    (let b := reqBytes 0x03 r i.toNat j.toNat toggle false 0 []
     (∀ x, s.svc.txns.lookup r.txn.toNat = some x → ∀ d p w g, x.xfer ≠ .upload d p w g) →
     through s r b = true → exec (.uploadSegment r i j toggle) s = .next (aborted s r i.toNat j.toNat b 0x01000007)) ∧
    (let b := reqBytes 0x04 r i.toNat j.toNat toggle last data.length data
     (∀ x, s.svc.txns.lookup r.txn.toNat = some x → ∀ n d w g, x.xfer ≠ .download n d w g) →
     through s r b = true →
     exec (.downloadSegment r i j toggle last data) s = .next (aborted s r i.toNat j.toNat b 0x01000007)))

/-- R415: a domain transfer. DOMAIN_START of the staging entry empties the staging and is answered with the window of
16; a segment with the number expected is added, and acknowledged every eighth and at the last; any other is discarded
and acknowledged at once with the number expected; DOMAIN_END stages the content where digest and length agree, and
otherwise refuses it and leaves the staging empty. A second transfer is refused while one is open.

R416: ends of a transfer. CANCEL closes one that awaits a request, does not stop one that executes, and is refused
where none is open; a transfer that awaited a request for Transfer timeout is closed with ABORT.

Model's choices on which this rests: log entry 9. -/
def Obligations.TransfersMoveAndEnd : Prop :=
  (
  (∀ (s : State) (r : Req) (total : BitVec 32),
    (let b := reqBytes 0x05 r 0x1500 0x10 false false 4 (toBytes 4 total.toNat)
     opens s r b = true → s.domainOpen = false → 0 < total.toNat → total.toNat ≤ 4194304 →
     ∃ t, exec (.domainStart r 0x1500 0x10 total) s = .next t ∧ t.flash = { s.flash with staged := none } ∧
       t.e 0x1500 0x11 = 0 ∧ t.e 0x1500 0x12 = 0 ∧
       GoesOn s r 0x1500 0x10 b (serviceBytes 0x85 r.txn.toNat 0x1500 0x10 false false 2 (toBytes 2 16))
         (.domain total.toNat [] 0 false) (entriesOf 0x1500 [0x11, 0x12]) [.flash] t)) ∧
  (∀ (s : State) (r : Req) (i : BitVec 16) (j : BitVec 8) (total : BitVec 32),
    (let b := reqBytes 0x05 r i.toNat j.toNat false false 4 (toBytes 4 total.toNat)
     through s r b = true → s.domainOpen = true →
     exec (.domainStart r i j total) s = .next (aborted s r i.toNat j.toNat b 0x01000005))) ∧
  (∀ (s : State) (r : Req) (i : BitVec 16) (j : BitVec 8) (num : BitVec 16) (last ended : Bool) (data sofar : List Byte)
      (total next idx sub : Nat) (south : Bool) (req : List Byte) (t0 : Nat),
    (let b := reqBytes 0x06 r i.toNat j.toNat false last num.toNat data
     let c : Instr := .domainSegment r i j num last data
     through s r b = true → s.svc.txns.lookup r.txn.toNat = some ⟨.domain total sofar next ended, idx, sub, south, req, t0⟩ →
     (ended = true ∨ num.toNat ≠ next → ∃ t, exec c s = .next t ∧
       GoesOn s r idx sub b (serviceBytes 0x86 r.txn.toNat idx sub false false 2 (toBytes 2 next))
         (.domain total sofar next ended) noEntry [] t) ∧
     (ended = false → num.toNat = next → last = true ∨ (next + 1) % 8 = 0 → ∃ t, exec c s = .next t ∧
       GoesOn s r idx sub b (serviceBytes 0x86 r.txn.toNat idx sub false false 2 (toBytes 2 (next + 1)))
         (.domain total (sofar ++ data) (next + 1) last) noEntry [] t) ∧
     (ended = false → num.toNat = next → last = false → (next + 1) % 8 ≠ 0 → ∃ t, exec c s = .next t ∧
       t.svc.txns.lookup r.txn.toNat = some ⟨.domain total (sofar ++ data) (next + 1) last, idx, sub, r.south, b, s.gov.ticks⟩ ∧
       t.leat = (s.takeService b).leat))) ∧
  (∀ (s : State) (r : Req) (i : BitVec 16) (j : BitVec 8) (crc : BitVec 32) (sofar : List Byte) (total next : Nat) (ended : Bool)
      (idx sub : Nat) (south : Bool) (req : List Byte) (t0 : Nat),
    (let b := reqBytes 0x07 r i.toNat j.toNat false false 4 (toBytes 4 crc.toNat)
     through s r b = true → s.svc.txns.lookup r.txn.toNat = some ⟨.domain total sofar next ended, idx, sub, south, req, t0⟩ →
     (crc32C sofar = crc.toNat → sofar.length = total → ∃ t, exec (.domainEnd r i j crc) s = .next t ∧
       t.flash = { s.flash with staged := some sofar } ∧ t.e 0x1500 0x11 = sofar.length ∧ t.e 0x1500 0x12 = crc.toNat ∧
       Finished s r b (serviceBytes 0x87 r.txn.toNat idx sub false false 0 []) (entriesOf 0x1500 [0x11, 0x12]) [.flash] t) ∧
     (crc32C sofar ≠ crc.toNat → ∃ t, exec (.domainEnd r i j crc) s = .next t ∧
       t.flash = { s.flash with staged := none } ∧ t.e 0x1300 3 = 0x01000006 ∧
       Finished s r b (serviceBytes 0xFF r.txn.toNat idx sub false false 4 (toBytes 4 0x01000006))
         (entriesOf 0x1500 [0x11, 0x12]) [.flash] t) ∧
     (crc32C sofar = crc.toNat → sofar.length ≠ total → ∃ t, exec (.domainEnd r i j crc) s = .next t ∧
       t.flash = { s.flash with staged := none } ∧ t.e 0x1300 3 = 0x04000001 ∧
       Finished s r b (serviceBytes 0xFF r.txn.toNat idx sub false false 4 (toBytes 4 0x04000001))
         (entriesOf 0x1500 [0x11, 0x12]) [.flash] t)))) ∧
  (
  (∀ (s : State) (r : Req) (i : BitVec 16) (j : BitVec 8),
    (let b := reqBytes 0x09 r i.toNat j.toNat false false 0 []
     through s r b = true →
     (∀ x : Txn, s.svc.txns.lookup r.txn.toNat = some x → x.xfer ≠ .executing → ∃ t, exec (.cancel r i j) s = .next t ∧
       t.e 0x1300 3 = 0x01000008 ∧
       Finished s r b (serviceBytes 0xFF r.txn.toNat x.idx x.sub false false 4 (toBytes 4 0x01000008)) noEntry [] t) ∧
     (∀ x : Txn, s.svc.txns.lookup r.txn.toNat = some x → x.xfer = .executing →
       exec (.cancel r i j) s = .next (aborted s r i.toNat j.toNat b 0x01000005)) ∧
     (s.svc.txns.lookup r.txn.toNat = none →
       exec (.cancel r i j) s = .next (aborted s r i.toNat j.toNat b 0x01000007)))) ∧
  (∀ (s : State) (txn : BitVec 8) (x : Txn), s.isUp = true → s.svc.txns.lookup txn.toNat = some x → x.xfer ≠ .executing →
    x.since + s.e 0x1300 5 * 400000 ≤ s.gov.ticks →
    ∃ t, exec (.transferTimeout txn) s = .next t ∧ t.svc.txns.lookup txn.toNat = none ∧ t.svc.stored = s.svc.stored ∧
      t.e 0x1300 3 = 0x01000003 ∧
      t.leat = (s.sendResponse x.south (serviceBytes 0xFF txn.toNat x.idx x.sub false false 4 (toBytes 4 0x01000003))).leat ∧
      Entries s t serviceEntry ∧ Kept s t [.dict, .svc, .leat]))

/-! ### Queues with marks -/

/-- R197, R437: Mark, Rewind and Release of the event log and of a Sail's queue. Mark sets a mark at the read position;
Rewind moves the read position to a mark, Release frees what is held before one and removes it with the marks before
it; a mark that is not set refuses both with 0x05000006. Nothing but the queue changes, except that room in a Sail's
queue opens an arming that waited for it (R193). -/
def Obligations.LogAndSailMarks : Prop :=
  (∀ (s : State) (r : Req) (v : BitVec 8),
    (accepted s r 0x1600 4 (toBytes 1 v.toNat) = true → ∃ t, exec (.eventLogMark r v) s = .next t ∧
      t.log = s.log.mark v.toNat ∧ Answers s r 0x1600 4 (toBytes 1 v.toNat) 0 noEntry [.log] t) ∧
    (∀ p : Nat, s.log.markAt v.toNat = some p →
      (accepted s r 0x1600 5 (toBytes 1 v.toNat) = true → ∃ t, exec (.eventLogRewind r v) s = .next t ∧
        t.log = s.log.rewind p ∧ Answers s r 0x1600 5 (toBytes 1 v.toNat) 0 noEntry [.log] t) ∧
      (accepted s r 0x1600 6 (toBytes 1 v.toNat) = true → ∃ t, exec (.eventLogRelease r v) s = .next t ∧
        t.log = s.log.release p ∧ Answers s r 0x1600 6 (toBytes 1 v.toNat) 0 noEntry [.log] t)) ∧
    (s.log.markAt v.toNat = none →
      (accepted s r 0x1600 5 (toBytes 1 v.toNat) = true → ∃ t, exec (.eventLogRewind r v) s = .next t ∧
        Answers s r 0x1600 5 (toBytes 1 v.toNat) 0x05000006 noEntry [] t) ∧
      (accepted s r 0x1600 6 (toBytes 1 v.toNat) = true → ∃ t, exec (.eventLogRelease r v) s = .next t ∧
        Answers s r 0x1600 6 (toBytes 1 v.toNat) 0x05000006 noEntry [] t))) ∧
  (∀ (s : State) (r : Req) (n : Fin 8) (v : BitVec 8) (c : Instr) (sub : Nat) (q : Option MarkQueue),
    (let x := (s.sailRun n).queue
     (c = .sailQueueMark r n v ∧ sub = 0x10 ∧ q = some (x.mark v.toNat)) ∨
     (c = .sailQueueRewind r n v ∧ sub = 0x11 ∧ q = (x.markAt v.toNat).map x.rewind) ∨
     (c = .sailQueueRelease r n v ∧ sub = 0x12 ∧ q = (x.markAt v.toNat).map x.release)) →
    accepted s r (0x2E00 + n) sub (toBytes 1 v.toNat) = true →
    (∀ y : MarkQueue, q = some y → ∃ t, exec c s = .next t ∧
      t.sailRun n = (let x := { s.sailRun n with queue := y }
        if x.armDue = true ∧ x.armed = false ∧ y.occupancy + s.e (0x2E00 + n) 8 + 1 ≤ 1024
        then { x with armed := true, armDue := false, openAt := s.gov.ticks, start := none, stops := [] } else x) ∧
      (∀ k, k ≠ n.val → t.sailRun k = s.sailRun k) ∧
      Answers s r (0x2E00 + n) sub (toBytes 1 v.toNat) 0 noEntry [.sails] t) ∧
    (q = none → ∃ t, exec c s = .next t ∧ Answers s r (0x2E00 + n) sub (toBytes 1 v.toNat) 0x05000006 noEntry [] t))

/-- R301 to R304: the marks of a Hopper queue. Mark sets a host mark at the read position; Rewind moves the read position
to a mark, or to the release point for mark 0; Rewind to moves it to a record number from mark 0 to the send front;
Release frees what lies before a mark with the marks at or before it; of a record that is being sent, and those behind it
that the release covers, the space comes free once it has gone;
Release through frees through a record number below the send front (on a standby: below the commit point), is a repeat
behind the release point, and is refused and counted past that. Records that waited for the space so freed follow.

Model's choices on which this rests: log entry 26. -/
def Obligations.HopperMarks : Prop :=
  ∀ (s : State) (r : Req) (q : Fin 8),
    (let x := s.hq q
     let moved := fun (p : Nat) => x.moveRead p
     let rest := [Part.hop, .streams, .twin]
     let released := fun (y : HQueue) (p : Nat) =>
       if 0 < y.sent ∧ y.read < p then
         { y.freeTo y.read with marks := y.marks.filter (fun m => decide (p ≤ m.2)), relPend := some (max p (y.relPend.getD 0)) }
       else y.freeTo p
     let limit := if s.listening then x.commit else x.front
     (∀ v : BitVec 8, accepted s r (0x3410 + q) 8 (toBytes 1 v.toNat) = true → ∃ t, exec (.hopperMark r q v) s = .next t ∧
       t.hq q = { x with marks := Tbl.put x.marks v.toNat x.read } ∧ (∀ k, k ≠ q.val → t.hq k = s.hq k) ∧
       Answers s r (0x3410 + q) 8 (toBytes 1 v.toNat) 0 noEntry [.hop] t) ∧
     (∀ v : BitVec 8, accepted s r (0x3410 + q) 9 (toBytes 1 v.toNat) = true →
       (∀ p : Nat, (if v = 0 then some x.release else x.marks.lookup v.toNat) = some p →
         ∃ t, exec (.hopperRewind r q v) s = .next t ∧ onlyQueue s t q (moved p) ∧
           answered r (0x3410 + q) 9 (toBytes 1 v.toNat) 0 t ∧ Kept s t ([.dict, .svc, .leat, .flash] ++ rest)) ∧
       (v ≠ 0 → x.marks.lookup v.toNat = none → ∃ t, exec (.hopperRewind r q v) s = .next t ∧
         Answers s r (0x3410 + q) 9 (toBytes 1 v.toNat) 0x05000006 noEntry [] t)) ∧
     (∀ v : BitVec 32, accepted s r (0x3410 + q) 12 (toBytes 4 v.toNat) = true →
       (x.position v.toNat ≤ x.front → ∃ t, exec (.rewindTo r q v) s = .next t ∧
         onlyQueue s t q (moved (x.position v.toNat)) ∧ answered r (0x3410 + q) 12 (toBytes 4 v.toNat) 0 t ∧
         Kept s t ([.dict, .svc, .leat, .flash] ++ rest)) ∧
       (x.front < x.position v.toNat → ∃ t, exec (.rewindTo r q v) s = .next t ∧
         Answers s r (0x3410 + q) 12 (toBytes 4 v.toNat) 0x04000002 noEntry [] t)) ∧
     (∀ v : BitVec 8, accepted s r (0x3410 + q) 10 (toBytes 1 v.toNat) = true →
       (∀ p : Nat, x.marks.lookup v.toNat = some p → ∃ t, exec (.hopperRelease r q v) s = .next t ∧
         onlyQueue s t q (released { x with marks := x.marks.filter (fun m => decide (p < m.2)) } p) ∧
         answered r (0x3410 + q) 10 (toBytes 1 v.toNat) 0 t ∧ Kept s t ([.dict, .svc, .leat, .flash] ++ rest)) ∧
       (x.marks.lookup v.toNat = none → ∃ t, exec (.hopperRelease r q v) s = .next t ∧
         Answers s r (0x3410 + q) 10 (toBytes 1 v.toNat) 0x05000006 noEntry [] t)) ∧
     (∀ v : BitVec 32, accepted s r (0x3410 + q) 11 (toBytes 4 v.toNat) = true →
       (let p := x.position v.toNat
        (p < x.release + 2 ^ 31 → p < limit → ∃ t, exec (.releaseThrough r q v) s = .next t ∧
          onlyQueue s t q (released x (p + 1)) ∧
          answered r (0x3410 + q) 11 (toBytes 4 v.toNat) 0 t ∧ Kept s t ([.dict, .svc, .leat, .flash] ++ rest)) ∧
        (p < x.release + 2 ^ 31 → limit ≤ p → ∃ t, exec (.releaseThrough r q v) s = .next t ∧
          t.e (0x3410 + q) 0x0F = sat32 (s.e (0x3410 + q) 0x0F + 1) ∧
          Answers s r (0x3410 + q) 11 (toBytes 4 v.toNat) 0x05000006 (entry (0x3410 + q) 0x0F) [] t) ∧
        (x.release + 2 ^ 31 ≤ p → ∃ t, exec (.releaseThrough r q v) s = .next t ∧ onlyQueue s t q x ∧
          answered r (0x3410 + q) 11 (toBytes 4 v.toNat) 0 t ∧ Kept s t ([.dict, .svc, .leat, .flash] ++ rest)))))

/-! ### Long operations -/

/-- R427, R429 to R432, R139, R248, R330, R363: starting a long operation. A start is refused while the operation runs
(0x06000001), while one runs that excludes it (0x06000002), or where a condition of its own fails; an accepted one
opens the operation's record and answers at once. PERSIST snapshots the P entries and invalidates one copy of each
image; IMAGE_TEST notes what it tests; IMAGE_INSTALL ends at once on a staged image with an error, else invalidates the
copy it will write; PLAN_CHECK shows the first stream; SOUNDING_SWEEP takes the channels of each die; LANE_TEST puts the
port under test; TWIN_PAIR sends PAIR_BEGIN and has every unreleased record to copy.

Model's choices on which this rests: log entry 29. -/
def Obligations.OperationsStart : Prop :=
  ∀ (s : State) (r : Req) (args : List Byte),
    (∀ (c : Instr) (code : Nat),
      (c, code) ∈ [(.persist r args, 0x10), (.restoreDefaults r args, 0x11), (.imageTest r args, 0x12), (.imageInstall r args, 0x13),
        (.planCheck r args, 0x20), (.soundingSweep r args, 0x21), (.laneTest r args, 0x30), (.twinPair r args, 0x40)] →
      accepted s r (0x1400 + code) 1 args = true → s.startTest code (ofBytes args) ≠ 0 →
      ∃ t, exec c s = .next t ∧ Answers s r (0x1400 + code) 1 args (s.startTest code (ofBytes args)) noEntry [] t) ∧
    (∀ code arg : Nat, (s.startCondition code arg ≠ 0 → s.startTest code arg = s.startCondition code arg) ∧
      (s.startCondition code arg = 0 → s.running code = true → s.startTest code arg = 0x06000001) ∧
      (s.startCondition code arg = 0 → s.running code = false → (∃ x ∈ refusedBy code, s.running x = true) →
        s.startTest code arg = 0x06000002)) ∧
    (accepted s r 0x1410 1 args = true → s.startTest 0x10 0 = 0 → ∃ t, exec (.persist r args) s = .next t ∧
      Started s t 0x10 ∧ t.e 0x1500 1 = 2 ∧ t.flash.snapshot = some (opened s r 0x1410 1 args).snapshotOf ∧
      (∀ y ∈ [1, 2, 3, 4, 5, 6], t.copyOf y (s.copyToWrite y) = none ∧ t.copyOf y (1 - s.copyToWrite y) = s.copyOf y (1 - s.copyToWrite y)) ∧
      answered r 0x1410 1 args 0 t ∧ Entries s t (fun i j => opEntry 0x10 i j ∨ entry 0x1500 1 i j ∨ serviceEntry i j) ∧
      Kept s t [.dict, .svc, .leat, .flash]) ∧
    (accepted s r 0x1411 1 args = true → s.startTest 0x11 0 = 0 → ∃ u, Started s u 0x11 ∧
      Entries s u (fun i j => opEntry 0x11 i j ∨ entry 0x1300 1 i j) ∧ Kept s u [.dict, .svc, .leat] ∧
      exec (.restoreDefaults r args) s = .next (u.restoreDefaults.answer r.txn.toNat 0)) ∧
    (accepted s r 0x1412 1 args = true → s.startTest 0x12 (ofBytes args) = 0 → ∃ t, exec (.imageTest r args) s = .next t ∧
      Started s t 0x12 ∧ t.flash = { s.flash with testing := some (ofBytes args) } ∧ answered r 0x1412 1 args 0 t ∧
      Entries s t (fun i j => opEntry 0x12 i j ∨ serviceEntry i j) ∧ Kept s t [.dict, .svc, .leat, .flash]) ∧
    (accepted s r 0x1413 1 args = true → s.startTest 0x13 (ofBytes args) = 0 → ∃ t, exec (.imageInstall r args) s = .next t ∧
      answered r 0x1413 1 args 0 t ∧ Kept s t [.dict, .svc, .leat, .flash] ∧
      (∀ e : Nat × Nat, decodeImage (s.flash.staged.getD []) = .inl e → Ended s t 0x13 3 ∧ t.e 0x1413 6 = e.1 ∧
        t.e 0x3300 0x11 = e.1 ∧ t.e 0x3300 0x12 = e.2 ∧ t.flash = s.flash) ∧
      (∀ (y gen : Nat) (content : List Byte), decodeImage (s.flash.staged.getD []) = .inr (y, gen, content) → 1 ≤ y → y ≤ 6 →
        Started s t 0x13 ∧ t.e 0x1500 1 = 2 ∧ t.flash.install = some (y, ⟨gen, entryRecords content.length content⟩) ∧
        t.copyOf y (s.copyToWrite y) = none ∧ t.e 0x3300 0x10 = y ∧ t.e 0x3300 0x11 = 0 ∧ t.e 0x3300 0x12 = 0xFFFF) ∧
      (∀ (y gen : Nat) (content : List Byte), decodeImage (s.flash.staged.getD []) = .inr (y, gen, content) → y < 1 ∨ 6 < y →
        Ended s t 0x13 3 ∧ t.e 0x1413 6 = 4 ∧ t.flash = s.flash)) ∧
    (accepted s r 0x1420 1 args = true → s.startTest 0x20 (ofBytes args) = 0 → ∃ t, exec (.planCheck r args) s = .next t ∧
      Started s t 0x20 ∧ t.e 0x1420 4 = s.enabledStreams.headD 0xFFFF % 65536 ∧
      Answers s r 0x1420 1 args 0 (opEntry 0x20) [] t) ∧
    (accepted s r 0x1421 1 args = true → s.startTest 0x21 (ofBytes args) = 0 → ∃ u, Started s u 0x21 ∧
      Entries s u (fun i j => opEntry 0x21 i j ∨ entry 0x1300 1 i j) ∧ Kept s u [.dict, .svc, .leat] ∧
      (let all := (List.range (s.e 0x2698 6 + 1 - s.e 0x2698 5)).map (s.e 0x2698 5 + ·)
       let part := fun (d : Nat) => all.filter (fun c => decide (dieOf c = d))
       exec (.soundingSweep r args) s = .next
         ((((u.sweepDie 0 all.length (part 0)).sweepDie 1 all.length (part 1)).soundProgress).answer r.txn.toNat 0) ∧
       (∀ d : Nat, (s.tone d).chan ≠ none →
         u.sweepDie d all.length (part d) = u.setTone d { s.tone d with todo := part d, sweep := all.length }))) ∧
    (∀ p, accepted s r 0x1430 1 args = true → ofBytes args = p → s.startTest 0x30 p = 0 → ∃ t, exec (.laneTest r args) s = .next t ∧
      Started s t 0x30 ∧ t.e (0x3510 + p) 2 = 5 ∧ t.e (0x3510 + p) 3 = 0xFF ∧ (t.port p).testing = 1 ∧
      (t.port p).sets = 0 ∧ (t.port p).since = s.gov.ticks ∧
      (t.port p).testSecs = s.e (0x3510 + p) 0x0E ∧ answered r 0x1430 1 args 0 t ∧ Kept s t [.dict, .svc, .leat]) ∧
    (accepted s r 0x1440 1 args = true → s.startTest 0x40 (ofBytes args) = 0 → ∃ t, exec (.twinPair r args) s = .next t ∧
      (let total := sumNat (s.hop.held.map (fun x => x.bytes.length))
       let used := (List.range 8).filter (fun q => decide ((s.hq q).recs ≠ []))
       Started s t 0x40 ∧ t.twin.total = total ∧
       { t.twin with total := 0, copies := [], ahead := 0 } =
         { s.twin with total := 0, copied := 0, ended := false, copies := [], ahead := 0 } ∧
       t.twin.copies = used.flatMap (fun q => ((s.hq q).recs.zipIdx).flatMap (fun x =>
         copyCommands q (wrap32 ((s.hq q).release + x.2)) (x.1.bytes.length / 1008 + 1) 0 x.1.bytes)) ∧
       (t.port 4).control = (s.port 4).control ++ [s.twinFrame 9 (toBytes 2 5 ++ (toBytes 4 total ++ toBytes 2 used.length))]) ∧
      answered r 0x1440 1 args 0 t ∧ Kept s t [.dict, .svc, .leat, .twin])

/-- R433, R141: a Cancel written while an operation runs makes it CANCELLING, and is refused with 0x06000003 otherwise; a
sweep gives up the channels not yet reached and its tones fall; where the stopping point is reached it is CANCELLED. A
cancelled PERSIST or IMAGE_INSTALL leaves the flash ready, a cancelled TWIN_PAIR has nothing more to copy and tells its
partner, and a cancelled PLAN_CHECK reads verdict 3.

R427 to R434: how the operations end. PERSIST writes the invalidated copy of every image with a generation one
above that of the other copy, and what was written since its snapshot counts as not persisted; RESTORE_DEFAULTS
completes with result 0; IMAGE_TEST and IMAGE_INSTALL complete with the code of the first error or 0; PLAN_CHECK
completes with its verdict. A flash failure aborts with reason 6.

R292: what a PERSIST or IMAGE_INSTALL read back, and what an IMAGE_TEST decoded, is reported: the type, the code of the
first error and its block.

Model's choices on which this rests: log entries 27, 29. -/
def Obligations.OperationsCancelAndEnd : Prop :=
  (
  (∀ (s : State) (r : Req) (op : LongOp) (v : BitVec 8),
    (let i := 0x1400 + longOpCode op
     accepted s r i 5 (toBytes 1 v.toNat) = true →
     (s.e i 2 = 1 → ∃ t, exec (.longOperationCancel r op v) s = .next t ∧ t.e i 2 = 2 ∧
       (op = .soundingSweep → ∀ d, d < 2 → (t.tone d).todo = [] ∧ (t.tone d).chan = (s.tone d).chan ∧
         ((s.tone d).chan ≠ none → (t.tone d).cancelled = true ∧
           (t.tone d).fallFrom = some ((s.tone d).fallFrom.getD (s.tone d).periods))) ∧
       Answers s r i 5 (toBytes 1 v.toNat) 0 (entry i 2) (if op = .soundingSweep then [.tones] else []) t) ∧
     (s.e i 2 ≠ 1 → ∃ t, exec (.longOperationCancel r op v) s = .next t ∧
       Answers s r i 5 (toBytes 1 v.toNat) 0x06000003 noEntry [] t))) ∧
  (∀ (s : State) (op : LongOp), s.isUp = true → s.e (0x1400 + longOpCode op) 2 = 2 →
    (op = .soundingSweep → (s.tone 0).chan = none ∧ (s.tone 1).chan = none) → (op = .laneTest → s.testedPort = none) →
    (op = .planCheck → ∀ n, s.power.trans ≠ .check n) →
    ∃ t, exec (.cancellationDone op) s = .next t ∧ Ended s t (longOpCode op) 4 ∧
      (op = .persist ∨ op = .imageInstall → t.e 0x1500 1 = 1 ∧ t.flash = { s.flash with snapshot := none, since := [], install := none }) ∧
      (op = .imageTest → t.flash = { s.flash with testing := none }) ∧
      (op = .twinPair → t.twin.words = [] ∧ t.twin.copies = [] ∧
        (t.port 4).control = (s.port 4).control ++ [s.twinFrame 9 (toBytes 2 4 ++ zeros 2)]) ∧ (op = .planCheck → t.e 0x3100 0x11 = 3) ∧
      Entries s t (fun i j => entriesOf (0x1400 + longOpCode op) [2, 4, 9] i j ∨
        (op = .persist ∨ op = .imageInstall) ∧ entry 0x1500 1 i j ∨ op = .planCheck ∧ entriesOf 0x3100 [0x11, 0x15] i j) ∧
      Kept s t ([.dict, .flash] ++ if op = .twinPair then [.twin, .leat] else []))) ∧
  (
  (∀ (s : State) (found : FlashError) (images : List (Nat × List (Nat × List Byte))), s.isUp = true → s.e 0x1410 2 = 1 → s.flash.snapshot = some images →
    (images.map Prod.fst).Nodup →
    (∃ t, exec (.persistDone ⟨0, found⟩) s = .next t ∧ Ended s t 0x10 3 ∧ t.e 0x1410 3 = 1000 ∧ t.e 0x1410 6 = 0 ∧ t.e 0x1500 1 = 1 ∧
      t.e 0x1500 5 = toTime96 s.now ∧ t.e 0x1500 6 = sat32 (s.e 0x1500 6 + 1) ∧ t.e 0x1500 3 = s.flash.since.length ∧
      (∀ y ∈ images, t.copyOf y.1 (s.copyToWrite y.1) =
        some ⟨wrap32 ((match s.copyOf y.1 (1 - s.copyToWrite y.1) with | some i => i.gen | none => 0) + 1), y.2⟩) ∧
      t.flash.dirty = s.flash.since ∧ t.flash.snapshot = none ∧
      t.e 0x3300 0x10 = 6 ∧ t.e 0x3300 0x11 = 0 ∧ t.e 0x3300 0x12 = 0xFFFF ∧
      Entries s t (fun i j => entriesOf 0x1410 [2, 3, 4, 6, 9] i j ∨ entriesOf 0x1500 [1, 3, 4, 5, 6] i j ∨
        entriesOf 0x3300 [0x10, 0x11, 0x12] i j) ∧ Kept s t [.dict, .flash]) ∧
    (∀ res : Fin 4, res = 1 ∨ res = 2 → ∃ t, exec (.persistDone ⟨res, found⟩) s = .next t ∧ Ended s t 0x10 3 ∧ t.e 0x1410 6 = res ∧
      t.e 0x1500 1 = 1 ∧ (res = 2 → t.e 0x3300 0x10 = found.type.val ∧ t.e 0x3300 0x11 = decodeCode found.code ∧
        t.e 0x3300 0x12 = found.block.toNat) ∧ t.flash = { s.flash with snapshot := none, since := [], install := none } ∧ Kept s t [.dict, .flash]) ∧
    (∃ t, exec (.persistDone ⟨3, found⟩) s = .next t ∧ Ended s t 0x10 5 ∧ t.e 0x1410 7 = 6 ∧ t.e 0x1500 1 = 3 ∧ Kept s t [.dict, .flash])) ∧
  (∀ s : State, s.isUp = true → s.e 0x1411 2 = 1 → ∃ t, exec .restoreDefaultsDone s = .next t ∧ Ended s t 0x11 3 ∧
    t.e 0x1411 3 = 1000 ∧ t.e 0x1411 6 = 0 ∧ Entries s t (entriesOf 0x1411 [2, 3, 4, 6, 9]) ∧ Kept s t [.dict]) ∧
  (∀ (s : State) (errors : List FlashError), s.isUp = true → s.e 0x1412 2 = 1 →
    ∃ t, exec (.imageTestDone errors) s = .next t ∧ Ended s t 0x12 3 ∧ t.e 0x1412 3 = 1000 ∧
      t.flash = { s.flash with testing := none } ∧
      (match errors.find? s.tested with
       | some e => t.e 0x1412 6 = decodeCode e.code ∧ t.e 0x3300 0x10 = e.type.val ∧ t.e 0x3300 0x11 = decodeCode e.code ∧
         t.e 0x3300 0x12 = e.block.toNat
       | none => t.e 0x1412 6 = 0 ∧ t.e 0x3300 0x10 = min 6 (s.flash.testing.getD 6) ∧ t.e 0x3300 0x11 = 0 ∧ t.e 0x3300 0x12 = 0xFFFF) ∧
      Entries s t (fun i j => entriesOf 0x1412 [2, 3, 4, 6, 9] i j ∨ entriesOf 0x3300 [0x10, 0x11, 0x12] i j) ∧ Kept s t [.dict, .flash]) ∧
  (∀ (s : State) (found : FlashError) (y : Nat) (image : Image), s.isUp = true → s.e 0x1413 2 = 1 → s.flash.install = some (y, image) →
    (∃ u, u.copyOf y (s.copyToWrite y) = some ⟨wrap32 ((match s.copyOf y (1 - s.copyToWrite y) with | some i => i.gen | none => 0) + 1), image.entries⟩ ∧
      u.e 0x1500 1 = 1 ∧ u.flash.install = none ∧ Entries s u (entriesOf 0x1500 [1, 4]) ∧ Kept s u [.dict, .flash] ∧
      ∃ t, exec (.imageInstallDone ⟨0, found⟩) s = .next t ∧ Ended (u.restoreImages false image.entries).1 t 0x13 3 ∧
        t.e 0x1413 6 = 0 ∧ t.e 0x3300 0x10 = y ∧ t.e 0x3300 0x11 = 0 ∧ t.e 0x3300 0x12 = 0xFFFF ∧ t.chans = (u.restoreImages false image.entries).1.chans ∧
        t.flash.dirty = (u.restoreImages false image.entries).1.flash.dirty.filter
          (fun k => !(u.restoreImages false image.entries).2.contains k)) ∧
    (∀ res : Fin 4, res = 1 ∨ res = 2 → ∃ t, exec (.imageInstallDone ⟨res, found⟩) s = .next t ∧ Ended s t 0x13 3 ∧ t.e 0x1413 6 = res ∧
      t.e 0x1500 1 = 1 ∧ (res = 2 → t.e 0x3300 0x10 = y ∧ t.e 0x3300 0x11 = decodeCode found.code ∧
        t.e 0x3300 0x12 = found.block.toNat) ∧ Kept s t [.dict, .flash]) ∧
    (∃ t, exec (.imageInstallDone ⟨3, found⟩) s = .next t ∧ Ended s t 0x13 5 ∧ t.e 0x1413 7 = 6 ∧ t.e 0x1500 1 = 3 ∧ Kept s t [.dict, .flash])) ∧
  (∀ s : State, s.isUp = true → s.e 0x1420 2 = 1 → (∀ n, s.power.trans ≠ .check n) →
    (let v := s.writeVerdict.e 0x3100 0x11
     ∃ t, exec .planCheckComplete s = .next t ∧ Ended s.writeVerdict t 0x20 3 ∧ t.e 0x1420 6 = v ∧
       t.e 0x1420 3 = max (s.e 0x1420 3) (s.checkedPermille (s.checkedUpTo s.checkFault)) ∧
       (s.checkFault = none → s.e 0x1420 3 ≤ 1000 → t.e 0x1420 3 = 1000) ∧
       t.e 0x3100 0x11 = v ∧ t.e 0x3100 0x15 = s.writeVerdict.e 0x3100 0x15 ∧
       Entries s.writeVerdict t (entriesOf 0x1420 [2, 3, 4, 6, 9]) ∧ Kept s.writeVerdict t [.dict])))

/-! ### The Governor -/

/-- R30: a TIME96 value written with a nanoseconds field of 1,000,000,000 or more is refused with an abort code, whatever
entry it is written to, and no time that the hub makes up has such a field. -/
def Obligations.TimeValuesHold : Prop :=
  (∀ (s : State) (r : Req) (idx : BitVec 16) (sub : BitVec 8) (v : BitVec 96) (row : Row),
    rowAt idx.toNat sub.toNat = some row → row.ty = .time96 → 1000000000 ≤ v.toNat / 2 ^ 16 % 2 ^ 30 →
    opens s r (writeBytes r idx.toNat sub.toNat (toBytes 12 v.toNat)) = true →
    ∃ (code : Nat) (t : State), code ≠ 0 ∧ exec (.write r idx sub 12 true (toBytes 12 v.toNat)) s = .next t ∧
      Answers s r idx.toNat sub.toNat (toBytes 12 v.toNat) code noEntry [] t) ∧
  (∀ x : Int, toTime96 x / 2 ^ 16 % 2 ^ 30 < 1000000000)

/-- R33: Governor mode is written in Idle alone: in any other power state the write is refused with an abort code. When
the mode changes every domain's time goes on without a step, and no event is logged. -/
def Obligations.GovernorModeKeepsTime : Prop :=
  ∀ (s : State) (r : Req) (v : BitVec 8),
    (s.e 0x1200 2 ≠ 0 → opens s r (writeBytes r 0x2300 1 (toBytes 1 v.toNat)) = true →
      ∃ (code : Nat) (t : State), code ≠ 0 ∧ exec (.governorModeWrite r v) s = .next t ∧
        Answers s r 0x2300 1 (toBytes 1 v.toNat) code noEntry [] t) ∧
    (accepted s r 0x2300 1 (toBytes 1 v.toNat) = true →
      ∃ t, exec (.governorModeWrite r v) s = .next t ∧ t.e 0x2300 1 = v.toNat ∧ (∀ k, k < 4 → t.fine k = s.fine k) ∧
        { t.gov with doms := [] } = { s.gov with doms := [] } ∧
        (∀ k, { t.dom k with counter := 0, offset := 0, atTick := 0 } = { s.dom k with counter := 0, offset := 0, atTick := 0 }) ∧
        Answers s r 0x2300 1 (toBytes 1 v.toNat) 0 (entry 0x2300 1) [.gov] t)

/-- R32: an increment write is folded into time without a jump: no domain's time moves at the write, and the next tick
adds the new increment.

Model's choices on which this rests: log entry 2. -/
def Obligations.IncrementWriteKeepsTime : Prop :=
  ∀ (s : State) (r : Req) (d : Fin 4) (v : BitVec 64), accepted s r (0x2301 + d) 3 (toBytes 8 v.toNat) = true →
    ∃ t, exec (.incrementWrite r d v) s = .next t ∧ t.e (0x2301 + d) 3 = v.toNat ∧ (∀ k, k < 4 → t.fine k = s.fine k) ∧
      t.tick.fine d = s.fine d + v.toNat ∧ (∀ k, k ≠ d.val → t.dom k = s.dom k) ∧
      { t.dom d with counter := 0, offset := 0, atTick := 0 } = { s.dom d with counter := 0, offset := 0, atTick := 0 } ∧
      { t.gov with doms := [] } = { s.gov with doms := [] } ∧
      Answers s r (0x2301 + d) 3 (toBytes 8 v.toNat) 0 (entry (0x2301 + d) 3) [.gov] t

/-- R38: SET_TIME and OFFSET_ADJUST make a step pending where none is and its size is allowed; time itself does not
move yet.

R38: a step of a size that is not allowed is refused with 0x04000003 and sets STEP_REFUSED; one requested while
another pends is refused with 0x04000004. Neither becomes pending. -/
def Obligations.StepsRequested : Prop :=
  (
  ∀ (s : State) (r : Req) (d : Fin 4) (c : Instr) (sub : Nat) (data : List Byte) (q : StepReq),
    ((∃ v : BitVec 96, c = .setTime r d v ∧ sub = 5 ∧ data = toBytes 12 v.toNat ∧ q = .setTo (ofTime96 v.toNat)) ∨
      (∃ v : BitVec 64, c = .offsetAdjust r d v ∧ sub = 6 ∧ data = toBytes 8 v.toNat ∧ q = .by v.toInt)) →
    accepted s r (0x2301 + d) sub data = true → (s.dom d).step = none → stepAllowed s d (s.stepSize d q) →
    ∃ t, exec c s = .next t ∧ t.dom d = { s.dom d with step := some q } ∧ (∀ k, k ≠ d.val → t.dom k = s.dom k) ∧
      (∀ k, k < 4 → t.fine k = s.fine k) ∧ { t.gov with doms := [] } = { s.gov with doms := [] } ∧
      Answers s r (0x2301 + d) sub data 0 noEntry [.gov] t) ∧
  (
  ∀ (s : State) (r : Req) (d : Fin 4) (c : Instr) (sub : Nat) (data : List Byte) (q : StepReq),
    ((∃ v : BitVec 96, c = .setTime r d v ∧ sub = 5 ∧ data = toBytes 12 v.toNat ∧ q = .setTo (ofTime96 v.toNat)) ∨
      (∃ v : BitVec 64, c = .offsetAdjust r d v ∧ sub = 6 ∧ data = toBytes 8 v.toNat ∧ q = .by v.toInt)) →
    accepted s r (0x2301 + d) sub data = true →
    ((s.dom d).step ≠ none → ∃ t, exec c s = .next t ∧ Answers s r (0x2301 + d) sub data 0x04000004 noEntry [] t) ∧
    ((s.dom d).step = none → ¬stepAllowed s d (s.stepSize d q) →
      ∃ t, exec c s = .next t ∧ t.flagged (0x2301 + d) 8 0 = true ∧
        (∀ i, i ≠ 0 → t.flagged (0x2301 + d) 8 i = s.flagged (0x2301 + d) 8 i) ∧
        Answers s r (0x2301 + d) sub data 0x04000003
          (fun i j => entry (0x2301 + d) 8 i j ∨ logEntry i j) [.log] t))

/-- R38: the pending step is applied between two ticks: the time set, or moved by the amount, full fraction kept; bit 5
of the domain's flags reads 1, the arming is used up, an UNSET domain leaves UNSET, and nothing pends. A step of
domain 0 while the plan runs goes on to the streams and the grids (R40); a forward one with no plan running starts a
plan whose start instant it passes (R101).

Model's choices on which this rests: log entry 19. -/
def Obligations.StepApplied : Prop :=
  ∀ (s : State) (d : Fin 4) (q : StepReq), s.power.phase ≠ .awaitPll → (s.dom d).step = some q →
    stepAllowed s d (match q with | .setTo x => x - s.time d | .by x => x | .half x => rhe x 1) →
    ∃ u, (u.dom d).step = none ∧ (u.dom d).stepped = true ∧
      (let new := match q with
        | .setTo x => x * 2 ^ 32 | .by x => s.fine d + x * 2 ^ 32 | .half x => s.fine d + x * 2 ^ 31
       u.fine d = new) ∧
      (∀ k, k ≠ d.val → u.dom k = s.dom k ∧ (k < 4 → u.fine k = s.fine k)) ∧
      u.flagged (0x2301 + d) 8 5 = true ∧ (∀ i, i ≠ 5 → u.flagged (0x2301 + d) 8 i = s.flagged (0x2301 + d) 8 i) ∧
      u.e 0x2300 4 = 0 ∧
      u.e (0x2301 + d) 7 = (if s.e (0x2301 + d) 7 = 0 then (if s.servoOwns d then 2 else 1) else s.e (0x2301 + d) 7) ∧
      Entries s u (fun i j => entry (0x2301 + d) 7 i j ∨ entry (0x2301 + d) 8 i j ∨ entry 0x2300 4 i j) ∧
      Kept s u [.dict, .gov] ∧ { u.gov with doms := [] } = { s.gov with doms := [] } ∧
      exec (.stepApply d) s = .next (if d.val = 0 ∧ s.planState ≠ 0 ∧ u.now ≠ s.now
        then (u.stepPlan s.now u.now).stepGrids
        else if d.val = 0 ∧ s.now < u.now then u.stepOverStart else u)

/-- R37, R53, R42: Servo enable and the acknowledge of a master. The servo takes over or gives up the chain domains, and
starts with no integral term and no measurement counted; the acknowledge takes the new master and gives the domain the
state that Table 02-2 names.

Model's choices on which this rests: log entry 11. -/
def Obligations.GovernorSettings : Prop :=
  ∀ (s : State) (r : Req),
    (∀ v : BitVec 8, accepted s r 0x2300 2 (toBytes 1 v.toNat) = true →
      ∃ t, exec (.servoEnableWrite r v) s = .next t ∧ t.e 0x2300 2 = v.toNat ∧
        (∀ d, d < 4 → t.e (0x2301 + d) 7 =
          if s.e (0x2301 + d) 1 = 1 ∧ s.e (0x2301 + d) 2 = 1 then
            if v = 1 ∧ s.e (0x2301 + d) 7 = 1 then 2
            else if v = 0 ∧ (s.e (0x2301 + d) 7 = 2 ∨ s.e (0x2301 + d) 7 = 3) then 1
            else s.e (0x2301 + d) 7
          else s.e (0x2301 + d) 7) ∧
        (∀ d, d < 4 → t.dom d = if v = 1 ∧ s.e 0x2300 2 ≠ 1
          then { s.dom d with integ := none, nearRun := 0, farRun := 0 } else s.dom d) ∧
        { t.gov with doms := [] } = { s.gov with doms := [] } ∧
        Answers s r 0x2300 2 (toBytes 1 v.toNat) 0
          (fun i j => entry 0x2300 2 i j ∨ (0x2301 ≤ i ∧ i < 0x2305 ∧ j = 7)) [.gov] t) ∧
    (∀ (d : Fin 4) (v : BitVec 8), accepted s r (0x2301 + d) 0x0D (toBytes 1 v.toNat) = true →
      ∃ t, exec (.masterAcknowledge r d v) s = .next t ∧
        (s.e (0x2301 + d) 7 ≠ 5 → t.gov = s.gov ∧ Answers s r (0x2301 + d) 0x0D (toBytes 1 v.toNat) 0 noEntry [] t) ∧
        (s.e (0x2301 + d) 7 = 5 →
          t.e (0x2301 + d) 7 = (if (s.dom d).stepped then (if s.servoOwns d then 2 else 1) else 0) ∧
          t.e (0x2301 + d) 0x0C = ((s.dom d).newMaster).getD (s.e (0x2301 + d) 0x0C) ∧
          t.dom d = { s.dom d with newMaster := none, xchg := none, lastValid := some s.gov.ticks } ∧ (∀ k, k ≠ d.val → t.dom k = s.dom k) ∧
          { t.gov with doms := [] } = { s.gov with doms := [] } ∧
          Answers s r (0x2301 + d) 0x0D (toBytes 1 v.toNat) 0
            (fun i j => entry (0x2301 + d) 7 i j ∨ entry (0x2301 + d) 0x0C i j) [.gov] t))

/-- R42, R46, R48: a SYNC of a chain domain on the hub's timing port starts an exchange: its departure and arrival are
kept, a DELAY_REQ with the next sequence becomes due on the port, the master is adopted where none was held, and
NOT_TRACEABLE follows the frame. A SYNC from another master puts the domain into MASTER_HOLD and starts none.

R47: a DELAY_REQ of a chain domain on a downstream timing port of an enumerated hub makes a DELAY_RESP with its
arrival and its sequence due on the same port; on the timing port it is dropped. A SYNC that is due goes out on every
downstream timing port with the sequence of the domain's own SYNCs, and the next falls due one interval later.

Model's choices on which this rests: log entry 12. -/
def Obligations.TimingFrames : Prop :=
  (
  ∀ (s : State) (p : Port) (m : TimingMsg) (dly : Fin 163840), s.isUp = true → s.consumes = true → s.up (portIdx p) = true →
    portIdx p = s.timingPort → s.chainDomain m.domain.toNat = true → s.e (0x2301 + m.domain.toNat) 7 ≠ 5 →
    ∃ t, exec (.sync p m dly) s = .next t ∧
      (let d := m.domain.toNat
       let held := s.e (0x2301 + d) 0x0C
       let same := held = 0 ∨ held = m.master.toNat
       let seq := ((s.dom d).reqSeq + 1) % 2 ^ 16
       t.dom d = { s.dom d with
         exponent := min 7 m.exponent.toNat, hops := m.hops.toNat, notTraceable := m.notTraceable, reqSeq := seq
         newMaster := if same then (s.dom d).newMaster else some m.master.toNat
         nearRun := if same then (s.dom d).nearRun else 0, farRun := if same then (s.dom d).farRun else 0
         xchg := if same then some ⟨ofTime96 m.time.toNat, s.stampAt d dly, seq, none⟩ else none } ∧
       (∀ k, k ≠ d → t.dom k = s.dom k) ∧ { t.gov with doms := [] } = { s.gov with doms := [] } ∧
       t.e (0x2301 + d) 0x0C = (if held = 0 then m.master.toNat else held) ∧
       t.e (0x2301 + d) 7 = (if ¬same then 5 else if m.notTraceable ∧ s.e (0x2301 + d) 7 = 3 then 2 else s.e (0x2301 + d) 7) ∧
       (∀ i, t.flagged (0x2301 + d) 8 i =
         if i = 3 then m.notTraceable else if i = 1 then (s.flagged (0x2301 + d) 8 1 || decide (¬same)) else s.flagged (0x2301 + d) 8 i) ∧
       (t.port (portIdx p)).timing = (s.port (portIdx p)).timing ++ (if s.e 0x3500 1 = 1 then [⟨d, 1, 0, seq, 0⟩] else []) ∧
       (∀ k, k ≠ portIdx p → t.port k = s.port k) ∧ timingOnly s t ∧
       Entries s t (fun i j => i = 0x2301 + d ∧ (j = 7 ∨ j = 8 ∨ j = 0x0C)) ∧ Kept s t [.dict, .gov, .leat])) ∧
  (
  (∀ (s : State) (p : Port) (m : TimingMsg) (dly : Fin 163840), s.isUp = true → s.consumes = true → s.up (portIdx p) = true →
    ∃ t, exec (.delayReq p m dly) s = .next t ∧
      (portIdx p ∈ s.downstream → s.chainDomain m.domain.toNat = true → s.e 0x3500 1 = 1 →
        (t.port (portIdx p)).timing =
          (s.port (portIdx p)).timing ++ [⟨m.domain.toNat, 2, 0, m.seq.toNat, s.stampAt m.domain.toNat dly⟩] ∧
        t.dict = s.dict) ∧
      (portIdx p ∉ s.downstream → t.leat.ports = s.leat.ports ∧ t.dict = s.dict) ∧
      (∀ k, k ≠ portIdx p → t.port k = s.port k) ∧ timingOnly s t ∧
      Entries s t (entry (0x2301 + m.domain.toNat) 0x0E) ∧ Kept s t [.dict, .leat]) ∧
  (∀ (s : State) (d : Fin 4), s.isUp = true → s.consumes = true → s.chainDomain d = true → s.e (0x2301 + d) 7 ≠ 0 →
    Tbl.get 0 s.gov.nextSync d ≤ s.gov.ticks →
    ∃ t, exec (.syncSend d) s = .next t ∧
      t.dom d = { s.dom d with syncSeq := ((s.dom d).syncSeq + 1) % 2 ^ 16 } ∧ (∀ k, k ≠ d.val → t.dom k = s.dom k) ∧
      Tbl.get 0 t.gov.nextSync d = s.gov.ticks + 400000000 / 2 ^ s.e 0x2300 5 ∧
      (∀ p, (t.port p).timing = (s.port p).timing ++ (if p ∈ s.downstream ∧ s.e 0x3500 1 = 1
        then [⟨d, 0, s.e 0x2300 5, (s.dom d).syncSeq, 0⟩] else [])) ∧
      { t.gov with doms := [], nextSync := [] } = { s.gov with doms := [], nextSync := [] } ∧
      timingOnly s t ∧ Kept s t [.gov, .leat]))

/-- R48: a DELAY_RESP that completes the domain's exchange: with the servo off the offset and the mean path delay of
the spec's equations are reported, the measurement count moves on, SYNC_LOSS ends and a domain in HOLDOVER goes to
FREE; with the servo on R37 to R39 act on what is so reported.

Model's choices on which this rests: log entry 11. -/
def Obligations.MeasurementReported : Prop :=
  ∀ (s : State) (p : Port) (m : TimingMsg) (t1 t2 t3 : Int), s.isUp = true → s.consumes = true → s.up (portIdx p) = true →
    portIdx p = s.timingPort → s.chainDomain m.domain.toNat = true → s.e (0x2301 + m.domain.toNat) 7 ≠ 5 →
    s.e (0x2301 + m.domain.toNat) 0x0C = m.master.toNat → m.master.toNat ≠ 0 →
    (s.dom m.domain.toNat).xchg = some ⟨t1, t2, m.seq.toNat, some t3⟩ →
    ∃ u, (let d := m.domain.toNat
      let t4 := ofTime96 m.time.toNat
      let a := s.eI 32 0x2306 (1 + portIdx p)
      let twice := (t2 - t1) - (t4 - t3) - 2 * a
      u.e (0x2301 + d) 9 = unsigned 64 (rne twice 2) ∧
      u.e (0x2301 + d) 0x0A = unsigned 64 (rne ((t2 - t1) + (t4 - t3)) 2) ∧
      u.e (0x2301 + d) 0x0B = (s.e (0x2301 + d) 0x0B + 1) % 2 ^ 32 ∧
      (∀ i, u.flagged (0x2301 + d) 8 i = (decide (i ≠ 4) && s.flagged (0x2301 + d) 8 i)) ∧
      u.dom d = { s.dom d with xchg := none, lastValid := some s.gov.ticks } ∧ (∀ k, k ≠ d → u.dom k = s.dom k) ∧
      { u.gov with doms := [] } = { s.gov with doms := [] } ∧ u.leat.ports = s.leat.ports ∧
      Entries s u (fun i j => i = 0x2301 + d ∧ (j = 8 ∨ j = 9 ∨ j = 0x0A ∨ j = 0x0B)) ∧ Kept s u [.dict, .gov, .leat] ∧
      exec (.delayResp p m) s = .next (if s.e 0x2300 2 = 1 then u.servo d twice
        else (if s.e (0x2301 + d) 7 = 4 then u.setE (0x2301 + d) 7 1 else u).countRuns d twice))

/-- R51, R52: with no valid measurement within Sync loss count intervals a chain domain enters HOLDOVER with SYNC_LOSS
set, its time going on without a jump, on the mean of the increments that the servo wrote over the last measurements;
without the servo its increment stays. OCXO_RDY falling takes a LOCKED domain to HOLDOVER, and OCXO_WARMUP of a chain
domain reads 1 while the pin is low. What a domain measured before does not count towards LOCKED.

R55: a pulse that is due raises PPS_OUT for PPS width, and touches nothing else.

Model's choices on which this rests: log entry 11. -/
def Obligations.HoldoverAndPps : Prop :=
  (
  (∀ (s : State) (d : Fin 4), s.power.phase ≠ .awaitPll → s.syncLost d = true →
    ∃ t, exec (.syncLoss d) s = .next t ∧ t.e (0x2301 + d) 7 = 4 ∧ (∀ k, k < 4 → t.fine k = s.fine k) ∧
      t.e (0x2301 + d) 3 = (if s.servoOwns d ∧ (s.dom d).incs ≠ []
        then (rne (sumNat (s.dom d).incs : Nat) (s.dom d).incs.length).toNat else s.e (0x2301 + d) 3) ∧
      (∀ i, t.flagged (0x2301 + d) 8 i = (decide (i = 4) || s.flagged (0x2301 + d) 8 i)) ∧
      Entries s t (fun i j => i = 0x2301 + d ∧ (j = 3 ∨ j = 7 ∨ j = 8)) ∧ Kept s t [.dict, .gov] ∧
      (t.dom d).nearRun = 0 ∧ (t.dom d).farRun = 0 ∧
      (∀ k, k ≠ d.val → t.dom k = s.dom k) ∧ { t.gov with doms := [] } = { s.gov with doms := [] }) ∧
  (∀ (s : State) (level : Bool), s.power.phase ≠ .awaitPll → s.pins.ocxoRdy ≠ level →
    ∃ t, exec (.ocxoRdyChange level) s = .next t ∧ t.pins = { s.pins with ocxoRdy := level } ∧
      (∀ d, d < 4 → t.derived (0x2301 + d) 8 = some (setBit (t.e (0x2301 + d) 8) 2 (s.chainDomain d && !level)) ∧
        t.flagged (0x2301 + d) 8 4 =
          (s.flagged (0x2301 + d) 8 4 || s.chainDomain d && !level && decide (s.e (0x2301 + d) 7 = 3))) ∧
      (∀ d, d < 4 → t.e (0x2301 + d) 7 =
        if s.chainDomain d = true ∧ level = false ∧ s.e (0x2301 + d) 7 = 3 then 4 else s.e (0x2301 + d) 7) ∧
      (∀ d, d < 4 → t.fine d = s.fine d) ∧ Kept s t [.dict, .gov, .log, .hop, .streams, .twin, .pins])) ∧
  (
  ∀ s : State, s.power.phase ≠ .awaitPll → s.ppsDue = true →
    exec .ppsPulse s = .next { s with
      gov := { s.gov with ppsFall := some (s.gov.ticks + 400 * s.e 0x2307 3) }, pins := { s.pins with pps := true } })

/-! ### Inputs, excitation and blanking -/

/-- R61, R70, R117, R505: a channel's Sensor mode, range settings, Input bias and detector settings hold what was
written. A mode other than IEPE ends the channel's IEPE faults. While the plan runs, a changed range takes effect at
the next conversion and starts the hold of R116, as does a change of bias. With both detectors off the wire is not
checked.

R61, R76, R79, R84: a port setting, an IEPE setting of the port's group, Port mode and the budget. What passes the
class, and for a port that is on the tests of an enable, is stored, and starts a settle interval while the port is on;
what exceeds the class is refused with 0x05000003, and CLASS_REFUSED is set. Port mode written to a port that is on
switches it off, and the IEPE faults of its channels end. A budget below a die's present total is refused with 0x05000004.

Model's choices on which this rests: log entry 14. -/
def Obligations.InputSettings : Prop :=
  (
  ∀ (s : State) (r : Req) (c : Fin 512),
    (∀ v : BitVec 8, accepted s r (0x2400 + c) 1 (toBytes 1 v.toNat) = true →
      ∃ t, exec (.sensorModeWrite r c v) s = .next t ∧ t.e (0x2400 + c) 1 = v.toNat ∧
        onlyChan s t c (if v = 4 then s.chan c else { s.chan c with iepeOpen := false, iepeFolded := false }) ∧
        Answers s r (0x2400 + c) 1 (toBytes 1 v.toNat) 0
          (fun i j => entry (0x2400 + c) 1 i j ∨ dissipationEntry i j ∨ reactionEntry i j) [.chans] t) ∧
    (∀ (e : RangeSetting) (v : BitVec 8) (sub : Nat), sub = (match e with | .mode => 2 | .fixed => 3 | .widest => 4 | .narrowest => 5) →
      accepted s r (0x2400 + c) sub (toBytes 1 v.toNat) = true →
      ∃ t, exec (.rangeSettingWrite r c e v) s = .next t ∧ t.e (0x2400 + c) sub = v.toNat ∧
        (let w := (s.setE (0x2400 + c) sub v.toNat).rangeOfSettings c
         onlyChan s t c (if s.planState ≠ 0 ∧ w ≠ s.targetRange c
           then { s.chan c with nextRange := some w, hold := s.e (0x2400 + c) 7 } else s.chan c) ∧
         t.tones = (if s.planState ≠ 0 ∧ w ≠ s.targetRange c then (s.toneHoldAgain c).tones else s.tones)) ∧
        Answers s r (0x2400 + c) sub (toBytes 1 v.toNat) 0
          (fun i j => entry (0x2400 + c) sub i j ∨ (s.planState ≠ 0 ∧ entry (0x2400 + c) 14 i j) ∨ reactionEntry i j)
          [.chans, .tones] t) ∧
    (∀ v : BitVec 8, accepted s r (0x2400 + c) 8 (toBytes 1 v.toNat) = true →
      ∃ t, exec (.inputBiasWrite r c v) s = .next t ∧ t.e (0x2400 + c) 8 = v.toNat ∧
        onlyChan s t c (if s.planState ≠ 0 then { s.chan c with hold := s.e (0x2400 + c) 7 } else s.chan c) ∧
        Answers s r (0x2400 + c) 8 (toBytes 1 v.toNat) 0
          (fun i j => entry (0x2400 + c) 8 i j ∨ reactionEntry i j) [.chans] t) ∧
    (∀ (e : DetectorSetting) (v : BitVec 8) (sub : Nat), sub = (match e with | .openWire => 0x11 | .excursion => 0x14) →
      accepted s r (0x2400 + c) sub (toBytes 1 v.toNat) = true →
      ∃ t, exec (.detectorSettingWrite r c e v) s = .next t ∧ t.e (0x2400 + c) sub = v.toNat ∧
        (let off := t.e (0x2400 + c) 0x11 = 0 ∧ t.e (0x2400 + c) 0x14 = 0
         onlyChan s t c (if off then { s.chan c with broken := none, excRun := 0, cleanRun := 0 } else s.chan c) ∧
         t.e (0x2400 + c) 0x16 = if off then 2 else s.e (0x2400 + c) 0x16) ∧
        Answers s r (0x2400 + c) sub (toBytes 1 v.toNat) 0
          (fun i j => entry (0x2400 + c) sub i j ∨ entry (0x2400 + c) 0x16 i j ∨ reactionEntry i j) [.chans] t)) ∧
  (
  ∀ (s : State) (r : Req),
    (∀ (c : Instr) (g idx sub : Nat) (data : List Byte),
      ((∃ (k : Fin 128) (e : PortSetting) (v : BitVec 16), c = .portSettingWrite r k e v ∧ g = k ∧ idx = 0x2600 + k ∧
          sub = (match e with | .voltageSet => 2 | .senseLimit => 3 | .sense => 4 | .currentLimit => 5 | .currentSet => 6 | .compliance => 7) ∧
          data = (if e = .sense then toBytes 1 (v.toNat % 256) else toBytes 2 v.toNat)) ∨
        (∃ (k : Fin 512) (e : IepeSetting) (v : BitVec 16), c = .iepeSettingWrite r k e v ∧ g = k / 4 ∧ idx = 0x2400 + k ∧
          sub = (match e with | .current => 10 | .highPass => 11) ∧
          data = (match e with | .current => toBytes 2 v.toNat | .highPass => toBytes 1 (v.toNat % 256)))) →
      accepted s r idx sub data = true →
      (let u := s.setE idx sub (ofBytes data)
       (u.overClass g = true →
         ∃ t, exec c s = .next t ∧ t.flagged (0x2600 + g) 10 6 = true ∧
           Answers s r idx sub data 0x05000003 (entry (0x2600 + g) 10) [] t) ∧
       (u.overClass g = false → ((s.xport g).on = true → u.enableTest g = none) →
         ∃ t, exec c s = .next t ∧ t.e idx sub = ofBytes data ∧
           onlyXport s t g (if (s.xport g).on = true ∧ ¬(idx = 0x2600 + g ∧ sub = 3)
             then { s.xport g with settleFrom := s.now, settleTo := s.now + fuMs (u.e (0x2600 + g) 8) } else s.xport g) ∧
           Answers s r idx sub data 0
             (fun i j => entry idx sub i j ∨ dissipationEntry i j ∨ (idx < 0x2600 ∧ reactionEntry i j)) [.xports] t))) ∧
    (∀ (g : Fin 128) (v : BitVec 8), accepted s r (0x2600 + g) 1 (toBytes 1 v.toNat) = true →
      (let u := s.setE (0x2600 + g) 1 v.toNat
       (u.overClass g = true →
         ∃ t, exec (.portModeWrite r g v) s = .next t ∧ t.flagged (0x2600 + g) 10 6 = true ∧
           Answers s r (0x2600 + g) 1 (toBytes 1 v.toNat) 0x05000003 (entry (0x2600 + g) 10) [] t) ∧
       (u.overClass g = false →
         ∃ t, exec (.portModeWrite r g v) s = .next t ∧ t.e (0x2600 + g) 1 = v.toNat ∧
           t.e (0x2600 + g) 9 = (if (s.xport g).on then 0 else s.e (0x2600 + g) 9) ∧
           onlyXport s t g (if (s.xport g).on
             then { s.xport g with on := false, deferred := false, discharging := true, currentLimit := false, foldback := false, senseFault := false }
             else s.xport g) ∧
           (∀ k, t.chan k = if (s.xport g).on ∧ k / 4 = g
             then { s.chan k with iepeOpen := false, iepeFolded := false } else s.chan k) ∧
           (∀ k, k ≠ 6 → t.flagged 0x3600 2 k = s.flagged 0x3600 2 k) ∧
           Answers s r (0x2600 + g) 1 (toBytes 1 v.toNat) 0
             (fun i j => entry (0x2600 + g) 1 i j ∨ entry (0x2600 + g) 9 i j ∨ entry 0x3600 2 i j ∨ dissipationEntry i j)
             [.xports, .chans] t))) ∧
    (∀ v : BitVec 16, accepted s r 0x2690 6 (toBytes 2 v.toNat) = true →
      (s.dieTotal 0 ≤ v.toNat * 1000000 → s.dieTotal 1 ≤ v.toNat * 1000000 →
        ∃ t, exec (.dissipationBudgetWrite r v) s = .next t ∧ t.e 0x2690 6 = v.toNat ∧
          Answers s r 0x2690 6 (toBytes 2 v.toNat) 0 (entry 0x2690 6) [] t) ∧
      (v.toNat * 1000000 < s.dieTotal 0 ∨ v.toNat * 1000000 < s.dieTotal 1 →
        ∃ t, exec (.dissipationBudgetWrite r v) s = .next t ∧
          Answers s r 0x2690 6 (toBytes 2 v.toNat) 0x05000004 noEntry [] t)))

/-- R72, R75, R76, R81, R83, R370, R504: Output enable. A port that passes the tests of an enable comes on, last in the
order of R77, and its settle interval starts; while the hub does not drive its ports, the rails of its die fail or the
port waits for 0.5 V, the enable is stored; with 0 it switches off and discharges. A port that fails a test keeps its
Output enable, is refused with the code of that test and shows its refusal bit.

Model's choices on which this rests: log entry 14. -/
def Obligations.OutputEnable : Prop :=
  ∀ (s : State) (r : Req) (g : Fin 128) (v : BitVec 8), accepted s r (0x2600 + g) 9 (toBytes 1 v.toNat) = true →
    (v = 0 → ∃ t, exec (.outputEnableWrite r g v) s = .next t ∧ t.e (0x2600 + g) 9 = 0 ∧
      onlyXport s t g (if (s.xport g).on
        then { s.xport g with on := false, deferred := false, discharging := true, currentLimit := false, foldback := false, senseFault := false }
        else { s.xport g with deferred := false }) ∧
      (∀ k, t.chan k = if (s.xport g).on ∧ k / 4 = g.val
        then { s.chan k with iepeOpen := false, iepeFolded := false } else s.chan k) ∧
      (∀ k, k ≠ 6 → t.flagged 0x3600 2 k = s.flagged 0x3600 2 k) ∧
      Answers s r (0x2600 + g) 9 (toBytes 1 v.toNat) 0
        (fun i j => entry (0x2600 + g) 9 i j ∨ entry 0x3600 2 i j ∨ dissipationEntry i j) [.xports, .chans] t) ∧
    (v ≠ 0 → (s.xport g).on = true → ∃ t, exec (.outputEnableWrite r g v) s = .next t ∧ t.e (0x2600 + g) 9 = 1 ∧
      Answers s r (0x2600 + g) 9 (toBytes 1 v.toNat) 0 (entry (0x2600 + g) 9) [] t) ∧
    (v ≠ 0 → (s.xport g).on = false → s.enableTest g = none →
      s.mayDrive = false ∨ s.railOut g = true ∨ (s.xport g).deferred = true →
      ∃ t, exec (.outputEnableWrite r g v) s = .next t ∧ t.e (0x2600 + g) 9 = 1 ∧
        onlyXport s t g { s.xport g with waitRun := false } ∧
        Answers s r (0x2600 + g) 9 (toBytes 1 v.toNat) 0 (entry (0x2600 + g) 9) [.xports] t) ∧
    (v ≠ 0 → (s.xport g).on = false → s.enableTest g = none → s.mayDrive = true → s.railOut g = false →
      (s.xport g).deferred = false →
      ∃ t, exec (.outputEnableWrite r g v) s = .next t ∧ t.e (0x2600 + g) 9 = 1 ∧ t.orders = s.orders + 1 ∧
        onlyXport s t g { s.xport g with
          on := true, discharging := false, waitRun := false, order := s.orders + 1
          settleFrom := s.now, settleTo := s.now + fuMs (s.e (0x2600 + g) 8) } ∧
        Answers s r (0x2600 + g) 9 (toBytes 1 v.toNat) 0
          (fun i j => entry (0x2600 + g) 9 i j ∨ dissipationEntry i j) [.xports, .orders] t) ∧
    (∀ (code : Nat) (b : Option Nat), v ≠ 0 → (s.xport g).on = false → s.enableTest g = some (code, b) →
      code ∈ [0x05000003, 0x05000004, 0x05000005, 0x05000006] ∧
      ∃ t, exec (.outputEnableWrite r g v) s = .next t ∧ (∀ k, b = some k → t.flagged (0x2600 + g) 10 k = true) ∧
        Answers s r (0x2600 + g) 9 (toBytes 1 v.toNat) code (entry (0x2600 + g) 10) [] t)

/-- R73, R74, R82, R83, R118: what happens to one port. A discharge that ends completes the output-off, clears
DISCHARGE_FAIL and starts the settle interval; one that takes too long sets DISCHARGE_FAIL; a voltage port that stays in
current limit folds back until a retry regulates; SENSE_FAULT stands until regulation holds; a settle interval that is
over is forgotten.

R64: an IEPE channel whose port drives it is open while its bias lies above Compliance less 1.0 V, and is folded
below 2.0 V until a retry finds 2.0 V or more, which ends an excitation change of its group.

Model's choices on which this rests: log entries 14, 49. -/
def Obligations.PortAndIepeEvents : Prop :=
  (
  ∀ (s : State) (g : Fin 128),
    (let x := s.xport g
     let t' := s.now + fuMs (s.e (0x2600 + g) 8)
     (x.discharging = true → ∃ t, exec (.dischargeComplete g) s = .next t ∧ Kept s t [.xports] ∧
       onlyXport s t g { x with discharging := false, dischargeFail := false, settleFrom := s.now, settleTo := t' }) ∧
     (s.isUp = true → x.discharging = true → x.dischargeFail = false →
       ∃ t, exec (.dischargeFail g) s = .next t ∧ onlyXport s t g { x with dischargeFail := true } ∧
         Logged s t 2 0x0305 (toBytes 1 g) ∧ Entries s t logEntry ∧ Kept s t [.dict, .log, .xports]) ∧
     (s.isUp = true → x.on = true → s.e (0x2600 + g) 1 = 1 → x.foldback = false →
       ∃ t, exec (.foldback g) s = .next t ∧ onlyXport s t g { x with foldback := true, currentLimit := true } ∧
         Logged s t 1 0x0303 (toBytes 1 g) ∧ Entries s t logEntry ∧ Kept s t [.dict, .log, .xports]) ∧
     (s.isUp = true → x.foldback = true → ∃ t, exec (.foldbackRetry g true) s = .next t ∧ Kept s t [.xports] ∧
       onlyXport s t g { x with foldback := false, currentLimit := false, settleFrom := s.now, settleTo := t' }) ∧
     (s.isUp = true → exec (.foldbackRetry g false) s = .next s) ∧
     (s.isUp = true → x.on = true → ∃ t, exec (.senseFault g) s = .next t ∧ Kept s t [.xports] ∧
       onlyXport s t g { x with senseFault := true }) ∧
     (s.isUp = true → ∃ t, exec (.regulationHoldsAgain g) s = .next t ∧ Kept s t [.xports] ∧
       onlyXport s t g { x with senseFault := false }) ∧
     (s.power.phase ≠ .awaitPll → x.settleTo ≤ s.now → ∃ t, exec (.excitationSettleEnd g) s = .next t ∧
       Kept s t [.xports] ∧ onlyXport s t g { x with settleFrom := 0, settleTo := 0 }))) ∧
  (
  ∀ (s : State) (c : Fin 512) (bias : BitVec 16), s.isUp = true → (s.xport (c / 4)).on = true →
    s.e (0x2600 + c / 4) 1 = 3 → s.e (0x2400 + c) 1 = 4 →
    (∃ t, exec (.iepeOpen c bias) s = .next t ∧
      onlyChan s t c { s.chan c with iepeOpen := decide (s.e (0x2600 + c / 4) 7 < bias.toNat + 1000) } ∧
      (if s.e (0x2600 + c / 4) 7 < bias.toNat + 1000 ∧ (s.chan c).iepeOpen = false
        then Logged s t 2 0x0301 (toBytes 2 c) else t.log = s.log ∧ t.dict = s.dict) ∧
      Entries s t logEntry ∧ Kept s t [.dict, .log, .chans]) ∧
    (bias.toNat < 2000 → (s.chan c).iepeFolded = false →
      ∃ t, exec (.iepeShort c bias) s = .next t ∧ onlyChan s t c { s.chan c with iepeFolded := true } ∧
        Logged s t 2 0x0302 (toBytes 2 c) ∧ Entries s t logEntry ∧ Kept s t [.dict, .log, .chans]) ∧
    (2000 ≤ bias.toNat → (s.chan c).iepeFolded = true →
      ∃ t, exec (.iepeRetry c bias) s = .next t ∧ onlyChan s t c { s.chan c with iepeFolded := false } ∧
        onlyXport s t (c / 4) { s.xport (c / 4) with
          settleFrom := s.now, settleTo := s.now + fuMs (s.e (0x2600 + c / 4) 8) } ∧ Kept s t [.chans, .xports]))

/-- R87: blanking. A BLANK pin that asserts under its mode is noted with its instant; one that was asserted for 100 ns
or more and is released leaves its hang time behind; a hang time that is over is forgotten. A scheduled window is
noted active, with the end of its occurrence, when it starts, and no longer when it ends.

Model's choices on which this rests: log entry 15. -/
def Obligations.BlankingTimes : Prop :=
  (∀ (s : State) (k : Fin 4) (level : Bool), s.isUp = true →
    (let b := Tbl.get (Blank.mk none none) s.blanks k
     let m := s.e 0x2680 (1 + k)
     let asserts := (m = 1 ∧ level = true) ∨ (m = 2 ∧ level = false)
     ∃ t, exec (.blankPin k level) s = .next t ∧ bit t.pins.blank k = level ∧
       { t.pins with blank := 0 } = { s.pins with blank := 0 } ∧
       (∀ i, i ≠ k.val → Tbl.get (Blank.mk none none) t.blanks i = Tbl.get (Blank.mk none none) s.blanks i ∧
         bit t.pins.blank i = bit s.pins.blank i) ∧
       Tbl.get (Blank.mk none none) t.blanks k =
         (match b.asserted with
          | none => if asserts then { b with asserted := some s.now } else b
          | some a => if asserts then b else if s.now - a < 100 * 65536 then { b with asserted := none }
            else ⟨none, some (s.now + fuUs (s.e 0x2680 (5 + k)))⟩) ∧
       Kept s t [.pins, .blanks])) ∧
  (∀ (s : State) (k : Fin 4) (h : Int), s.isUp = true → (Tbl.get (Blank.mk none none) s.blanks k).hangEnd = some h → h ≤ s.now →
    ∃ t, exec (.blankHangExpiry k) s = .next t ∧
      Tbl.get (Blank.mk none none) t.blanks k = { Tbl.get (Blank.mk none none) s.blanks k with hangEnd := none } ∧
      (∀ i, i ≠ k.val → Tbl.get (Blank.mk none none) t.blanks i = Tbl.get (Blank.mk none none) s.blanks i) ∧
      Kept s t [.blanks]) ∧
  (∀ (s : State) (w : Fin 8) (a : Int), s.isUp = true → s.windowStart w s.now = some a →
    s.now < a + ((s.e (0x2681 + w) 3 * 65536 : Nat) : Int) →
    exec (.blankWindowStart w) s = .next { s with windows := Tbl.put s.windows w (a + ((s.e (0x2681 + w) 3 * 65536 : Nat) : Int)) }) ∧
  (∀ (s : State) (w : Fin 8), s.isUp = true →
    (∀ a, s.windowStart w s.now = some a → a + ((s.e (0x2681 + w) 3 * 65536 : Nat) : Int) ≤ s.now) →
    exec (.blankWindowEnd w) s = .next { s with windows := Tbl.drop s.windows w })

/-- R77: after a check of the budget the planned dissipation of each fitted die lies within Dissipation budget, whatever
VEXC was measured; every port that the check switched off discharges, and its Output enable reads 0.

R80, R401: the seal pins as read every 10 ms. A reading that differs from the one at the start is a safety fault with
bit 2 of the safety status; a change of SEAL14 to SEAL12 switches every port off and keeps it off until the next
start.

Model's choices on which this rests: log entry 14. -/
def Obligations.BudgetAndSeal : Prop :=
  (
  ∀ (s : State) (a b : BitVec 16), s.isUp = true →
    ∃ t, exec (.budgetCheck a b) s = .next t ∧ t.e 0x2690 2 = a.toNat ∧
      t.e 0x2690 3 = (if s.pins.mb then s.e 0x2690 3 else b.toNat) ∧
      t.dieTotal 0 ≤ s.e 0x2690 6 * 1000000 ∧ (s.pins.mb = false → t.dieTotal 1 ≤ s.e 0x2690 6 * 1000000) ∧
      (∀ g, (s.xport g).on = true → (t.xport g).on = false →
        (t.xport g).discharging = true ∧ t.e (0x2600 + g) 9 = 0 ∧ t.flagged (0x2600 + g) 10 7 = true) ∧
      (∀ g, (s.xport g).on = false → t.xport g = s.xport g) ∧ Kept s t [.dict, .log, .xports, .chans]) ∧
  (
  ∀ (s : State) (w : BitVec 16), s.isUp = true →
    ∃ t, exec (.sealRead w) s = .next t ∧ t.pins = { s.pins with sealSw := w.toNat } ∧ t.e 0x3810 2 = w.toNat ∧
      (w.toNat ≠ s.e 0x3810 1 → t.flagged 0x3810 4 2 = true ∧ t.flagged 0x3810 4 3 = true) ∧
      (w.toNat = s.e 0x3810 1 → t.e 0x3810 4 = s.e 0x3810 4 ∧ t.xports = s.xports ∧ t.power = s.power) ∧
      (w.toNat / 4096 % 8 ≠ s.e 0x3810 1 / 4096 % 8 → s.power.classChanged = false →
        t.power = { s.power with classChanged := true } ∧
        ∀ g, g < s.groupCount → (t.xport g).on = false ∧ t.e (0x2600 + g) 9 = 0) ∧
      Kept s t [.dict, .log, .xports, .chans, .power, .pins])

/-! ### The sample plan, wire faults, Sounding and the Millstones -/

/-- R99, R100, R104, R109: at the plan start instant the hub is in Run with plan state 1, and no burst is awaited. Every
group with a rotation and the timer trigger runs, its first rotation due at the first multiple of its period at or after
the start; every EVT group waits; none has begun a rotation or holds a record, and an interleaved pair has its trim. After
that the angle grids start and the Sail queues whose streams run are emptied into them.

Model's choices on which this rests: log entry 30. -/
def Obligations.PlanStarts : Prop :=
  ∀ s : State, s.isUp = true → s.startDue = true →
    ∃ u : State, u.e 0x2790 1 = 1 ∧ u.e 0x1200 2 = 1 ∧ u.power = { s.power with trans := .none } ∧ u.evtFire = [] ∧
      (∀ g, g < s.groupCount → 0 < s.e (0x2700 + g) 1 →
        (s.e (0x2700 + g) 3 = 0 → (u.group g).nextStart = some (s.firstRotation g (ofTime96 (s.e 0x2790 3))) ∧
          u.e (0x2700 + g) 0x21 = 2) ∧
        (s.e (0x2700 + g) 3 ≠ 0 → (u.group g).nextStart = none ∧ u.e (0x2700 + g) 0x21 = 3) ∧
        { u.group g with nextStart := none, mux := Mux.reset, trim := none } = { Group.reset with fresh := true } ∧
        (u.group g).trim.isSome = s.interleaved g) ∧
      u.gov = s.gov ∧ u.pins = s.pins ∧ u.svc = s.svc ∧ u.leat = s.leat ∧ u.flash = s.flash ∧ u.xports = s.xports ∧
      exec .planStart s = .next ((List.range 8).foldl (fun s n => (s.sailTake n).sailRetry n) u.gridsStart)

/-- R97, R100, R357: a rotation that is due begins at its instant: the group takes its entries from the first, the next
rotation follows one period later, and the one before it is counted. Where it is the group's first of the run the
Millstones of its channels run (R165), after the raw records from before have gone through them; those of a ready standby
follow its active. The first rotation, and the first after a step, owes an anchor to a standby.

R97, R82, R116: the converter of a group whose next entry is a channel entry, at the first tick at or after the
scheduled instant, leaves one raw record in a buffer that has room: of that channel and entry, stamped with the time
of the tick; its code is the converted one unless the channel is held, its port discharges or the converter is the
trimmed one of a pair (R109). The group moves on to the entry that follows, or with Interleave to the second converter. A
group on a die whose rail failed keeps no record and counts the conversion as missing. R126: a check entry that is due and
not blanked is judged at that tick, and leaves no record.

Model's choices on which this rests: log entries 4, 16, 21. -/
def Obligations.RotationsAndConversions : Prop :=
  (
  ∀ (s : State) (g : Fin 128) (r : Int), s.isUp = true → s.rotationDue g = some r →
    ∃ t, exec (.rotationStart g) s = .next t ∧
      (t.group g).origin = some r ∧ (t.group g).entry = 0 ∧ (t.group g).second = false ∧ (t.group g).fresh = false ∧
      (t.group g).anchor = false ∧ (t.group g).nextStart = some (r + s.e (0x2700 + g) 2 * (200 * 65536)) ∧
      (t.group g).burstLeft = (s.group g).burstLeft - 1 ∧ t.e (0x2700 + g) 0x21 = 2 ∧
      ((s.group g).fresh = false ∨ s.role = 3 →
        onlyGroup s t g { s.group g with
          origin := some r, entry := 0, second := false, nextStart := some (r + s.e (0x2700 + g) 2 * (200 * 65536))
          fresh := false, anchor := false, burstLeft := (s.group g).burstLeft - 1 } ∧
        t.e (0x2700 + g) 0x23 = (if (s.group g).origin = none then s.e (0x2700 + g) 0x23
          else (s.e (0x2700 + g) 0x23 + 1) % 2 ^ 32) ∧
        t.twin = (if s.feeds = true ∧ ((s.group g).fresh = true ∨ (s.group g).anchor = true)
          then { s.twin with anchorDue := s.twin.anchorDue ++ [(g.val, r)] } else s.twin) ∧
        Kept s t [.dict, .groups, .twin] ∧ Entries s t (fun i j => i = 0x2700 + g ∧ (j = 0x21 ∨ j = 0x23))) ∧
      ((s.group g).fresh = true → s.role ≠ 3 → (∀ c ∈ s.convertedOf g, (t.mill c).running = true) ∧
        ((s.group g).missing = [] ∨ (s.group g).buf ≠ [] → (t.group g).buf = [] ∧ (t.group g).missing = []))) ∧
  (
  (∀ (s : State) (g : Fin 128) (second beyond : Bool) (code : BitVec 18) (o : Int) (i : Nat), s.isUp = true →
    (s.group g).origin = some o → s.nextEntry g o = some i → entryKind ((s.entries g).getD i 0) = 0 →
    (s.group g).second = second → s.scheduled g o i second ≤ s.now →
    ∃ t, exec (.conversion g second code beyond) s = .next t ∧
      (let c := entryChan g ((s.entries g).getD i 0)
       (if s.interleaved g = true ∧ second = false then (t.group g).entry = (s.group g).entry ∧ (t.group g).second = true
        else (t.group g).entry = i + 1 ∧ (t.group g).second = false) ∧
       (t.group g).origin = some o ∧
       (s.railOut g = true → (t.group g).buf = (s.group g).buf ∧
         (t.group g).missing = addMissing c s.now (s.scheduled g o i second) (s.group g).missing) ∧
       (s.railOut g = false → (s.group g).buf.length < 64 → (s.group g).missing = [] →
         ∃ r : Raw, (t.group g).buf = (s.group g).buf ++ [r] ∧ r.chan = c ∧ r.entry = i ∧ r.phase = second ∧ r.gap = false ∧
           r.stamp = s.now ∧ r.sched = s.scheduled g o i second ∧ r.exc = beyond ∧
           ((s.chan c).hold = 0 → (s.xport g).discharging = false → second = false ∨ (s.group g).trim = none →
             r.code = code.toInt)))) ∧
  (∀ (s : State) (g : Fin 128) (second beyond : Bool) (code : BitVec 18) (o : Int) (i : Nat), s.isUp = true →
    (s.group g).origin = some o → s.nextEntry g o = some i → entryKind ((s.entries g).getD i 0) ≠ 0 →
    (s.group g).second = second → s.scheduled g o i second ≤ s.now → s.listening = false → s.railOut g = false →
    (let c := entryChan g ((s.entries g).getD i 0)
     (s.chan c).lastRaw ≠ none → s.blanked c s.now = false →
     ∃ t, exec (.conversion g second code beyond) s = .next t ∧ (t.chan c).lastCheck = some s.now ∧
       (t.group g).buf = (s.group g).buf ∧ (t.group g).origin = some o)))

/-- R103 to R105: an EVT pulse of the mode's polarity either qualifies or is counted as rejected; one that qualifies is
stamped and counted, and fires the input's groups after EVT delay, unless a burst of the input is in progress: then it
is counted as ignored. The burst of every group so triggered starts with its first rotation, and no other group's does;
a burst that is done leaves its group waiting.

Model's choices on which this rests: log entry 20. -/
def Obligations.EvtBursts : Prop :=
  (∀ (s : State) (k : Fin 4) (high : Bool) (width : BitVec 32), s.isUp = true →
    (let m := s.e (0x2780 + k) 1
     let polarity := ((m = 1 ∨ m = 3) ∧ high = true) ∨ ((m = 2 ∨ m = 4) ∧ high = false)
     let fits := s.e (0x2780 + k) 2 ≤ width.toNat ∧ (m = 3 ∨ m = 4 → width.toNat ≤ s.e (0x2780 + k) 3)
     ∃ t, exec (.evtQualify k high width) s = .next t ∧
       (¬polarity → t = s) ∧
       (polarity → ¬fits → t = s.bump (0x2780 + k) 7) ∧
       (polarity → fits → s.inBurst k = true → t = s.bump (0x2780 + k) 6) ∧
       (polarity → fits → s.inBurst k = false →
         t.e (0x2780 + k) 8 = toTime96 s.now ∧ t.e (0x2780 + k) 5 = sat32 (s.e (0x2780 + k) 5 + 1) ∧
         t.evtFire = (if s.planState = 1 ∧ s.triggered k ≠ []
           then Tbl.put s.evtFire k (s.now + ((s.e (0x2780 + k) 4 * 163840 : Nat) : Int)) else s.evtFire) ∧
         Entries s t (fun i j => i = 0x2780 + k ∧ (j = 5 ∨ j = 8)) ∧ Kept s t [.dict, .evtFire]))) ∧
  (∀ (s : State) (k : Fin 4) (f : Int), s.isUp = true → s.evtFire.lookup k.val = some f → f ≤ s.now →
    ∃ t, exec (.burstStart k) s = .next t ∧ t.evtFire = Tbl.drop s.evtFire k ∧
      (s.planState = 1 → (∀ g ∈ s.triggered k, (t.group g).origin = some s.now ∧ (t.group g).entry = 0 ∧
          (t.group g).second = false ∧ (t.group g).nextStart = some (s.now + s.e (0x2700 + g) 2 * (200 * 65536)) ∧
          (t.group g).burstLeft = s.e (0x2700 + g) 4 - 1 ∧ t.e (0x2700 + g) 0x21 = 2) ∧
        (∀ g, g ∉ s.triggered k → t.group g = s.group g ∧ t.e (0x2700 + g) 0x21 = s.e (0x2700 + g) 0x21)) ∧
      (s.planState ≠ 1 → Kept s t [.evtFire])) ∧
  (∀ (s : State) (g : Fin 128) (o : Int), s.isUp = true → s.planState = 1 → s.e (0x2700 + g) 3 ≠ 0 →
    (s.group g).burstLeft = 0 → (s.group g).origin = some o → s.nextEntry g o = none →
    o + s.e (0x2700 + g) 2 * (200 * 65536) ≤ s.now →
    ∃ t, exec (.burstEnd g) s = .next t ∧
      onlyGroup s t g { s.group g with origin := none, entry := 0, second := false, nextStart := none, burstLeft := 0 } ∧
      t.e (0x2700 + g) 0x21 = 3 ∧ t.e (0x2700 + g) 0x23 = (s.e (0x2700 + g) 0x23 + 1) % 2 ^ 32 ∧
      Entries s t (fun i j => i = 0x2700 + g ∧ (j = 0x21 ∨ j = 0x23)) ∧ Kept s t [.dict, .groups])

/-- R110, R112: gap records that a group owes go out ahead of all that follows, as many as its raw buffer has room for,
oldest first, each with its channel, the number of missing conversions and the instant of the first; 0x2700.22 counts the
conversions. With nothing owed or no room nothing happens. R102: a group that was told to stop does so when its rotation
is done; what is left of its buffer goes through the Millstones first.

R144: the oldest record of a group's raw buffer leaves it, and gap records follow into the room. It goes to its channel's
Millstone, which takes nothing while it is stopped and else keeps a converted record as its last; R365, R369: on a ready
standby it goes into the comparison alone, and is kept until a word of the active's reaches its instant. R172: every
reading of a port die sensor is kept with its instant.

Model's choices on which this rests: log entries 18, 21, 41. -/
def Obligations.GapsStopsRecords : Prop :=
  (
  (∀ (s : State) (g : Fin 128), s.isUp = true →
    (let x := s.group g
     let n := min x.missing.length (64 - x.buf.length)
     (n = 0 → exec (.gapRecord g) s = .next s) ∧
     (0 < n → ∃ t, exec (.gapRecord g) s = .next t ∧
       onlyGroup s t g { x with buf := x.buf ++ (x.missing.take n).map Missing.record, missing := x.missing.drop n } ∧
       t.e (0x2700 + g) 0x22 = sat32 (s.e (0x2700 + g) 0x22 + sumNat ((x.missing.take n).map (fun m => m.scheds.length))) ∧
       t.flagged 0x2D00 9 3 = true ∧
       Entries s t (fun i j => entry (0x2700 + g) 0x22 i j ∨ entry 0x2D00 9 i j ∨ logEntry i j) ∧
       Kept s t [.dict, .log, .groups, .twin]))) ∧
  (∀ m : Missing, m.record.chan = m.chan ∧ m.record.gap = true ∧ m.record.code = m.scheds.length ∧ m.record.stamp = m.first) ∧
  (∀ (s : State) (g : Fin 128), s.isUp = true → s.planState = 2 → (s.group g).stopping = true → s.rotationDone g = true →
    (let d := s.drain g
     (s.role = 3 ∨ (s.group g).buf = [] → d = s) ∧
     ∃ u : State, exec (.groupStop g) s = .next u.settlePower ∧
       onlyGroup d u g { d.group g with
         origin := none, entry := 0, second := false, nextStart := none, burstLeft := 0, stopping := false } ∧
       u.e (0x2700 + g) 0x21 = 1 ∧
       Entries d u (fun i j => i = 0x2700 + g ∧ (j = 0x21 ∨ j = 0x23)) ∧ Kept d u [.dict, .groups]))) ∧
  (
  (∀ (s : State) (g : Fin 128), s.isUp = true → (s.group g).buf = [] → exec (.rawRecord g) s = .next s) ∧
  (∀ (s : State) (g : Fin 128) (r : Raw) (rest : List Raw), s.isUp = true → (s.group g).buf = r :: rest →
    (let n := min (s.group g).missing.length (64 - rest.length)
     ∃ u, onlyGroup s u g { s.group g with
         buf := rest ++ ((s.group g).missing.take n).map Missing.record, missing := (s.group g).missing.drop n } ∧
       Kept s u [.dict, .log, .groups, .twin] ∧ ((s.group g).missing = [] → Kept s u [.groups]) ∧
       exec (.rawRecord g) s = .next (if s.role = 3 then u.ownRaw r else u.takeRecord r) ∧
       (s.role ≠ 3 → (s.mill r.chan).running = false → exec (.rawRecord g) s = .next u))) ∧
  (∀ (s : State) (g : Fin 128) (r : Raw) (rest : List Raw), s.isUp = true → (s.group g).buf = r :: rest →
    (s.role ≠ 3 → r.gap = false → (s.mill r.chan).running = true →
      ∃ t, exec (.rawRecord g) s = .next t ∧ (t.mill r.chan).lastRaw = some r) ∧
    (s.role = 3 → ∃ t, exec (.rawRecord g) s = .next t ∧ t.twin.kept =
      (if ∃ w, s.twin.lastWord.lookup (r.chan / 4) = some w ∧ r.sched ≤ w then s.twin.kept else s.twin.kept ++ [r]))) ∧
  (∀ (s : State) (die : Die) (v : BitVec 32), s.isUp = true →
    exec (.dieSensorRead die v) s = .next { s with dieTemps := (dieIdx die, s.now, v.toNat) :: s.dieTemps }))

/-- R137, R139, R141: when the tone of the channel being sounded has fallen, its verdict and the time are reported: NOISY
where a quarter or more of its samples was left out or the estimate's error is too large, else HIGH, LOW or OK by the
magnitude of the estimate, which is reported clipped to the 31-bit range; CANCELLED with the estimate left as it was where
the channel was cancelled. With nothing more to sound on either die, SOUNDING_SWEEP completes with result 0.

R135, R138: a period of a tone ends at its tick of the Governor: the rise gives way to the hold phase, and the hold phase
to the fall, after their numbers of periods; the estimate that tone removal uses is taken anew. Before that tick nothing
happens.

Model's choices on which this rests: log entries 4, 17. -/
def Obligations.SoundingSteps : Prop :=
  (∀ (s : State) (die : Die) (z : SoundingEstimate) (c f : Nat), s.isUp = true →
    (let x := s.tone (dieIdx die)
     let i := 0x2400 + c
     let m := z.re.toInt * z.re.toInt + z.im.toInt * z.im.toInt
     x.chan = some c → x.fallFrom = some f → f + 8 ≤ x.periods → c ∉ x.todo →
     ∃ t, exec (.soundingChannelDone die z) s = .next t ∧
       t.e i 0x1E = toTime96 s.now ∧
       (x.cancelled = true → t.e i 0x1B = 6 ∧ t.e i 0x1C = s.e i 0x1C ∧ t.e i 0x1D = s.e i 0x1D) ∧
       (x.cancelled = false →
         t.e i 0x1B = (if x.samples < 4 * x.leftOut ∨ z.noisyError = true then 4
           else if z.saturated = true ∨ x.broke = true ∨ ((s.e i 0x1A * s.e i 0x1A : Nat) : Int) < m then 3
           else if m < ((s.e i 0x19 * s.e i 0x19 : Nat) : Int) then 2 else 1) ∧
         t.e i 0x1C = unsigned 32 (max (-0x7FFFFFFF) z.re.toInt) ∧ t.e i 0x1D = unsigned 32 (max (-0x7FFFFFFF) z.im.toInt)) ∧
       Entries s t (fun k j => (∃ d ∈ c :: x.todo, k = 0x2400 + d ∧ j ∈ [0x1B, 0x1C, 0x1D, 0x1E]) ∨ opEntry 0x21 k j) ∧
       t.tone (1 - dieIdx die) = s.tone (1 - dieIdx die) ∧ Kept s t [.dict, .tones] ∧
       (s.e 0x1421 2 = 1 → x.todo = [] → (s.tone (1 - dieIdx die)).chan = none → (s.tone (1 - dieIdx die)).todo = [] →
         Ended s t 0x21 3 ∧ t.e 0x1421 3 = 1000 ∧ t.e 0x1421 6 = 0))) ∧
  (∀ (s : State) (die : Die), s.isUp = true →
    (let x := s.tone (dieIdx die)
     (s.tonePeriodDue (dieIdx die) = false → exec (.tonePeriodEnd die) s = .next s) ∧
     (s.tonePeriodDue (dieIdx die) = true → ∃ t, exec (.tonePeriodEnd die) s = .next t ∧
       t.tone (dieIdx die) = (if x.fallFrom = none ∧ x.periods + 1 = x.holdFrom
           then { x with periods := x.periods + 1, estimate := some s.freeCtr, holdAt := some s.now }
         else if x.fallFrom = none ∧ x.periods + 1 = x.holdFrom + x.hold
           then { x with
             periods := x.periods + 1, estimate := some s.freeCtr, fallFrom := some (x.periods + 1), fallAt := some s.now }
         else { x with periods := x.periods + 1, estimate := some s.freeCtr }) ∧
       t.tone (1 - dieIdx die) = s.tone (1 - dieIdx die) ∧ t.freeCtr = s.freeCtr + 1 ∧ Kept s t [.tones, .freeCtr])))

/-- R157, R158, R160, R174, R280: FIR sets, coefficient blocks and user tables. A set or a table that a running
Millstone or stream names is refused with 0x05000002; else it is replaced in one step, with its length, state, DC gain
and digest, and a Clear empties it. Code lengths with no canonical code are refused with 0x04000002. A coefficient
block replaces the channel's 24 coefficients, and the channel keeps the old ones for outputs with instants from before.

Model's choices on which this rests: log entry 50. -/
def Obligations.SetsAndTablesWritten : Prop :=
  (∀ (s : State) (r : Req) (k : Fin 32) (c : Instr) (sub : Nat) (data taps : List Byte),
    (c = .coefficientsWrite r k data ∧ sub = 1 ∧ taps = data) ∨
      (∃ v : BitVec 8, c = .firSetClear r k v ∧ sub = 7 ∧ data = toBytes 1 v.toNat ∧ taps = []) →
    accepted s r (0x2C00 + k) sub data = true →
    (s.setUsers k ≠ 0 → ∃ t, exec c s = .next t ∧ Answers s r (0x2C00 + k) sub data 0x05000002 noEntry [] t) ∧
    (s.setUsers k = 0 → ∃ t, exec c s = .next t ∧ blob t (0x2C00 + k) = taps ∧
      (∀ key, key ≠ ekey (0x2C00 + k) 1 → Tbl.get [] t.blobs key = Tbl.get [] s.blobs key) ∧
      t.e (0x2C00 + k) 2 = taps.length / 3 ∧ t.e (0x2C00 + k) 3 = (if taps = [] then 0 else 1) ∧
      t.e (0x2C00 + k) 4 = (if taps = [] then 0 else dcGain taps) ∧ t.e (0x2C00 + k) 5 = (if taps = [] then 0 else crc32C taps) ∧
      Answers s r (0x2C00 + k) sub data 0 (fun i j => entriesOf (0x2C00 + k) [2, 3, 4, 5] i j ∨ reactionEntry i j) [.blobs] t)) ∧
  (∀ (s : State) (r : Req) (u : Fin 8) (c : Instr) (sub : Nat) (data table : List Byte),
    (c = .codeLengthsWrite r u data ∧ sub = 1 ∧ table = data) ∨
      (∃ v : BitVec 8, c = .userTableClear r u v ∧ sub = 5 ∧ data = toBytes 1 v.toNat ∧ table = []) →
    accepted s r (0x3200 + u) sub data = true →
    (sub = 1 → badLengths data = true → ∃ t, exec c s = .next t ∧ Answers s r (0x3200 + u) sub data 0x04000002 noEntry [] t) ∧
    ((sub = 1 → badLengths data = false) → s.tableUsers u ≠ 0 →
      ∃ t, exec c s = .next t ∧ Answers s r (0x3200 + u) sub data 0x05000002 noEntry [] t) ∧
    ((sub = 1 → badLengths data = false) → s.tableUsers u = 0 → ∃ t, exec c s = .next t ∧ blob t (0x3200 + u) = table ∧
      (∀ key, key ≠ ekey (0x3200 + u) 1 → Tbl.get [] t.blobs key = Tbl.get [] s.blobs key) ∧
      t.e (0x3200 + u) 2 = (if table = [] then 0 else 1) ∧ t.e (0x3200 + u) 3 = (if table = [] then 0 else crc32C table) ∧
      Answers s r (0x3200 + u) sub data 0 (entriesOf (0x3200 + u) [2, 3]) [.blobs] t)) ∧
  (∀ (s : State) (r : Req) (c : Fin 512) (bytes : List Byte), accepted s r (0x2A00 + c) 0x19 bytes = true →
    ∃ t, exec (.coefficientBlockWrite r c bytes) s = .next t ∧
      (∀ k, k < 24 → t.e (0x2A00 + c) (1 + k) = ofBytes ((bytes.drop (4 * k)).take 4)) ∧
      t.mill c = { s.mill c with
        coefOld := (s.mill c).coefOld ++ [(s.now, (List.range 24).map (fun k => s.e (0x2A00 + c) (1 + k)))] } ∧
      (∀ k, k ≠ c.val → t.mill k = s.mill k) ∧
      Answers s r (0x2A00 + c) 0x19 bytes 0 (fun i j => i = 0x2A00 + c ∧ 1 ≤ j ∧ j ≤ 24) [.mills] t)

/-! ### Sail and the angle grids -/

/-- R230: Allocate takes the lowest descriptor in state 0, which then is in state 1 with every other entry at its default,
and gives its number in 0x3100.03; where every descriptor is taken it is refused with 0x05000001.

R189, R193: Arm opens an arming of a Sail in stamp or interval mode whose gate is the Arm command, where none is open
and the queue has room for its records; without room it is refused and counted, and otherwise refused. R216, R222: Phase
flip is noted for the next revolution; Suspend 1 takes a grid that runs to SUSPENDED, and 0 lets a suspended one search
again.

Model's choices on which this rests: log entries 22, 23, 50. -/
def Obligations.AllocateArmFlipSuspend : Prop :=
  (
  ∀ (s : State) (r : Req) (v : BitVec 8), accepted s r 0x3100 2 (toBytes 1 v.toNat) = true →
    (s.freeStream = none → ∃ t, exec (.allocate r v) s = .next t ∧
      Answers s r 0x3100 2 (toBytes 1 v.toNat) 0x05000001 noEntry [] t) ∧
    (∀ n : Nat, s.freeStream = some n →
      (s.canonical → n < 16384 ∧ s.e (0x4000 + n) 1 = 0 ∧ ∀ m, m < n → s.e (0x4000 + m) 1 ≠ 0) ∧
      ∃ t, exec (.allocate r v) s = .next t ∧ t.e (0x4000 + n) 1 = 1 ∧ t.e 0x3100 3 = n ∧
        (∀ j, j < 256 → j ≠ 1 → t.e (0x4000 + n) j = dictDefault (ekey (0x4000 + n) j)) ∧
        Answers s r 0x3100 2 (toBytes 1 v.toNat) 0 (fun i j => i = 0x4000 + n ∨ entry 0x3100 3 i j) [] t)) ∧
  (
  (∀ (s : State) (r : Req) (n : Fin 8) (v : BitVec 8), accepted s r (0x2E00 + n) 0x0C (toBytes 1 v.toNat) = true →
    (let x := s.sailRun n
     let may := s.e (0x2E00 + n) 5 = 0x10 ∧ s.e (0x2E00 + n) 1 ≠ 0 ∧ (s.e (0x2E00 + n) 2 = 1 ∨ s.e (0x2E00 + n) 2 = 2) ∧ x.armed = false
     let room := x.queue.occupancy + s.e (0x2E00 + n) 8 + 1 ≤ 1024
     (may → room → ∃ t, exec (.arm r n v) s = .next t ∧
       t.sailRun n = { x with armed := true, armDue := false, openAt := s.gov.ticks, start := none, stops := [] } ∧
       (∀ k, k ≠ n.val → t.sailRun k = s.sailRun k) ∧
       Answers s r (0x2E00 + n) 0x0C (toBytes 1 v.toNat) 0 noEntry [.sails] t) ∧
     (may → ¬room → ∃ t, exec (.arm r n v) s = .next t ∧ t.sailRun n = { x with armDue := false } ∧
       (∀ k, k ≠ n.val → t.sailRun k = s.sailRun k) ∧ t.e (0x2E00 + n) 0x17 = sat32 (s.e (0x2E00 + n) 0x17 + 1) ∧
       Answers s r (0x2E00 + n) 0x0C (toBytes 1 v.toNat) 0x05000006 (entry (0x2E00 + n) 0x17) [.sails] t) ∧
     (¬may → ∃ t, exec (.arm r n v) s = .next t ∧ Answers s r (0x2E00 + n) 0x0C (toBytes 1 v.toNat) 0x05000006 noEntry [] t))) ∧
  (∀ (s : State) (r : Req) (a : Fin 4) (v : BitVec 8),
    (accepted s r (0x2F00 + a) 0x0E (toBytes 1 v.toNat) = true → ∃ t, exec (.phaseFlip r a v) s = .next t ∧
      t.grid a = { s.grid a with flip := true } ∧ (∀ k, k ≠ a.val → t.grid k = s.grid k) ∧
      Answers s r (0x2F00 + a) 0x0E (toBytes 1 v.toNat) 0 noEntry [.grids] t) ∧
    (accepted s r (0x2F00 + a) 0x0F (toBytes 1 v.toNat) = true → ∃ t, exec (.suspend r a v) s = .next t ∧
      t.e (0x2F00 + a) 0x0F = v.toNat ∧
      t.e (0x2F00 + a) 0x10 = (if v = 1 ∧ s.e (0x2F00 + a) 0x10 ≠ 0 then 6 else if v = 0 ∧ s.e (0x2F00 + a) 0x10 = 6 then 1
        else s.e (0x2F00 + a) 0x10) ∧
      (v = 0 → s.e (0x2F00 + a) 0x10 = 6 → (t.grid a).teeth = [] ∧ (t.grid a).revs = [] ∧ (t.grid a).accepted = none) ∧
      (s.e (0x2F00 + a) 0x10 = 3 → v = 1 → gridIdle s a → t.e (0x2F00 + a) 0x17 = sat32 (s.e (0x2F00 + a) 0x17 + 1) ∧
        t.flagged (0x2F00 + a) 0x11 3 = true) ∧
      answered r (0x2F00 + a) 0x0F (toBytes 1 v.toNat) 0 t ∧
      (s.e (0x2F00 + a) 0x10 ≠ 3 ∨ v = 0 ∨ gridIdle s a → (∀ k, k ≠ a.val → t.grid k = s.grid k) ∧
        Answers s r (0x2F00 + a) 0x0F (toBytes 1 v.toNat) 0 (entriesOf (0x2F00 + a) [0x0F, 0x10, 0x11, 0x17]) [.grids] t))))

/-- R181 to R183, R187, R189: an edge. One that no Sail selects changes nothing; a prescaled Sail counts rising edges and
passes every Nth; one less than 2.0 ns after the last stamped edge is counted and sets RATE_HIGH; every other one is
stamped and counted. In stamp mode, outside an arming it is counted, and within one its record, stamp, polarity and sequence, is
pushed.

R188, R191, R193, R194, R184: what else moves a Sail. A level that a gate pin shows for less than 10 ns is ignored; one
that makes the gate active opens the armings of the Sails that name it where their queues have room, and one that ends a
level mode's closes theirs. Arm timeout closes an arming, in interval mode with its start record and one record for each
stop; the first window begins at its whole second; a window that has lasted Measure time gives its two records and the
next follows without a gap. A spare interpolator that is due is calibrated and comes into use; the start calibration takes
all of them; each is noted with its time and temperature.

Model's choices on which this rests: log entry 22. -/
def Obligations.SailMeasures : Prop :=
  (
  ∀ (s : State) (n : Fin 8) (rising : Bool) (f : Fin 512), s.isUp = true →
    (let i := 0x2E00 + n.val
     let x := s.sailRun n
     let m := sailMode s n
     let raw : Int := s.gov.ticks * 512 - f
     let counts := s.e i 1 ≠ 0 ∧ ((m ≠ 0 ∧ bit (s.e i 3) (if rising then 0 else 1) = true) ∨ s.stopUsers n rising ≠ [])
     let held := 1 < s.e i 4 ∧ (rising = false ∨ x.divided + 1 < s.e i 4)
     let high := match x.lastStamped with | some l => 5 * (raw - l) < 2048 | none => False
     (¬counts → exec (.sailEdge n rising f) s = .next s) ∧
     (counts → held → ∃ t, exec (.sailEdge n rising f) s = .next t ∧
       onlySail s t n (if rising then { x with divided := x.divided + 1 } else x) ∧ Kept s t [.sails]) ∧
     (counts → ¬held → high → ∃ t, exec (.sailEdge n rising f) s = .next t ∧ onlySail s t n { x with divided := 0 } ∧
       t.e i 0x1A = sat32 (s.e i 0x1A + 1) ∧ t.flagged i 0x18 4 = true ∧ Entries s t (entriesOf i [0x18, 0x1A]) ∧ Kept s t [.dict, .sails]) ∧
     (counts → ¬held → ¬high → ∃ u, onlySail s u n { x with divided := 0, lastStamped := some raw } ∧
       u.e i 0x13 = (s.e i 0x13 + 1) % 2 ^ 32 ∧ Entries s u (entry i 0x13) ∧ Kept s u [.dict, .sails] ∧
       exec (.sailEdge n rising f) s = .next (let e := u.sailStamp n f rising
         if u.selected n rising then (u.sailUse n e).gridEdge n e else u.sailUse n e)) ∧
     (counts → ¬held → ¬high → m = 1 → bit (s.e i 3) (if rising then 0 else 1) = true → s.stopUsers n rising = [] →
       (∀ a, a < 4 → n.val ∉ [s.e (0x2F00 + a) 2, s.e (0x2F00 + a) 6, s.e (0x2F00 + a) 10]) → s.sailOwner n = none →
       (x.armed = false → ∃ t, exec (.sailEdge n rising f) s = .next t ∧ t.e i 0x14 = sat32 (s.e i 0x14 + 1) ∧
         onlySail s t n { x with divided := 0, lastStamped := some raw } ∧ Entries s t (entriesOf i [0x13, 0x14]) ∧
         Kept s t [.dict, .sails]) ∧
       (x.armed = true → x.queue.items.length < 1024 → ∃ t, exec (.sailEdge n rising f) s = .next t ∧
         (let e := s.sailStamp n f rising
          (t.sailRun n).queue.items = x.queue.items ++ [toBytes 16 (toTime96 e.stamp * 2 ^ 32 +
            sailWord 0 rising e.warm (decide (1 < s.e i 4)) x.edgeSeq)]) ∧
         (t.sailRun n).edgeSeq = (x.edgeSeq + 1) % 65536 ∧ (∀ k, k ≠ n.val → t.sailRun k = s.sailRun k) ∧
         Entries s t (entry i 0x13) ∧ Kept s t [.dict, .sails])))) ∧
  (
  (∀ (s : State) (g : Fin 4) (level : Bool) (ticks : BitVec 16), s.isUp = true →
    (bit s.pins.gate g = level ∨ ticks.toNat < 4 → exec (.gateEvent g ⟨level, ticks⟩) s = .next s) ∧
    (bit s.pins.gate g ≠ level → 4 ≤ ticks.toNat →
      (let m := s.e (0x2E10 + g) 1
       let active := ((m = 1 ∨ m = 3) ∧ level = true) ∨ ((m = 2 ∨ m = 4) ∧ level = false)
       let names := fun n => n < 8 ∧ (sailMode s n = 1 ∨ sailMode s n = 2) ∧ s.e (0x2E00 + n) 5 = g
       ∃ t, exec (.gateEvent g ⟨level, ticks⟩) s = .next t ∧ bit t.pins.gate g = level ∧
         (∀ k, k ≠ g.val → bit t.pins.gate k = bit s.pins.gate k) ∧ { t.pins with gate := 0 } = { s.pins with gate := 0 } ∧
         (∀ n, names n → active → (s.sailRun n).armed = false →
           (s.sailRun n).queue.items.length + s.e (0x2E00 + n) 8 + 1 ≤ 1024 →
           t.sailRun n = { s.sailRun n with armed := true, armDue := false, openAt := s.gov.ticks, start := none, stops := [] }) ∧
         (∀ n, names n → ¬active → m = 1 ∨ m = 2 → (t.sailRun n).armed = false) ∧
         (∀ n, ¬names n → t.sailRun n = s.sailRun n) ∧
         ((¬active → m = 0 ∨ 3 ≤ m) → (active → ∀ n, ¬names n) → Kept s t [.pins])))) ∧
  (∀ (s : State) (n : Fin 8), s.isUp = true → s.sailTimedOut n = true → s.e (0x2E00 + n) 5 ≠ 0xFF → s.sailOwner n = none →
    ∃ t, exec (.armTimeout n) s = .next t ∧ (t.sailRun n).armed = false ∧ (∀ k, k ≠ n.val → t.sailRun k = s.sailRun k) ∧
      (sailMode s n = 1 → t.sailRun n = { s.sailRun n with armed := false, start := none, stops := [] } ∧ Kept s t [.sails]) ∧
      (sailMode s n = 2 → (t.sailRun n).armSeq = ((s.sailRun n).armSeq + 1) % 65536 ∧
        ((s.sailRun n).queue.items.length + 1 + (s.sailRun n).stops.length ≤ 1024 →
          (t.sailRun n).queue.items.length = (s.sailRun n).queue.items.length + 1 + (s.sailRun n).stops.length ∧ Kept s t [.sails]))) ∧
  (∀ (s : State) (n : Fin 8), s.isUp = true →
    (∀ t0 : Nat, s.windowDone n = some t0 → s.sailOwner n = none → (s.sailRun n).queue.items.length + 2 ≤ 1024 →
      ∃ t, exec (.measureWindowEnd n) s = .next t ∧ Kept s t [.sails] ∧ (∀ k, k ≠ n.val → t.sailRun k = s.sailRun k) ∧
        (t.sailRun n).armSeq = ((s.sailRun n).armSeq + 1) % 65536 ∧ (t.sailRun n).winAt = some (t0 + 400 * s.e (0x2E00 + n) 10) ∧
        (t.sailRun n).first = none ∧ (t.sailRun n).periods = 0 ∧
        ∃ a b : List Byte, (t.sailRun n).queue.items = (s.sailRun n).queue.items ++ [a, b]) ∧
    (s.windowDone n = none → exec (.measureWindowEnd n) s = .next s) ∧
    (∀ t0 : Int, (s.sailRun n).winDue = some t0 → 3 ≤ sailMode s n → t0 ≤ s.now → ∃ t, exec (.firstWindowStart n) s = .next t ∧
      onlySail s t n { s.sailRun n with winDue := none, winAt := some s.gov.ticks } ∧ Kept s t [.sails]) ∧
    (∀ temp : BitVec 16, (s.calibrationDue n temp.toInt = false → exec (.sailCalibration n temp) s = .next s) ∧
      (s.calibrationDue n temp.toInt = true → ∃ t, exec (.sailCalibration n temp) s = .next t ∧
        onlySail s t n (if (s.sailRun n).secondInUse = true
          then { s.sailRun n with secondInUse := false, cal0 := (s.gov.ticks, temp.toInt) }
          else { s.sailRun n with secondInUse := true, cal1 := (s.gov.ticks, temp.toInt) }) ∧
        t.e 0x2E20 2 = toTime96 s.now ∧ t.e 0x2E20 3 = temp.toNat ∧ Entries s t (entriesOf 0x2E20 [2, 3]) ∧
        Kept s t [.dict, .sails]))) ∧
  (∀ (s : State) (temp : BitVec 16), s.isUp = true →
    (s.sailCal = true → exec (.sailStartCalibrationDone temp) s = .next s) ∧
    (s.sailCal = false → ∃ t, exec (.sailStartCalibrationDone temp) s = .next t ∧ t.sailCal = true ∧
      (∀ n, n < 8 → t.sailRun n = { s.sailRun n with cal0 := (s.gov.ticks, temp.toInt), cal1 := (s.gov.ticks, temp.toInt) }) ∧
      t.e 0x2E20 2 = toTime96 s.now ∧ t.e 0x2E20 3 = temp.toNat ∧ Entries s t (entriesOf 0x2E20 [2, 3]) ∧
      Kept s t [.dict, .sails, .sailCal])))

/-- R213, R214, R222, R223, R226: a grid whose next tooth is late searches again, with one tooth error more, no tooth held
and so no tooth that carries WARMUP; one that accepted no edge for Standstill time is in STANDSTILL at speed 0, from
whatever state. From SYNCED both count a loss (with no stream of the grid running, which would take an event).

Model's choices on which this rests: log entry 23. -/
def Obligations.GridsLoseTheirTeeth : Prop :=
  ∀ (s : State) (a : Fin 4), s.isUp = true →
    (let i := 0x2F00 + a.val
     (s.toothLate a = true → (s.e i 0x10 = 3 → gridIdle s a) → ∃ t, exec (.toothTimeout a) s = .next t ∧ t.e i 0x10 = 1 ∧
       t.e i 0x14 = sat32 (s.e i 0x14 + 1) ∧ (t.grid a).teeth = [] ∧ (t.grid a).revs = [] ∧ (t.grid a).accepted = none ∧
       (∀ k, k ≠ a.val → t.grid k = s.grid k) ∧
       (s.e i 0x10 = 3 → t.e i 0x17 = sat32 (s.e i 0x17 + 1) ∧ t.flagged i 0x11 3 = true ∧ (t.grid a).regain = true) ∧
       t.flagged i 0x11 2 = false ∧ (t.flagged i 0x11 3 = true ↔ s.e i 0x10 = 3 ∨ s.flagged i 0x11 3 = true) ∧
       Entries s t (fun k j => entriesOf i [0x10, 0x11, 0x14] k j ∨ (s.e i 0x10 = 3 ∧ entry i 0x17 k j)) ∧
       Kept s t [.dict, .grids]) ∧
     (s.stoodStill a = true → (s.e i 0x10 = 3 → gridIdle s a) → ∃ t, exec (.standstill a) s = .next t ∧ t.e i 0x10 = 4 ∧
       t.e i 0x13 = 0 ∧ (∀ k, k ≠ a.val → t.grid k = s.grid k) ∧
       (s.e i 0x10 = 3 → t.e i 0x17 = sat32 (s.e i 0x17 + 1) ∧ t.flagged i 0x11 3 = true) ∧
       (s.e i 0x10 ≠ 3 → t.grids = s.grids) ∧
       Entries s t (fun k j => entriesOf i [0x10, 0x13] k j ∨ (s.e i 0x10 = 3 ∧ entriesOf i [0x11, 0x17] k j)) ∧ Kept s t [.dict, .grids]))

/-! ### Screed, the Hopper and the Ledger -/

/-- R254, R255: the Pace of the three regions is reported with the margins that the planned loads leave, 1000 with no
plan; a third margin in a row below 100 sets the region's PACE_LOW bit.

R310 to R312: a pass of the scrubber counts the words it corrected and those it could not, with its time. An
uncorrectable word in a held block leaves a gap marker of reason 3 in the block's place, with its stream and sequences, and
with its instants unless the header was hit; one in both copies of a directory field sets HOPPER_FAULT and leaves an event
of reason 45; one in a single copy of a field, or in a record that was replaced before, leaves the queue's records to be
sent as they were, and an error in a record that was released changes no queue.

Model's choices on which this rests: log entries 26, 47. -/
def Obligations.RegionsWatched : Prop :=
  (
  ∀ (s : State) (intake screed hopper : BitVec 16), s.isUp = true →
    (let m : List (Nat × (Nat × Nat) × Nat × Nat) → BitVec 16 → Int :=
       fun l p => if s.planState = 0 then 1000 else marginOf (s.largest l) p.toNat
     ∃ t, exec (.paceMeasure intake screed hopper) s = .next t ∧
       t.e 0x2D00 1 = intake.toNat ∧ t.e 0x2D00 3 = screed.toNat ∧ t.e 0x2D00 5 = hopper.toNat ∧
       t.e 0x2D00 2 = unsigned 16 (m s.intakeLoads intake) ∧ t.e 0x2D00 4 = unsigned 16 (m s.screedLoads screed) ∧
       t.e 0x2D00 6 = unsigned 16 (m s.hopperLoad hopper) ∧
       (∀ k, k < 3 → 2 ≤ Tbl.get 0 s.power.lowRuns k →
         m (if k = 0 then s.intakeLoads else if k = 1 then s.screedLoads else s.hopperLoad)
           (if k = 0 then intake else if k = 1 then screed else hopper) < 100 → t.flagged 0x2D00 9 k = true) ∧
       { t.power with lowRuns := [], highRuns := [] } = { s.power with lowRuns := [], highRuns := [] } ∧
       Entries s t (fun i j => entriesOf 0x2D00 [1, 2, 3, 4, 5, 6, 9] i j ∨ logEntry i j) ∧ Kept s t [.dict, .power, .log])) ∧
  (
  (∀ (s : State) (corrected free : BitVec 32), s.isUp = true → ∃ t, exec (.scrubPass corrected free []) s = .next t ∧
    t.e 0x3400 6 = sat32 (s.e 0x3400 6 + corrected.toNat) ∧ t.e 0x3400 7 = sat32 (s.e 0x3400 7 + free.toNat) ∧
    t.e 0x3400 9 = toTime96 s.now ∧ Entries s t (entriesOf 0x3400 [6, 7, 9]) ∧ Kept s t [.dict]) ∧
  (∀ (s : State) (corrected free : BitVec 32) (e : EccError), s.isUp = true →
    (let q := e.queue.val
     let pos := (s.hq q).position e.record.toNat
     ((s.hq q).at? pos = none → ∃ t, exec (.scrubPass corrected free [e]) s = .next t ∧ t.hop = s.hop ∧
       t.e 0x3400 7 = sat32 (s.e 0x3400 7 + (free.toNat + 1)) ∧ Kept s t [.dict]) ∧
     (∀ (r : Rec) (n : Nat), (s.hq q).at? pos = some r → r.kind = 1 ∨ r.kind = 2 → r.stream = some n → r.replaced = false →
       e.site = .data ∨ e.site = .header →
       ∃ (t : State) (y : Rec), exec (.scrubPass corrected free [e]) s = .next t ∧ (t.hq q).at? pos = some y ∧ y.kind = 0x10 ∧
         y.stream = some n ∧ y.first = r.first ∧ y.count = r.count ∧ y.space = r.space ∧
         y.bytes = (if e.site = .data
           then (Led.mk 0x10 (some n) 3 0 0 r.first r.count (s.ledInst n r.instA) (s.ledInst n r.instB) []).bytes q
           else (Led.mk 0x10 (some n) 3 1 0 r.first r.count 0 0 []).bytes q) ∧
         (∀ k, (t.hq k).recs.length = (s.hq k).recs.length ∧ (t.hq k).read = (s.hq k).read ∧ (t.hq k).release = (s.hq k).release)) ∧
     (∀ r : Rec, (s.hq q).at? pos = some r → e.site = .directory → s.role ≠ 4 →
       ∃ (t : State) (y : Rec), exec (.scrubPass corrected free [e]) s = .next t ∧ t.flagged 0x3400 0x0A 5 = true ∧
         (t.hq q).at? pos = some y ∧ y.kind = 0x14 ∧ y.space = r.space ∧
         y.bytes = (Led.mk 0x14 none 45 0 0 0 0 0 0 (toBytes 1 q ++ toBytes 4 e.record.toNat)).bytes q ∧
         ∀ k, (t.hq k).recs.length = (s.hq k).recs.length ∧ (t.hq k).release = (s.hq k).release) ∧
     (∀ (r : Rec) (f : Fin 7) (second : Bool), (s.hq q).at? pos = some r → e.site = .directoryCopy f second →
       r.badCopies.contains (f.val, !second) = false →
       ∃ (t : State) (y : Rec), exec (.scrubPass corrected free [e]) s = .next t ∧ (t.hq q).at? pos = some y ∧
         (y.badCopies.contains (f.val, second) = true ∧ { y with badCopies := [] } = { r with badCopies := [] }) ∧
         Kept s t [.dict, .hop]) ∧
     (∀ r : Rec, (s.hq q).at? pos = some r → r.replaced = true → e.site = .data ∨ e.site = .header →
       ∃ t, exec (.scrubPass corrected free [e]) s = .next t ∧ t.hop = s.hop ∧ Kept s t [.dict]))))

/-- R283, R284, R304, R306: the oldest closed block of a stream of a running plan, its references settled. With room for
its raw size it becomes a record at the end of its queue, with the block's stream, first sequence and count; stalls of the
staging buffer are counted, and so is a read that won against the commit at depth 0. Without room it is dropped, counted,
and a gap of reason 1 begins at its first sequence. (On a hub with no class Y stream, and a stream that has no gap open,
owes no source change and does not stop.)

Model's choices on which this rests: log entries 25, 26. -/
def Obligations.BlockEncoded : Prop :=
  ∀ (s : State) (n : Fin 16384) (verify : Verify) (stalls : BitVec 16) (popWins : Bool) (x : Stream) (b : Block)
    (rest : List Block), s.isUp = true →
    s.planState = 1 → s.listening = false → s.hop.blocked = false → s.streams.lookup n.val = some x → x.closed = b :: rest →
    (∀ c ∈ s.refStreams n, s.refReady (match b.outs.getLast? with | some o => o.inst | none => 0) c = true) →
    s.hop.gaps.lookup n.val = none → x.sourceChange = none → x.stopAt = none → s.yStreams = [] →
    (s.rawSizeOf n b ≤ s.hop.free → 0 < s.hop.freeEntries →
      ∃ (t : State) (r : Rec), exec (.blockEncode n ⟨verify, stalls, popWins⟩) s = .next t ∧
        (t.hq (s.weir n)).recs = (s.hq (s.weir n)).recs ++ [r] ∧
        r.stream = some n.val ∧ r.first = b.first ∧ r.count = b.outs.length ∧ r.kind = (if s.legacy n then 2 else 1) ∧
        (∀ q, q ≠ s.weir n → t.hq q = s.hq q) ∧ (t.stream n).closed = rest ∧
        t.e 0x3300 3 = (s.e 0x3300 3 + 1) % 2 ^ 32 ∧ t.e 0x3300 9 = sat32 (s.e 0x3300 9 + stalls.toNat) ∧
        t.e (0x3410 + s.weir n) 0x0E = (if popWins = true ∧ (s.hq (s.weir n)).depth = 0
          then sat32 (s.e (0x3410 + s.weir n) 0x0E + 1) else s.e (0x3410 + s.weir n) 0x0E) ∧
        t.gov = s.gov ∧ t.groups = s.groups) ∧
    (s.hop.free < s.rawSizeOf n b ∨ s.hop.freeEntries = 0 → 0 < b.outs.length → b.outs.length < 0xFFFFFFFF → b.first < 2 ^ 32 →
      ∃ t, exec (.blockEncode n ⟨verify, stalls, popWins⟩) s = .next t ∧ (t.stream n).closed = rest ∧ t.hop.queues = s.hop.queues ∧
        (∃ g : Gap, t.hop.gaps.lookup n.val = some g ∧ g.reason = 1 ∧ g.first = b.first ∧ g.count = b.outs.length) ∧
        t.e 0x3400 0x0B = sat32 (s.e 0x3400 0x0B + 1) ∧ t.flagged 0x3400 0x0A 1 = true ∧
        Entries s t (entriesOf 0x3400 [0x0A, 0x0B]) ∧ Kept s t [.dict, .hop, .streams, .twin])

/-- R266: the last four bytes of a block are the CRC-32C of every byte before them, also of a block that was stored raw
after a verify fault; they are what the COMMIT item carries for a standby to compare. -/
def Obligations.BlockCheckCoversBlock : Prop :=
  ∀ (s : State) (n : Nat) (b : Block) (verify q num : Nat), s.legacy n = false →
    (let e := s.encode n b verify
     let x := e.1
     4 ≤ x.length ∧ ofBytes (x.drop (x.length - 4)) = crc32C (x.take (x.length - 4)) ∧
     (((s.blockRec n b x e.2.1).item q num true).drop 10).take 4 = x.drop (x.length - 4))

/-! ### Leat and Weir -/

/-- R323, R324, R326 to R328, R338, R339: bring-up. Received TRAIN sets report lock, partner, skew and code errors, and
move a port that trains: 64 good sets; 16 with the partner's SEEN, at which the rate is agreed as the lower maximum; 16
with GO once 64 were sent; 64 at the new rate; 16 with SEEN once 16 were sent, and IDLE, at which the port is UP at that
rate with hop sequences from 0, or, after a retrain, resumed where the partner stands. Sets that are not good, or that in
RETRAIN lack RESUME, move nothing. An UP port follows a partner that asks to resume. At a frame boundary a port that
trains sends a TRAIN set, IDLE once it only waits for IDLE, or the bits of a test. A rate that fails is given up for the
next lower; an UP port that must retrain keeps its buffers; one that does not come back within 10 ms goes down and trains
anew.

R330: the lane test. The partner's TEST_ACCEPT begins it, its TEST_START begins one here on an idle hub with no test;
without an accept for 1 ms it ends with result 3 and the port retrains, and otherwise with its counts and the port trains
from the start. Where this hub commanded the test its operation completes with the result, or is CANCELLED.

Model's choices on which this rests: log entries 34, 36, 37. -/
def Obligations.PortsTrain : Prop :=
  (
  (∀ (s : State) (p : Port) (m : TrainRun), s.isUp = true → s.powered (portIdx p) = true →
    (let k := portIdx p
     let i := 0x3510 + k
     let st := s.e i 2
     let good := m.lock0 = true ∧ m.lock1 = true ∧ m.skewPs.toNat ≤ 20000 ∧ (st = 4 → m.set.resume = true)
     let agreed := min (s.ownMax k) m.set.maxRate.toNat
     ∃ u t : State, exec (.trainReceived p m) s = .next t.refuseLate ∧
       ((∀ x, s.power.trans ≠ .check x) → t.refuseLate = t) ∧
       u.e i 5 = (if m.set.hostKind then 2 else 1) ∧ u.e i 6 = m.set.maxRate.toNat ∧ u.e i 7 = min 20000 m.skewPs.toNat ∧
       u.e i 0x0A = sat32 (s.e i 0x0A + m.bad.toNat) ∧ u.flagged i 0x13 0 = m.lock0 ∧ u.flagged i 0x13 1 = m.lock1 ∧
       Entries s u (fun a b => entriesOf i [5, 6, 7, 0x0A, 0x13] a b ∨ (p = .S ∧ entriesOf 0x3500 [4, 0x0C] a b)) ∧
       (p ≠ .S → u.leat = s.leat) ∧ (∀ q, { u.port q with control := [] } = { s.port q with control := [] }) ∧
       Kept s u [.dict, .leat] ∧ Kept s t [.dict, .leat, .twin] ∧
       (let x := u.port k
        let trains := x.testing = 0 ∧ (st = 1 ∨ st = 2 ∨ st = 4)
        let upNow := t.e i 2 = 3 ∧ t.e i 3 = x.rate ∧ (t.port k).since = s.gov.ticks ∧ (t.port k).stalls = 0 ∧
          (st ≠ 4 → (t.port k).rxNext = 0 ∧ (t.port k).txNext = 0 ∧ (t.port k).replay = [] ∧ (t.port k).resend = 0) ∧
          (st = 4 → (t.port k).rxNext = x.rxNext ∧ (t.port k).txNext = x.txNext ∧
            (t.port k).replay = x.replay.dropWhile (fun (r : Nat × Frame × Nat) =>
              decide ((r.1 + 65536 - m.set.nextExpected.toNat) % 65536 ≥ 32768)) ∧
            (t.port k).resend = (t.port k).replay.length)
        (trains → ¬good → t = u) ∧
        (trains → good → x.step = .start → 64 ≤ m.count →
          onlyPort u t k { x with step := .seen, sets := 0 } ∧ t.e i 2 = st) ∧
        (trains → good → x.step = .seen → m.set.seen = true → 16 ≤ m.count →
          (agreed = 0 → onlyPort u t k { x with step := .final, rate := 0 } ∧ t.e i 2 = st) ∧
          (agreed ≠ 0 → onlyPort u t k { x with step := .go, rate := agreed, sets := 0 } ∧ t.e i 2 = 2)) ∧
        (trains → good → x.step = .go → m.set.go = true → m.set.agreed.toNat = x.rate → 16 ≤ m.count → 64 ≤ x.sets →
          onlyPort u t k { x with step := .high, since := s.gov.ticks, sets := 0 } ∧ t.e i 2 = st) ∧
        (trains → good → x.step = .high → 64 ≤ m.count →
          onlyPort u t k { x with step := .final, sets := 0 } ∧ t.e i 2 = (if st = 4 then 4 else 1)) ∧
        (trains → good → x.step = .final → m.set.seen = true → 16 ≤ m.count → 16 ≤ x.sets →
          (m.idle = true → upNow) ∧ (m.idle = false → onlyPort u t k { x with step := .idle } ∧ t.e i 2 = st)) ∧
        (trains → good → x.step = .idle → m.idle = true → upNow) ∧
        (x.testing = 0 → st = 3 → m.set.testStart = false → m.set.resume = true →
          onlyPort u t k { x with step := .high, since := s.gov.ticks, resend := 0, sets := 0 } ∧ t.e i 2 = 4 ∧ t.e i 3 = 0xFF ∧
          t.e i 0x0B = sat32 (s.e i 0x0B + 1)) ∧
        (x.testing = 0 → st = 3 → m.set.testStart = false → m.set.resume = false → t = u) ∧
        (x.testing = 1 → m.set.testAccept = true → onlyPort u t k { x with testing := 2, since := s.gov.ticks, sets := 0 }) ∧
        (x.testing = 0 → st = 3 → m.set.testStart = true → s.powerState = 0 → s.untested = true → t.e i 2 = 5 ∧
          t.e i 3 = 0xFF ∧ onlyPort u t k { x with
            testing := 3, since := s.gov.ticks, sets := 0, testSecs := m.set.duration.toNat
            prbs := ((Config.prbsStart false).toNat, (Config.prbsStart true).toNat) })))) ∧
  (∀ (s : State) (p : Port) (m : MemRead), s.isUp = true → s.up (portIdx p) = false →
    (let k := portIdx p
     let x := s.port k
     (s.powered k = false → exec (.frameBoundary ⟨p, m⟩) s = .next s) ∧
     (s.powered k = true → ∃ t, exec (.frameBoundary ⟨p, m⟩) s = .next t ∧ (∀ q, q ≠ k → t.port q = s.port q) ∧
       Kept s t [.leat] ∧ (t.port k).step = x.step ∧ (t.port k).replay = x.replay ∧
       (x.step = .idle → (t.port k).lastSet = some .idle ∧ (t.port k).sets = x.sets) ∧
       (x.step ≠ .idle → x.testing < 2 ∨ x.sets < 64 →
         (t.port k).lastSet = some (.train (s.ownTrain k)) ∧ (t.port k).sets = x.sets + 1) ∧
       (x.step ≠ .idle → 2 ≤ x.testing → 64 ≤ x.sets →
         (t.port k).line = [((prbsBits 10 x.prbs.1).1, (prbsBits 10 x.prbs.2).1)] ∧
         (t.port k).prbs = ((prbsBits 10 x.prbs.1).2, (prbsBits 10 x.prbs.2).2))))) ∧
  (∀ (s : State) (p : Port), s.isUp = true →
    (let k := portIdx p
     let i := 0x3510 + k
     (s.rateFailed k = true → s.powered k = true → ∃ t, exec (.rateFallback p) s = .next t ∧ t.e i 2 = 1 ∧ t.e i 3 = 0xFF ∧
       t.e i 0x0D = sat32 (s.e i 0x0D + 1) ∧
       t.port k = { LPort.reset with since := s.gov.ticks, maxRate := some ((s.port k).rate - 1) } ∧ Kept s t [.dict, .leat]) ∧
     (∀ c : RetrainCause, s.up k = true → (c = .replays → 8 ≤ (s.port k).stalls) → ∃ t, exec (.retrain p c) s = .next t ∧
       onlyPort s t k { s.port k with step := .high, since := s.gov.ticks, resend := 0, sets := 0 } ∧ t.e i 2 = 4 ∧
       t.e i 3 = 0xFF ∧ t.e i 0x0B = sat32 (s.e i 0x0B + 1) ∧ Entries s t (entriesOf i [2, 3, 0x0B, 0x13]) ∧
       Kept s t [.dict, .leat]) ∧
     (s.retrainFailed k = true → s.powered k = true → ∃ t, exec (.portDown p) s = .next t ∧ t.e i 2 = 1 ∧
       t.e i 0x0C = sat32 (s.e i 0x0C + 1) ∧ t.port k = { LPort.reset with since := s.gov.ticks, maxRate := (s.port k).maxRate } ∧
       (s.carries k = true → (∀ q, q < 8 → (s.hq q).relPend = none) →
         ∀ q, q < 8 → t.hq q = { s.hq q with read := (s.hq q).release, sent := 0 }) ∧
       (s.carries k = false → Kept s t [.dict, .leat]))))) ∧
  (∀ (s : State) (p : Port) (c : Instr) (result bits e0 e1 : Nat), s.isUp = true →
    (let k := portIdx p
     let i := 0x3510 + k
     let x := s.port k
     let own := x.testing = 1 ∨ x.testing = 2
     ((c = .testAcceptTimeout p ∧ s.testRefused k = true ∧ result = 3 ∧ bits = 0 ∧ e0 = 0 ∧ e1 = 0) ∨
      (∃ (b n0 n1 : BitVec 64) (lost : Bool), c = .laneTestEnd p b n0 n1 lost ∧ s.testEnds k lost = true ∧ bits = b.toNat ∧
        e0 = n0.toNat ∧ e1 = n1.toNat ∧
        result = (if lost then 4 else if x.testing ≠ 3 ∧ s.e 0x1430 2 = 2 then 5 else if e0 + e1 = 0 then 1 else 2))) →
     ∃ t, exec c s = .next t ∧ t.e i 0x0F = result ∧ t.e i 0x10 = bits ∧ t.e i 0x11 = e0 ∧ t.e i 0x12 = e1 ∧
       (result = 3 → t.e i 2 = 4 ∧ t.e i 0x0B = sat32 (s.e i 0x0B + 1) ∧
         t.port k = { x with testing := 0, step := .high, since := s.gov.ticks, resend := 0, sets := 0 }) ∧
       (result ≠ 3 → t.e i 2 = (if s.powered k then 1 else 0) ∧
         t.port k = (if s.powered k then { LPort.reset with since := s.gov.ticks, maxRate := x.maxRate } else LPort.reset)) ∧
       (own → s.e 0x1430 2 = 1 → Ended s t 0x30 3 ∧ t.e 0x1430 6 = result) ∧
       (own → s.e 0x1430 2 = 2 → Ended s t 0x30 4) ∧
       (¬own → t.e 0x1430 2 = s.e 0x1430 2) ∧ Kept s t [.dict, .leat]))

/-- R320, R327, R328, R353: Port enable. Written to what it is, it only ends a lowered maximum rate; 1 starts the bring-up
of a port that has lanes, from step 1 with empty buffers; 0 powers the lanes down. On the T port it also makes a single
hub ACTIVE_ALONE (with 1) or a member single (with 0; both the model's choice, log entry 33). -/
def Obligations.PortEnableWrites : Prop :=
  ∀ (s : State) (r : Req) (p : Port) (v : BitVec 8), accepted s r (0x3510 + portIdx p) 1 (toBytes 1 v.toNat) = true →
    (let i := 0x3510 + portIdx p
     (s.e i 1 = v.toNat → ∃ t, exec (.portEnableWrite r p v) s = .next t ∧ answered r i 1 (toBytes 1 v.toNat) 0 t ∧
       (t.port (portIdx p)).maxRate = none ∧
       (∀ q, { t.port q with maxRate := none, control := [] } = { s.port q with maxRate := none, control := [] }) ∧
       (∀ q, q ≠ portIdx p → (t.port q).maxRate = (s.port q).maxRate) ∧
       Entries s t (fun a b => serviceEntry a b ∨ (a = 0x1500 ∧ b = 3)) ∧ Kept s t [.dict, .svc, .leat, .flash]) ∧
     (s.e i 1 ≠ v.toNat → ∃ t, exec (.portEnableWrite r p v) s = .next t ∧ t.e i 1 = v.toNat ∧
       (v = 1 → ¬(p = .S ∧ s.pins.chainEnd = true) → t.e i 2 = 1 ∧ t.e i 3 = 0xFF ∧
         t.port (portIdx p) = { LPort.reset with since := s.gov.ticks }) ∧
       (v ≠ 1 → t.e i 2 = 0 ∧ t.e i 3 = 0xFF ∧ t.port (portIdx p) = LPort.reset) ∧
       (p = .T → t.e 0x3600 1 = (if v = 1 then 5 else 0)) ∧
       (p ≠ .T → t.e 0x3600 1 = s.e 0x3600 1 ∧ t.log = s.log ∧
         ((∀ q, q < 8 → (s.hq q).relPend = none) → t.twin = s.twin ∧ t.streams = s.streams)) ∧
       answered r i 1 (toBytes 1 v.toNat) 0 t ∧ t.gov = s.gov ∧ t.groups = s.groups ∧ t.sails = s.sails))

/-- R335, R336, R340, R348: reception. A frame whose check fails is counted; one that is sound, of the expected hop
sequence, moves the sequence on and owes an ACK, an old one only owes the ACK, any other owes a NAK, unless one was sent
within 10 µs; a timing frame goes by its check alone. A taken frame is dropped and counted where its type or length is
wrong, or no port carries it on; it is kept where it is addressed to this hub and forwarded where it is not; an Unplaced
hub keeps a LINK_RESET alone. R412: a request with a command that is no host command is answered with 0x01000001 as soon
as no warm reset holds requests back.

R323, R334, R336, R337, R343, R344: acknowledge, replay and transmission. An ACK frees the frames that it covers and takes
the window; a NAK, or 20 µs without an acknowledge, makes the rest be resent; one whose complement bytes do not match only
counts as a code error. At a frame boundary a timing frame goes first, then what is to be resent, then a control frame
within its share and the window, then a SAMPLE frame of the queue whose turn it is, paid for in credits and numbered by the
record and offset at which it begins. With no timing frame, an answer that is due goes ahead of them.

Model's choices on which this rests: log entries 9, 34, 38. -/
def Obligations.FramesMove : Prop :=
  (
  (∀ (s : State) (p : Port) (b : List Byte) (codeError : Bool), s.isUp = true → s.up (portIdx p) = true →
    (let k := portIdx p
     let x := s.port k
     let f := Frame.ofBytes b
     let check := 20 ≤ b.length ∧ crc32 (b.take (b.length - 4)) = ofBytes (b.drop (b.length - 4))
     let hop := ofBytes ((b.drop 2).take 2)
     let sound := check ∧ codeError = false ∧ ofBytes ((b.drop 8).take 2) = f.payload.length
     let behind := (x.rxNext + 65536 - hop) % 65536
     ∃ t : State, exec (.frameReceived p b codeError) s = .next t.answerUnknown ∧ Kept s t [.dict, .leat] ∧
       (∀ q, q ≠ k → t.port q = s.port q) ∧
       t.e (0x3510 + k) 9 = (if check then s.e (0x3510 + k) 9 else sat32 (s.e (0x3510 + k) 9 + 1)) ∧
       t.e (0x3510 + k) 0x0A = (if codeError then sat32 (s.e (0x3510 + k) 0x0A + 1) else s.e (0x3510 + k) 0x0A) ∧
       (f.ftype = 4 → ¬sound → (let d := 0x2301 + ofBytes (f.payload.take 1) % 4
         t.e d 0x0E = sat32 (s.e d 0x0E + 1) ∧ t.leat = s.leat)) ∧
       (f.ftype ≠ 4 → ¬(sound ∧ hop = x.rxNext) → t.leat.inbox = s.leat.inbox ∧
         (check → 1 ≤ behind → behind ≤ 32768 → t.port k = { x with ackDue := true }) ∧
         (¬(check ∧ 1 ≤ behind ∧ behind ≤ 32768) →
           t.port k = (match x.nakAt with
             | some a => if a + 4000 ≤ s.gov.ticks then { x with nakDue := true, nakAt := some s.gov.ticks } else x
             | none => { x with nakDue := true, nakAt := some s.gov.ticks }))) ∧
       (sound → (f.ftype = 4 ∨ hop = x.rxNext) →
         (let y := if f.ftype = 4 then x else { x with rxNext := (hop + 1) % 65536, ackDue := true, nakAt := none }
          let misplaced := lengthOk f.ftype f.payload.length = false ∨ (k = 4 ↔ f.ftype < 7) ∨
            (f.ftype = 6 ∧ (f.enumCmd = 0 ∨ 6 < f.enumCmd))
          let reserved := f.ftype = 4 ∧ f.message = 3
          let reset := f.enumCmd = 4
          let mine := k = 4 ∨ f.ftype = 4 ∨ f.neighbour = true ∨ (f.broadcast = false ∧ f.hubOrigin = false ∧ s.isMine f = true)
          (misplaced ∨ (s.e 0x3500 1 ≠ 2 ∧ reserved) →
            t.port k = y ∧ t.leat.inbox = s.leat.inbox ∧ t.e 0x3500 0x0C = sat32 (s.e 0x3500 0x0C + 1)) ∧
          (¬misplaced → s.e 0x3500 1 = 2 → t.port k = y ∧ t.e 0x3500 0x0C = s.e 0x3500 0x0C ∧
            t.leat.inbox = (if reset ∧ f.hubOrigin = false ∧ (f.broadcast = true ∨ f.neighbour = true)
              then s.leat.inbox ++ [f] else s.leat.inbox)) ∧
          (¬misplaced → s.e 0x3500 1 ≠ 2 → ¬reserved → mine →
            t.port k = y ∧ t.leat.inbox = s.leat.inbox ++ [f] ∧ t.e 0x3500 0x0C = s.e 0x3500 0x0C) ∧
          (¬misplaced → s.e 0x3500 1 ≠ 2 → ¬mine →
            t.leat.inbox = (if f.broadcast then s.leat.inbox ++ [f] else s.leat.inbox) ∧
            t.leat.resetAt = (if f.broadcast = true ∧ reset then some s.gov.ticks else s.leat.resetAt) ∧
            (s.onward f.south ≠ none ∧ (s.e 0x3500 1 = 1 ∨ f.broadcast = true ∨ f.hubOrigin = true) →
              t.port k = { y with fwd := y.fwd ++ [f] } ∧ t.e 0x3500 0x0C = s.e 0x3500 0x0C) ∧
            (s.onward f.south = none ∨ ¬(s.e 0x3500 1 = 1 ∨ f.broadcast = true ∨ f.hubOrigin = true) →
              t.port k = y ∧ t.e 0x3500 0x0C = sat32 (s.e 0x3500 0x0C + 1))))))) ∧
  (∀ t : State, (t.waits = true ∨ (∀ g ∈ t.leat.inbox, g.unknownRequest = false) → t.answerUnknown = t) ∧
    (∀ (g : Frame) (l : List Frame), t.waits = false → t.leat.inbox = l ++ [g] → g.unknownRequest = true →
      (∀ h ∈ l, h.unknownRequest = false) →
      t.answerUnknown.leat.inbox = l ∧ t.answerUnknown.e 0x1300 2 = sat32 (t.e 0x1300 2 + 1) ∧
      t.answerUnknown.e 0x1300 3 = 0x01000001 ∧ Kept t t.answerUnknown [.dict, .leat]))) ∧
  (
  (∀ (s : State) (p : Port) (seq window : Checked), s.isUp = true → s.up (portIdx p) = true →
    (let k := portIdx p
     let x := s.port k
     let left := fun (n : Nat) => x.replay.dropWhile (fun r => decide ((n + 65536 - r.1) % 65536 < 32768))
     let sound := seq.inv = ~~~seq.value ∧ window.inv = ~~~window.value
     (¬sound → ∀ c ∈ [Instr.ack p seq window, .nak p seq window], ∃ t, exec c s = .next t ∧
       t.e (0x3510 + k) 0x0A = sat32 (s.e (0x3510 + k) 0x0A + 1) ∧ Entries s t (entry (0x3510 + k) 0x0A) ∧ Kept s t [.dict]) ∧
     (sound → ∃ t, exec (.ack p seq window) s = .next t ∧ Kept s t [.leat] ∧ { t.leat with ports := [] } = { s.leat with ports := [] } ∧
       (let l := left seq.value.toNat
        onlyPort s t k { x with
          replay := l, resend := min x.resend l.length, window := window.value.toNat, sentSince := 0
          stalls := if l.length < x.replay.length then 0 else x.stalls })) ∧
     (sound → ∃ t, exec (.nak p seq window) s = .next t ∧ Kept s t [.leat] ∧ { t.leat with ports := [] } = { s.leat with ports := [] } ∧
       (let l := left ((seq.value.toNat + 65535) % 65536)
        onlyPort s t k { x with
          replay := l, window := window.value.toNat, sentSince := 0
          resend := (l.dropWhile (fun r => decide ((r.1 + 65536 - seq.value.toNat) % 65536 ≥ 32768))).length
          stalls := (if l.length < x.replay.length then 0 else x.stalls) + 1 })) ∧
     (∀ (h t0 : Nat) (f : Frame) (rest : List (Nat × Frame × Nat)), x.replay = (h, f, t0) :: rest → t0 + 8000 ≤ s.gov.ticks →
       ∃ t, exec (.replayTimeout p) s = .next t ∧ Kept s t [.leat] ∧
         onlyPort s t k { x with
           resend := (x.replay.dropWhile (fun r => decide ((r.1 + 65536 - h) % 65536 ≥ 32768))).length, stalls := x.stalls + 1 }))) ∧
  (∀ (s : State) (p : Port) (m : MemRead), p ≠ .T → s.isUp = true → s.up (portIdx p) = true →
    (let k := portIdx p
     let v := s.readAhead k m
     let x := v.port k
     let w := offered v k
     let y := w.port k
     let untimed := x.timing = [] ∨ (((v.openBoundary k).creditStall k).port k).share v.gov.ticks 48 = false
     (s.ownSamples k = false → v = s) ∧ (m.lost = none → Kept s v [.dict] ∧ Entries s v (entry 0x3400 6)) ∧
     (∀ (g : TimingFrame) (rest : List TimingFrame), x.timing = g :: rest → ¬untimed → ∃ t, exec (.frameBoundary ⟨p, m⟩) s = .next t ∧
       (t.port k).timing = rest ∧ (t.port k).replay = x.replay ∧ (t.port k).control = x.control ∧
       (t.port k).lastSent = (Frame.mk 4 (decide (2 ≤ k)) false true true 0 (v.e 0x1018 3 % 2 ^ 18) 0 0
         (v.timingPayload g (if g.message = 2 then g.t4 else v.time g.domain))).bytes 0 ∧
       (∀ q, q ≠ k → t.port q = v.port q) ∧ Entries v t (entry 0x3500 8) ∧ Kept v t [.dict, .leat, .gov]) ∧
     (untimed → x.ackDue = true ∨ x.nakDue = true →
       (((v.openBoundary k).creditStall k).port k).share v.gov.ticks 10 = true →
       y.ackDue = false ∧ y.nakDue = false ∧ y.lastSet = some (if x.nakDue = true then .nak x.rxNext x.freeWindow
         else .ack ((x.rxNext + 65535) % 65536) x.freeWindow)) ∧
     (untimed → 0 < x.resend → ∀ (h t0 : Nat) (f : Frame), x.replay[x.replay.length - x.resend]? = some (h, f, t0) →
       x.sentSince + f.size ≤ 64 * x.window → (sharedType f.ftype = true → y.share v.gov.ticks f.size = true) →
       ∃ t, exec (.frameBoundary ⟨p, m⟩) s = .next t ∧ (t.port k).lastSent = f.bytes h ∧ (t.port k).resend = x.resend - 1 ∧
         (t.port k).replay = x.replay.set (x.replay.length - x.resend) (h, f, v.gov.ticks) ∧ (t.port k).txNext = x.txNext ∧
         (t.port k).sentSince = x.sentSince + f.size ∧ (t.port k).ackDue = y.ackDue ∧ (t.port k).nakDue = y.nakDue ∧
         t.e (0x3510 + k) 8 = sat32 (v.e (0x3510 + k) 8 + 1) ∧ (∀ q, q ≠ k → t.port q = v.port q) ∧
         Entries v t (fun i j => entry (0x3510 + k) 8 i j ∨ entry 0x3500 8 i j) ∧ Kept v t [.dict, .leat]) ∧
     (untimed → x.resend = 0 → ∀ (f : Frame) (rest : List Frame), x.control = f :: rest → x.fits f = true →
       (sharedType f.ftype = true → y.share v.gov.ticks f.size = true) → ∃ t, exec (.frameBoundary ⟨p, m⟩) s = .next t ∧
         (t.port k).control = rest ∧ (t.port k).lastSent = f.bytes x.txNext ∧ (t.port k).txNext = (x.txNext + 1) % 65536 ∧
         (t.port k).replay = x.replay ++ [(x.txNext, f, v.gov.ticks)] ∧ (t.port k).ackDue = y.ackDue ∧
         (t.port k).nakDue = y.nakDue ∧ (∀ q, q ≠ k → t.port q = v.port q) ∧ Entries v t (entry 0x3500 8) ∧
         Kept v t [.dict, .leat]) ∧
     (untimed → x.resend = 0 → x.control = [] → (∀ q, q < 4 → (v.port q).fwd = []) →
       (∀ q n : Nat, v.ownSamples k = true → v.turnQueue = some (q, n) →
         (let z := v.payloadSize q
          let body := ((v.hq q).takeBytes (z + 1) z).1
          x.fits ⟨1, false, false, false, true, q, 0, 0, 0, List.replicate z 0⟩ = true → (v.hq q).relPend = none →
          ∃ t, exec (.frameBoundary ⟨p, m⟩) s = .next t ∧
            (t.port k).lastSent = (Frame.mk 1 v.ownSouth false false true q (v.sampleId.getD 0) (v.hq q).sent
              (wrap32 (v.hq q).read) body).bytes x.txNext ∧
            (t.port k).txNext = (x.txNext + 1) % 65536 ∧ t.hq q = ((v.hq q).takeBytes (z + 1) z).2 ∧
            (∀ r, r ≠ q → t.hq r = v.hq r) ∧ t.e 0x3500 7 = (v.e 0x3500 7 + (z + 255) / 256) % 2 ^ 32 ∧
            t.e (0x3520 + q) 2 = (v.e (0x3520 + q) 2 + z) % 2 ^ 64 ∧ t.leat.turn = q ∧ t.leat.turnBytes = n + z ∧
            Entries v t (fun i j => entry 0x3500 7 i j ∨ entry (0x3520 + q) 2 i j) ∧ Kept v t [.dict, .leat, .hop])) ∧
       (v.ownSamples k = false → ∃ t, exec (.frameBoundary ⟨p, m⟩) s = .next t ∧ (t.port k).lastSent = x.lastSent ∧
         (t.port k).replay = x.replay ∧ (t.port k).ackDue = y.ackDue ∧ (t.port k).nakDue = y.nakDue ∧
         (∀ q, q ≠ k → t.port q = v.port q) ∧ Kept v t [.leat])))))

/-- R342, R345, R347 to R349, R367: the host's own frames. CREDIT: its releases in queue order, but on a member whose Hopper
is neither sent nor released, then its rewind, each counted where refused, then the limit, which only ever moves ahead; a
member that does not send leaves both. A member of a Ladder passes the payload to its twin. ASSIGN places an unenumerated
hub, or makes it Unplaced past position 63; a repeat changes nothing and any other sets bit 3. UNPLACE makes the hub
Unplaced, and a path notice moves the bit of its path on a dual-homed hub; an Unplaced hub takes no CREDIT and no notice.
LINK_RESET ends every operation, a running PLAN_CHECK with verdict 3, forgets the enumeration, moves the read positions to
mark 0 and trains every port; a broadcast one waits until it is passed on.

Model's choices on which this rests: log entries 34 to 36, 41. -/
def Obligations.HostFrames : Prop :=
  (∀ (s : State) (m : CreditMsg), s.isUp = true → s.e 0x3500 1 ≠ 2 →
    ∃ t, exec (.credit m) s = .next t ∧ t.leat = (taken s 2).leat ∧
      (roomOnly s → credited s t m ∧ Kept s t [.dict, .leat, .hop, .twin] ∧
        t.twin = (if s.role ≠ 0 ∧ s.up 4 = true
          then { s.twin with items := s.twin.items ++
            [(if s.pairing then s.twin.ahead else 0, twinItem 5 48 (zeros 2 ++ creditBytes m))] }
          else s.twin))) ∧
  (∀ (s : State) (p : Port) (m : AssignMsg), s.isUp = true → s.up (portIdx p) = true →
    (let pos := if m.ladder then 2 * m.position.toNat + (if s.pins.twinB then 1 else 0) else m.position.toNat
     ∃ t : State, exec (.assign p m) s = .next t.refuseLate ∧ ((∀ x, s.power.trans ≠ .check x) → t.refuseLate = t) ∧
       Kept s t [.dict, .leat] ∧
       (s.e 0x3500 1 = 0 → (p = .N ∨ (p = .S ∧ m.fromSouth = true)) →
         (pos ≤ 63 → t.e 0x3500 1 = 1 ∧ t.e 0x1018 1 = m.chain.toNat ∧ t.e 0x1018 2 = pos ∧
           t.e 0x1018 3 = m.chain.toNat * 64 + pos ∧ t.e 0x3500 6 = 0 ∧ t.e 0x3500 7 = 0 ∧
           t.flagged 0x3500 4 8 = m.dualHomed ∧ t.leat.position = some pos ∧ t.leat.chain = some m.chain.toNat ∧
           t.leat.ladder = m.ladder ∧ t.leat.fromSouth = m.fromSouth ∧ t.leat.assignedOn = portIdx p) ∧
         (63 < pos → t.e 0x3500 1 = 2 ∧ t.e 0x1018 1 = 0xFFFF ∧ t.e 0x1018 2 = 0xFF ∧ t.e 0x1018 3 = 0xFFFFFFFF)) ∧
       (s.e 0x3500 1 = 1 → s.leat.chain = some m.chain.toNat → s.leat.position = some pos → s.leat.ladder = m.ladder →
         s.flagged 0x3500 4 8 = m.dualHomed → Kept s t [.leat] ∧ t.leat.ports = s.leat.ports) ∧
       (s.e 0x3500 1 = 1 → ¬(s.leat.chain = some m.chain.toNat ∧ s.leat.position = some pos ∧ s.leat.ladder = m.ladder ∧
         s.flagged 0x3500 4 8 = m.dualHomed) → t.flagged 0x3500 4 3 = true ∧ t.e 0x1018 3 = s.e 0x1018 3))) ∧
  (∀ (s : State) (p : Port) (south lost : Bool), s.isUp = true → s.up (portIdx p) = true →
    (∃ t, exec (.unplace p) s = .next t ∧ t.e 0x3500 1 = 2 ∧ Kept s t [.dict, .leat] ∧
      (s.e 0x3500 1 ≠ 2 → t.e 0x1018 1 = 0xFFFF ∧ t.e 0x1018 2 = 0xFF ∧ t.e 0x1018 3 = 0xFFFFFFFF ∧ t.leat.position = none)) ∧
    (let c : Instr := if lost then .pathLost p south else .pathRestored p south
     (s.e 0x3500 1 = 2 → exec c s = .next s) ∧
     (s.e 0x3500 1 ≠ 2 → ∃ t, exec c s = .next t ∧
       (∀ i, t.flagged 0x3500 4 i =
         if s.flagged 0x3500 4 8 = true ∧ i = (if south then 5 else 4) then lost else s.flagged 0x3500 4 i) ∧
       Entries s t (entriesOf 0x3500 [4, 0x0C]) ∧ Kept s t [.dict, .leat]))) ∧
  (∀ (s : State) (broadcast : Bool), s.isUp = true →
    (broadcast = true → s.resetDue = false → exec (.linkReset broadcast) s = .next s) ∧
    (broadcast = false ∨ s.resetDue = true → ∃ t, exec (.linkReset broadcast) s = .next t ∧
      t.e 0x3500 1 = 0 ∧ t.e 0x3500 6 = 0 ∧ t.e 0x3500 7 = 0 ∧ t.e 0x1018 1 = 0xFFFF ∧ t.e 0x1018 2 = 0xFF ∧
      t.e 0x1018 3 = 0xFFFFFFFF ∧ t.e 0x3500 9 = sat32 (s.e 0x3500 9 + 1) ∧
      (∀ op ∈ [0x10, 0x11, 0x12, 0x13, 0x20, 0x21, 0x30, 0x40], t.e (0x1400 + op) 2 = 0) ∧
      t.e 0x3100 0x11 = (if s.running 0x20 = true then 3 else s.e 0x3100 0x11) ∧
      t.flash.snapshot = (if s.e 0x1500 1 = 2 then none else s.flash.snapshot) ∧ t.flash.testing = none ∧
      (∀ k, k < 5 → t.e (0x3510 + k) 2 = (if s.powered k then 1 else 0) ∧
        t.port k = (if s.powered k then { LPort.reset with since := s.gov.ticks } else LPort.reset)) ∧
      ((∀ q, q < 8 → (s.hq q).relPend = none) → ∀ q, q < 8 → t.hq q = { s.hq q with read := (s.hq q).release, sent := 0 }) ∧
      t.leat.inbox = [] ∧ t.leat.position = none ∧ t.leat.ladder = false ∧ t.gov = s.gov ∧ t.groups = s.groups ∧ t.sails = s.sails))

/-! ### Twin operation -/

/-- R372, R373: the Role commands. A planned swap needs a ready pair, at either member, whose standby does not deviate, a
forced swap a ready pair; one may be pending at a time. Its instant is the first whole millisecond at least 1 ms ahead:
the active fixes it and sends SWAP_AT, and a standby asks its active with one. Step down makes an active
STANDBY_UNPAIRED: it drives no port, discards what it has not committed, and feeds no standby any more; it needs a partner
that is ready or active, one never heard, or the T port down.

Model's choices on which this rests: log entries 39, 41. -/
def Obligations.RoleCommands : Prop :=
  (∀ (s : State) (r : Req) (c : Instr) (v : Nat), (c = .roleSwap r ∧ v = 1) ∨ (c = .roleForcedSwap r ∧ v = 2) →
    accepted s r 0x3600 3 (toBytes 1 v) = true →
    (let ready := (s.role = 4 ∧ s.twin.partner = some 3) ∨ (s.role = 3 ∧ s.twin.partner = some 4)
     let deviates := if s.role = 3 then s.flagged 0x3600 2 2 else bit s.twin.partnerStatus 2
     let may := ready ∧ (v = 1 → deviates = false)
     (¬may → ∃ t, exec c s = .next t ∧ Answers s r 0x3600 3 (toBytes 1 v) 0x05000006 noEntry [] t) ∧
     (may → s.twin.swapAt ≠ none → ∃ t, exec c s = .next t ∧ Answers s r 0x3600 3 (toBytes 1 v) 0x04000004 noEntry [] t) ∧
     (may → s.twin.swapAt = none → ∃ (t : State) (x : Int), exec c s = .next t ∧
       x % fuMs 1 = 0 ∧ s.now + fuMs 1 ≤ x ∧ x < s.now + 2 * fuMs 1 ∧
       t.twin = (if s.role = 4 then { s.twin with swapAt := some x } else s.twin) ∧
       (t.port 4).control = (s.port 4).control ++ [s.twinFrame 9 (toBytes 2 2 ++ toBytes 12 (toTime96 x))] ∧
       answered r 0x3600 3 (toBytes 1 v) 0 t ∧ Kept s t [.dict, .svc, .leat, .twin]))) ∧
  (∀ (s : State) (r : Req), accepted s r 0x3600 3 (toBytes 1 3) = true →
    (s.up 4 = true → (∃ p, s.twin.partner = some p ∧ p ∉ [3, 4, 5]) →
      ∃ t, exec (.roleStepDown r) s = .next t ∧ Answers s r 0x3600 3 (toBytes 1 3) 0x05000006 noEntry [] t) ∧
    (s.up 4 = false ∨ s.twin.partner = none ∨ (∃ p ∈ [3, 4, 5], s.twin.partner = some p) →
      ∃ t, exec (.roleStepDown r) s = .next t ∧ t.e 0x3600 1 = 1 ∧
        t.twin = { s.twin with
          swapAt := none, words := [], copies := [], anchorDue := [], swapped := false
          items := s.twin.items.filter (fun p => decide (p.1 ≤ s.twinSent)) } ∧
        (∀ g, g < s.groupCount → (t.xport g).on = false ∧ t.e (0x2600 + g) 9 = s.e (0x2600 + g) 9) ∧
        (∀ n ∈ Tbl.keys s.streams, (t.stream n).openBlk = none ∧ (t.stream n).closed = []) ∧
        (∀ w ∈ t.hop.waiting, w.granted = false) ∧
        answered r 0x3600 3 (toBytes 1 3) 0 t ∧ t.groups = s.groups ∧ t.hop.queues = s.hop.queues ∧ t.gov = s.gov))

/-- R357, R359, R362 to R367, R369, R372: what the T port brings in. A heartbeat tells of the partner, and may complete a
pairing or a planned swap, or end a ready pair; a standby answers it. A ready standby, and only it, takes raw words and
anchors: an anchor tells where the words of a group count from, the first of a run starts the group's Millstones, and a
word of a sample becomes its channel's record; it commits its own block on a COMMIT that names it by kind, length and
check and confirms it, else leaves the pair with DIGEST_MISMATCH; it takes dropped blocks out, takes over at RELINQUISH,
notes a swap instant, starts and stops with its active. A standby that is being paired, while R362 holds, gives up its
Hopper, takes copied records, and is ready when its commit points agree; STOP with target 0 ends an idle pair. Records of
the active are written verbatim and confirmed; the active frees what both released and sends what was confirmed. An
Unplaced hub takes nothing of this.

Model's choices on which this rests: log entries 38, 39, 41. -/
def Obligations.TwinReceives : Prop :=
  (∀ (s : State) (h : HeartbeatItem), s.isUp = true → s.up 4 = true → s.e 0x3500 1 ≠ 2 →
    ∃ t, exec (.heartbeat h) s = .next t ∧ t.twin.partner = some h.role.toNat ∧ t.twin.partnerStatus = h.status.toNat ∧
      t.twin.heard = some s.gov.ticks ∧ t.twin.silent = false ∧ t.twin.product = some h.product.toNat ∧
      t.twin.energy = some h.energyClass.toNat ∧ t.twin.partnerIdle = h.idle ∧
      t.e 0x3600 0x0B = h.digest.toNat ∧ t.flagged 0x3600 2 0 = false ∧ t.flagged 0x3600 2 1 = false ∧
      t.flagged 0x3600 2 4 = decide (h.digest.toNat ≠ s.configDigest) ∧
      (let paired := s.twin.ended = true ∧ s.running 0x40 = true ∧ h.role.toNat = 3
       let swapped := s.role = 5 ∧ s.twin.swapped = true ∧ h.role.toNat = 3
       t.e 0x3600 1 = (if paired ∨ swapped then 4 else if s.feeds = true ∧ (h.role.toNat = 1 ∨ h.role.toNat = 2) then 5 else s.role) ∧
       (paired → Ended s t 0x40 3 ∧ t.e 0x1440 6 = 0)) ∧
      t.twin.hbSeq = (if t.listening = true then wrap16 (s.twin.hbSeq + 1) else s.twin.hbSeq) ∧
      Entries s t (fun i j => entriesOf 0x3600 [1, 2, 0x0B] i j ∨ opEntry 0x40 i j ∨ logEntry i j) ∧
      Kept s t [.dict, .twin, .leat, .log]) ∧
  (∀ s : State, s.isUp = true → s.role ≠ 0 → s.up 4 = true → s.e 0x3500 1 ≠ 2 →
    (let u7 := taken s 7
     let u8 := taken s 8
     let u9 := taken s 9
     (∀ words : List (BitVec 64),
       (s.role ≠ 3 → exec (.twinRaw words) s = .next u7) ∧
       (s.role = 3 → exec (.twinRaw words) s =
         .next ((words.map BitVec.toNat).foldl State.twinWord (if s.power.trans = .start ∧ words ≠ [] then u7.planBegins else u7)))) ∧
     (∀ a hi lo : BitVec 64, s.role = 3 → s.power.trans ≠ .start → s.twin.anchorIn = none → field a.toNat 40 3 = 3 →
       (let g := field a.toNat 55 9
        let x := ofTime96 (hi.toNat % 2 ^ 32 * 2 ^ 64 + lo.toNat)
        let had := s.twin.anchors.lookup g
        ∃ t, exec (.twinRaw [a, hi, lo]) s = .next t ∧ t.twin.anchorIn = none ∧ t.twin.anchors = Tbl.put s.twin.anchors g x ∧
          t.twin.lastRot = Tbl.drop s.twin.lastRot g ∧ t.twin.lastEntry = Tbl.drop s.twin.lastEntry g ∧
          (had ≠ none ∨ s.twin.seam = none → ∀ c ∈ s.convertedOf g, Tbl.get 0 t.twin.convs c = 0) ∧
          (had = none → s.twin.seam = none → ∀ c ∈ s.convertedOf g, (t.mill c).running = true) ∧
          (∀ y, had = some y → (s.trigger g ≠ 0 → s.e (0x2700 + g) 0x24 ≠ 1) → (s.trigger g = 0 → s.contiguous g y x = true) →
            Kept s t [.leat, .twin]))) ∧
     (∀ w : BitVec 64, s.role = 3 → s.power.trans ≠ .start → s.twin.anchorIn = none → field w.toNat 40 3 = 0 →
       (let c := field w.toNat 55 9
        let entry := field w.toNat 51 4
        let k := nextConv (Tbl.get 0 s.twin.convs c) (max 1 (s.convOffsets c).length) (s.convIndex c entry (bit w.toNat 50))
        let at_ := s.convInstant c k
        ∃ t, exec (.twinRaw [w]) s = .next t ∧ t.twin.lastWord.lookup (grp c) = some at_ ∧ Tbl.get 0 t.twin.convs c = k + 1 ∧
          ((s.mill c).running = true → (t.mill c).lastRaw = some ⟨c, entry, bit w.toNat 50, bit w.toNat 49, field w.toNat 46 3,
            field w.toNat 43 3, false, signed 18 (field w.toNat 21 18), at_ + (field w.toNat 0 18 : Nat), at_,
            bit w.toNat 39, []⟩))) ∧
     (∀ m : CommitItem,
       (s.role ≠ 3 → exec (.commit m) s = .next u8) ∧
       (s.role = 3 → s.matching m = none → m.check = 0 → exec (.commit m) s = .next u8) ∧
       (s.role = 3 → (s.matching m = none ∧ m.check ≠ 0 ∧ s.planState = 1) ∨
           (s.matching m ≠ none ∧ wrap32 (s.hq m.queue).commit ≠ m.record.toNat) →
         ∃ t, exec (.commit m) s = .next t ∧ t.e 0x3600 1 = 1 ∧ t.flagged 0x3600 2 3 = true ∧
           t.e 0x3600 9 = sat32 (s.e 0x3600 9 + 1) ∧
           Entries s t (fun i j => entriesOf 0x3600 [1, 2, 9] i j ∨ logEntry i j) ∧ Kept s t [.dict, .leat, .log]) ∧
       (∀ (n : Nat) (b : Block) (r : Rec), s.role = 3 → s.matching m = some (n, b, r) →
         wrap32 (s.hq m.queue).commit = m.record.toNat → s.yStreams = [] → (s.stream n).stopAt = none →
         (r.kind = m.kind.toNat ∧ r.bytes.length = m.length.toNat ∧ r.check = m.check.toNat) ∧
         ∃ (t : State) (y : Rec), exec (.commit m) s = .next t ∧ (t.hq m.queue).recs = (s.hq m.queue).recs ++ [y] ∧
           asCommitted r y ∧ (∀ k, k ≠ m.queue.val → t.hq k = s.hq k) ∧ (t.stream n).closed = (s.stream n).closed.drop 1 ∧
           t.twin = { s.twin with items := s.twin.items ++ [confirmItem m.queue.val m.record.toNat] } ∧
           Kept s t [.dict, .leat, .hop, .streams, .twin])) ∧
     (∀ (q : Fin 8) (record : BitVec 32),
       (let pos := (s.hq q).position record.toNat + 1
        exec (.confirm q record) s = .next (if s.mirrors = true ∧ pos ≤ (s.hq q).commit
          then { u8 with twin := { s.twin with confirmed := Tbl.set 0 s.twin.confirmed q (max pos (Tbl.get 0 s.twin.confirmed q)) } }
          else u8))) ∧
     (∀ (q : Fin 8) (b : List Byte),
       (s.role = 2 ∨ s.role = 3 → (s.role = 3 → ofBytes (b.take 1) = 0x11 → s.planState = 1) →
         ∃ (t : State) (y : Rec), exec (.record q b) s = .next t ∧
         (t.hq q).recs = (s.hq q).recs ++ [y] ∧ asCommitted (s.recordOf b) y ∧ (∀ k, k ≠ q.val → t.hq k = s.hq k) ∧
         t.twin = { s.twin with items := s.twin.items ++ [confirmItem q.val (wrap32 (s.hq q).commit)] } ∧
         (s.role = 2 ∨ ofBytes (b.take 1) ≠ 0x10 → t.streams = s.streams) ∧
         Entries s t (fun i j => entriesOf 0x3300 [3, 7, 8] i j ∨ entry 0x3400 0x0A i j) ∧
         Kept s t [.dict, .leat, .hop, .streams, .twin]) ∧
       (s.role ≠ 2 → s.role ≠ 3 → exec (.record q b) s = .next u8)) ∧
     (∀ m : CreditMsg, roomOnly s → ∃ t, exec (.twinCredit m) s = .next t ∧ credited s t m ∧ t.leat = u8.leat ∧
       Kept s t [.dict, .leat, .hop]) ∧
     (∀ (n : Fin 16384) (first : BitVec 32),
       (¬(s.role = 3 ∧ (s.streams.lookup n.val).isSome) → exec (.drop n first) s = .next u8) ∧
       (s.role = 3 → (s.streams.lookup n.val).isSome → ∃ t, exec (.drop n first) s = .next t ∧
         (let x := s.stream n
          let named := (x.closed ++ x.openBlk.toList).filter (fun b => decide (b.first = first.toNat))
          t.stream n = { x with
            closed := x.closed.filter (fun b => !decide (b.first = first.toNat))
            openBlk := x.openBlk.filter (fun b => !decide (b.first = first.toNat)) } ∧
          (∀ k, k ≠ n.val → t.stream k = s.stream k) ∧ (named = [] → t.hop = s.hop) ∧
          (∀ b, named = [b] → s.hop.gaps.lookup n.val = none → 0 < b.outs.length → b.outs.length < 0xFFFFFFFF →
            ∃ g : Gap, t.hop.gaps.lookup n.val = some g ∧ g.reason = (if s.classY n then 2 else 1) ∧ g.first = first.toNat ∧
              g.count = b.outs.length) ∧
          t.hop.queues = s.hop.queues ∧ Kept s t [.leat, .hop, .streams]))) ∧
     (∀ cause : BitVec 8,
       (s.role ≠ 3 → exec (.relinquish cause) s = .next u9) ∧
       (s.role = 3 → ∃ t, exec (.relinquish cause) s = .next t ∧ t.e 0x3600 1 = 5 ∧ t.e 0x3600 4 = sat32 (s.e 0x3600 4 + 1) ∧
         t.e 0x3600 5 = toTime96 s.now ∧ t.e 0x3600 6 = 2 ∧ t.flagged 0x3600 2 7 = true ∧ t.e 0x3500 7 = s.e 0x3500 6 ∧
         t.twin.swapAt = none ∧ t.gov = s.gov ∧ t.svc = s.svc)) ∧
     (∀ x : BitVec 96, exec (.swapAt x) s = .next (if s.role = 3
       then { u9 with twin := { s.twin with swapAt := some (ofTime96 x.toNat) } }
       else if s.role = 4 ∧ s.twin.swapAt = none then u9.planSwap else u9)) ∧
     (∀ x : BitVec 96,
       (s.role = 3 → s.powerState = 0 → s.planState = 0 → ∃ t, exec (.twinRun x) s = .next t ∧ t.e 0x2790 3 = x.toNat ∧
         t.e 0x1200 2 = 1 ∧ t.power = { s.power with trans := .start } ∧
         Entries s t (fun i j => entry 0x2790 3 i j ∨ entry 0x1200 2 i j) ∧ Kept s t [.dict, .power, .leat]) ∧
       (¬(s.role = 3 ∧ s.powerState = 0 ∧ s.planState = 0) → exec (.twinRun x) s = .next u9)) ∧
     (∀ v : BitVec 8,
       (let dropped := v = 0 ∧ (s.role = 2 ∨
          (s.role = 3 ∧ s.powerState = 0 ∧ s.twin.partner = some 5 ∧ s.twin.seam = none))
        (dropped → ∃ t, exec (.twinStop v) s = .next t ∧ t.e 0x3600 1 = 1 ∧ t.hop = { Hop.reset 1 with restartDue := none } ∧
          t.twin = { s.twin with parts := [], based := [] } ∧ Entries s t (entry 0x3600 1) ∧ Kept s t [.dict, .leat, .hop, .twin]) ∧
        (¬dropped → s.role ≠ 3 ∨ (v = 0 ∧ s.powerState = 0) ∨ (v = 2 ∧ s.powerState = 2) ∨ v = 1 ∨ 3 < v.toNat ∨
            (v = 3 ∧ s.powerState ≠ 0 ∧ s.powerState ≠ 2) →
          exec (.twinStop v) s = .next u9) ∧
        (s.role = 3 → v = 0 → s.powerState = 2 → ∃ t, exec (.twinStop v) s = .next t ∧ t.e 0x1200 2 = 0 ∧ t.power.trans = .none) ∧
        (s.role = 3 → v = 0 → s.powerState = 1 → s.planState = 1 → s.usedGroups ≠ [] → ∃ t, exec (.twinStop v) s = .next t ∧
          t.e 0x1200 2 = 4 ∧ t.power.trans = .toIdle ∧ t.e 0x2790 1 = 2 ∧ ∀ g ∈ s.usedGroups, (t.group g).stopping = true) ∧
        (s.role = 3 → v = 2 → s.powerState ≠ 2 → s.planState = 0 → ∃ t, exec (.twinStop v) s = .next t ∧ t.e 0x1200 2 = 2 ∧
          t.power.trans = .none ∧ ∀ g, g < s.groupCount → (t.xport g).on = false) ∧
        (s.role = 3 → v = 3 → s.powerState = 0 ∨ s.powerState = 2 → ∃ t, exec (.twinStop v) s = .next t ∧ t.e 0x1200 2 = 3 ∧
          t.power.phase = .dormant ∧ t.safeOn = false ∧ ∀ g, g < s.groupCount → (t.xport g).on = false))) ∧
     (∀ (total : BitVec 32) (queues : BitVec 16),
       (let may := (s.role = 1 ∨ s.role = 2) ∧ s.mayPair = true
        (may → ∃ t, exec (.pairBegin total queues) s = .next t ∧ t.e 0x3600 1 = 2 ∧
          t.hop = { Hop.reset 1 with restartDue := none } ∧ t.twin = { s.twin with parts := [], based := [] } ∧
          Entries s t (entry 0x3600 1) ∧ Kept s t [.dict, .leat, .hop, .twin]) ∧
        (¬may → exec (.pairBegin total queues) s = .next u9))) ∧
     (s.mayPair = true ↔ s.powerState = 0 ∧ s.twin.partnerIdle = true ∧ s.flagged 0x3600 2 4 = false ∧
       s.twin.product = some (if s.pins.mb then 2 else 1) ∧ s.twin.energy = some (s.e 0x2690 1)) ∧
     (∀ (q : Fin 8) (record : BitVec 32) (offset : BitVec 16) (b : List Byte),
       (let all := (if offset = 0 then [] else Tbl.get [] s.twin.parts q) ++ b
        (s.role ≠ 2 → s.role ≠ 3 → exec (.copy q record offset b) s = .next u9) ∧
        (s.role = 2 ∨ s.role = 3 → (∀ n, recordLength all = some n → all.length < n) →
          ∃ t, exec (.copy q record offset b) s = .next t ∧
            Tbl.get [] t.twin.parts q = all ∧ t.hop = s.hop ∧ Kept s t [.leat, .twin]) ∧
        (∀ n, recordLength all = some n → n ≤ all.length →
          (s.role = 2 → q.val ∉ s.twin.based → (s.hq q).recs = [] →
            ∃ (t : State) (y : Rec), exec (.copy q record offset b) s = .next t ∧ (t.hq q).recs = [y] ∧
              asCommitted (s.recordOf (all.take n)) y ∧ (t.hq q).release = record.toNat ∧ q.val ∈ t.twin.based ∧
              Tbl.get [] t.twin.parts q = [] ∧ (∀ k, k ≠ q.val → t.hq k = s.hq k) ∧ Kept s t [.dict, .leat, .hop, .twin]) ∧
          (s.role = 3 ∨ (s.role = 2 ∧ q.val ∈ s.twin.based) → wrap32 (s.hq q).commit = record.toNat →
            ∃ (t : State) (y : Rec), exec (.copy q record offset b) s = .next t ∧ (t.hq q).recs = (s.hq q).recs ++ [y] ∧
              asCommitted (s.recordOf (all.take n)) y ∧ (t.hq q).release = (s.hq q).release ∧ Tbl.get [] t.twin.parts q = [] ∧
              t.twin.items = (if s.role = 3 then s.twin.items ++ [confirmItem q.val record.toNat] else s.twin.items) ∧
              (∀ k, k ≠ q.val → t.hq k = s.hq k) ∧ Kept s t [.dict, .leat, .hop, .twin]) ∧
          (s.role = 3 ∨ (s.role = 2 ∧ q.val ∈ s.twin.based) → wrap32 (s.hq q).commit ≠ record.toNat →
            ∃ t, exec (.copy q record offset b) s = .next t ∧ t.hop = s.hop ∧ Tbl.get [] t.twin.parts q = [] ∧
              Kept s t [.leat, .twin])))) ∧
     (∀ points : Vector (BitVec 32) 8,
       (s.role ≠ 2 ∨ s.mayPair = false → exec (.pairEnd points) s = .next u9) ∧
       (s.role = 2 → s.mayPair = true → (∀ q, q < 8 → q ∉ s.twin.based → (s.hq q).recs = []) →
         ∃ t, exec (.pairEnd points) s = .next t ∧
         (let p := fun (q : Nat) => (points.toList.getD q 0).toNat
          let ready := ∀ q ∈ List.range 8, q ∉ s.twin.based ∨ wrap32 (s.hq q).commit = p q
          (∀ q, q < 8 → q ∉ s.twin.based → (t.hq q).recs = [] ∧ (t.hq q).commit = p q) ∧
          (∀ q, q < 8 → q ∈ s.twin.based → (t.hq q).commit = (s.hq q).commit ∧ (t.hq q).read = (s.hq q).read) ∧
          (ready → t.e 0x3600 1 = 3 ∧ t.twin.parts = [] ∧ t.twin.hbSeq = wrap16 (s.twin.hbSeq + 1)) ∧
          (¬ready → t.e 0x3600 1 = 2) ∧
          Entries s t (entry 0x3600 1) ∧ Kept s t [.dict, .leat, .hop, .twin])))))

/-- R354, R355, R359, R369 to R372, R375, R456: what a member does by itself. An active one sends a heartbeat every 10 µs;
100 µs without one make a ready standby take over, a pairing one give up, an active give TWIN_PAIR up and a paired active
step down; at the swap instant the two change places, and the hours since a planned swap begin again; a role is taken after
the wait; PARTNER_HELD or PARTNER_LOST follow 2 s of silence, and PROOF_DUE the proof interval; a deferred port whose
enable passes comes on, and a standby performs the twin-commanded reset, once its plan has stopped.

Model's choices on which this rests: log entries 39 to 41. -/
def Obligations.TwinActs : Prop :=
  ∀ s : State, s.isUp = true →
    (s.heartbeatDue = false → exec .heartbeatSend s = .next s) ∧
    (s.heartbeatDue = true → exec .heartbeatSend s = .next { s with twin := { s.twin with
      hbSeq := wrap16 (s.twin.hbSeq + 1), sentAt := some s.gov.ticks
      items := s.twin.items ++ [(0, twinItem 1 12 (toBytes 1 s.role ++ zeros 1 ++ toBytes 2 (s.e 0x3600 2) ++
        toBytes 4 s.configDigest ++ toBytes 2 s.twin.hbSeq))] } }) ∧
    (s.role = 0 ∨ s.silence = false → exec .heartbeatSilence s = .next s) ∧
    (s.role ≠ 0 → s.silence = true → ∃ t, exec .heartbeatSilence s = .next t ∧ t.twin.silent = true ∧
      t.e 0x3600 0x0C = sat32 (s.e 0x3600 0x0C + 1) ∧
      t.e 0x3600 1 = (if s.role = 3 then 5 else if s.role = 2 ∨ s.role = 4 then 1 else s.role) ∧
      (s.pairing = true → Ended s t 0x40 5 ∧ t.e 0x1440 7 = 3) ∧
      (s.role = 3 → t.e 0x3600 6 = 1 ∧ t.e 0x3600 5 = toTime96 s.now ∧ t.e 0x3500 7 = s.e 0x3500 6) ∧
      (s.role = 2 → t.hop = { Hop.reset 1 with restartDue := none }) ∧
      (s.role = 4 → ∀ g, g < s.groupCount → (t.xport g).on = false)) ∧
    (∀ x : Int, s.role ≠ 0 → s.twin.swapAt = some x →
      (s.now < x → exec .swapInstant s = .next s) ∧
      (x ≤ s.now → ∃ t, exec .swapInstant s = .next t ∧ t.twin.swapAt = none ∧
        t.e 0x3600 1 = (if s.role = 4 then 3 else if s.role = 3 then 5 else s.role) ∧
        (s.role = 3 ∨ s.role = 4 → t.e 0x3600 7 = 0 ∧ t.gov.hourTick = s.gov.ticks ∧ t.flagged 0x3600 2 5 = false) ∧
        (s.role = 3 → t.e 0x3600 6 = 3) ∧ (s.role = 4 → ∀ g, g < s.groupCount → (t.xport g).on = false))) ∧
    (s.roleReady = true → ∃ t, exec .roleWaitExpiry s = .next t ∧ t.twin = { s.twin with roleWait := none } ∧
      t.e 0x3600 1 = (if s.twin.partner = some 4 ∨ s.twin.partner = some 5 then 1
        else if s.up 4 = true ∧ s.pins.twinB = true then 1 else 5) ∧
      (t.flagged 0x3600 2 1 = true ↔ s.flagged 0x3600 2 1 = true ∨
        (s.twin.partner ≠ some 4 ∧ s.twin.partner ≠ some 5 ∧ s.up 4 = false)) ∧
      Entries s t (entriesOf 0x3600 [1, 2]) ∧ Kept s t [.dict, .twin]) ∧
    (s.partnerGone = false → exec .partnerHeld s = .next s) ∧
    (s.partnerGone = true → ∃ t, exec .partnerHeld s = .next t ∧ t.flagged 0x3600 2 (if s.up 4 then 0 else 1) = true ∧
      Entries s t (entry 0x3600 2) ∧ Kept s t [.dict]) ∧
    (∀ g : Fin 128,
      (let u := s.setXport g { s.xport g with deferred := false }
       ((s.xport g).deferred = false → exec (.excitationDeferredEnable g) s = .next s) ∧
       ((s.xport g).deferred = true → ∃ t, exec (.excitationDeferredEnable g) s = .next t ∧ (t.xport g).deferred = false ∧
         (s.e (0x2600 + g) 9 ≠ 0 → (s.xport g).waitRun = false → u.enableTest g = none → (t.xport g).on = true) ∧
         (∀ h, h ≠ g.val → t.xport h = s.xport h) ∧
         ((∀ h ∈ s.allPorts, h ≠ g.val → (s.xport h).deferred = false) → t.flagged 0x3600 2 6 = false)))) ∧
    (let hours := sat32 (s.e 0x3600 7 + (s.gov.ticks - s.gov.hourTick) / 1440000000000)
     (s.role = 0 ∨ hours < s.e 0x3600 8 → exec (.proofDue ()) s = .next s) ∧
     (s.role ≠ 0 → s.e 0x3600 8 ≤ hours → ∃ t, exec (.proofDue ()) s = .next t ∧ t.flagged 0x3600 2 5 = true ∧
       Entries s t (entry 0x3600 2) ∧ Kept s t [.dict])) ∧
    (s.listening = false → exec .twrstN s = .next s) ∧
    (s.listening = true → s.planState = 0 → ∃ t, exec .twrstN s = .next t ∧ t.e 0x1200 5 = 5 ∧ t.e 0x1200 2 = 0 ∧
      t.e 0x3600 1 = 1 ∧ t.hop = { Hop.reset 1 with restartDue := none } ∧ t.svc = Svc.reset ∧ t.streams = [] ∧ t.safeOn = true ∧
      t.gov.ticks = s.gov.ticks ∧ t.power.trans = .none) ∧
    (s.listening = true → s.planState = 1 → s.usedGroups ≠ [] → ∃ t, exec .twrstN s = .next t ∧ t.e 0x1200 2 = 4 ∧
      t.power.trans = .warm true ∧ t.e 0x2790 1 = 2 ∧ ∀ g ∈ s.usedGroups, (t.group g).stopping = true)

/-! ### Safety functions and Scrim -/

/-- R386, R391: an acknowledge of a safety input or of a trip waits for the safety tick that applies it, with its answer
owed; a second one is refused with 0x04000004. R402, R404, R406: an enable, or a Reset of an enabled connection, begins
it anew: OPENING where it consumes, sequence 0 where it produces.

Model's choices on which this rests: log entry 42. -/
def Obligations.SafetyCommands : Prop :=
  (∀ (s : State) (r : Req) (k : Fin 16) (v : BitVec 8), accepted s r (0x3800 + k) 6 (toBytes 1 v.toNat) = true →
    ((s.input k).ack = none → ∃ t, exec (.inputAcknowledge r k v) s = .next t ∧
      t.input k = { s.input k with ack := some r.txn.toNat } ∧ (∀ i, i ≠ k.val → t.input i = s.input i) ∧
      owed s r (0x3800 + k) 6 (toBytes 1 v.toNat) t ∧ Entries s t (entry 0x1300 1) ∧ Kept s t [.dict, .svc, .leat, .inputs]) ∧
    ((s.input k).ack ≠ none → ∃ t, exec (.inputAcknowledge r k v) s = .next t ∧
      Answers s r (0x3800 + k) 6 (toBytes 1 v.toNat) 0x04000004 noEntry [] t)) ∧
  (∀ (s : State) (r : Req) (n : Fin 8) (v : BitVec 8), accepted s r (0x3820 + n) 0x0B (toBytes 1 v.toNat) = true →
    ((s.trip n).ack = none → ∃ t, exec (.tripAcknowledge r n v) s = .next t ∧
      t.trip n = { s.trip n with ack := some r.txn.toNat } ∧ (∀ i, i ≠ n.val → t.trip i = s.trip i) ∧
      owed s r (0x3820 + n) 0x0B (toBytes 1 v.toNat) t ∧ Entries s t (entry 0x1300 1) ∧ Kept s t [.dict, .svc, .leat, .trips]) ∧
    ((s.trip n).ack ≠ none → ∃ t, exec (.tripAcknowledge r n v) s = .next t ∧
      Answers s r (0x3820 + n) 0x0B (toBytes 1 v.toNat) 0x04000004 noEntry [] t)) ∧
  (∀ (s : State) (r : Req) (k : Fin 64) (v : BitVec 8),
    (let i := 0x3B00 + k.val
     (accepted s r i 1 (toBytes 1 v.toNat) = true → ∃ t, exec (.connectionEnableWrite r k v) s = .next t ∧ t.e i 1 = v.toNat ∧
       t.scrim k = ScrimRun.reset ∧ (∀ j, j ≠ k.val → t.scrim j = s.scrim j) ∧ t.e i 8 = (if v = 1 ∧ s.e i 2 = 0 then 1 else 0) ∧
       Answers s r i 1 (toBytes 1 v.toNat) 0 (fun a b => entriesOf i [1, 8] a b ∨ reactionEntry a b) [.scrims] t) ∧
     (accepted s r i 0x0B (toBytes 1 v.toNat) = true →
       (s.e i 1 = 1 → ∃ t, exec (.scrimReset r k v) s = .next t ∧ t.scrim k = ScrimRun.reset ∧ (∀ j, j ≠ k.val → t.scrim j = s.scrim j) ∧
         t.e i 8 = (if s.e i 2 = 0 then 1 else 0) ∧
         Answers s r i 0x0B (toBytes 1 v.toNat) 0 (fun a b => entry i 8 a b ∨ reactionEntry a b) [.scrims] t) ∧
       (s.e i 1 ≠ 1 → ∃ t, exec (.scrimReset r k v) s = .next t ∧
         Answers s r i 0x0B (toBytes 1 v.toNat) 0 reactionEntry [] t))))

/-- R379, R381 to R384, R386, R390, R391, R393, R394: a safety tick, every 10 µs. Each input takes its pins, accepts a
level that has stood for its debounce time, and reads safe unless both channels are healthy and no discrepancy is
latched; each enabled trip that demands leaves HEALTHY with both pins low, each that no longer demands is HEALTHY again
unless it waits for an acknowledge or its readback differs; a disabled one reads TRIPPED.

Model's choices on which this rests: log entries 42, 43. -/
def Obligations.SafetyTicks : Prop :=
  ∀ (s : State) (p : SafetyPins) (mismatch : Bool), s.isUp = true → s.safeOn = true →
    ∃ t, exec (.safetyTick p mismatch) s = .next t ∧ t.safeTicks = s.safeTicks + 1 ∧
      t.pins.sia = p.sia.toNat ∧ t.pins.sib = p.sib.toNat ∧ t.pins.tfa = p.tfa.toNat ∧ t.pins.tfb = p.tfb.toNat ∧
      (∀ i, i < 16 →
        (let k := 0x3800 + i
         let x := s.input i
         let a := bit p.sia.toNat i
         let b := bit p.sib.toNat i
         (t.input i).levelA = a ∧ (t.input i).levelB = b ∧ (t.input i).ack = none ∧
         (t.input i).ticksA = (if x.levelA = a then x.ticksA + 1 else 1) ∧
         (t.input i).ticksB = (if x.levelB = b then x.ticksB + 1 else 1) ∧
         t.flagged k 5 0 = (if s.e k 2 ≤ (t.input i).ticksA then a else s.flagged k 5 0) ∧
         t.flagged k 5 1 = (if s.e k 1 ≠ 3 ∧ s.e k 2 ≤ (t.input i).ticksB then b else s.flagged k 5 1) ∧
         t.flagged k 5 2 = t.disagrees i ∧ (t.input i).disagree = (if t.disagrees i then x.disagree + 1 else 0) ∧
         (x.ack = none → t.flagged k 5 3 =
           (s.flagged k 5 3 || (t.disagrees i && decide (100 * s.e k 3 ≤ (t.input i).disagree)))) ∧
         t.e k 4 = (if t.inputReads i then 1 else 0))) ∧
      (mismatch = true → t.flagged 0x3810 4 3 = true ∧
        t.e 0x3810 5 = (if s.flagged 0x3810 4 3 then s.e 0x3810 5 else sat32 (s.e 0x3810 5 + 1))) ∧
      (mismatch = false → t.e 0x3810 4 = s.e 0x3810 4 ∧ t.e 0x3810 5 = s.e 0x3810 5) ∧
      (∀ n, n < 8 → t.flagged (0x3820 + n) 0x0A 0 = t.demands n ∧ (t.trip n).ack = none ∧
        (s.tripOn n = false → t.tripState n = 1 ∧ bit t.pins.toa n = false ∧ bit t.pins.tob n = false) ∧
        (s.tripOn n = true → t.demands n = true → (s.trip n).parked = false →
          t.tripState n ≠ 0 ∧ bit t.pins.toa n = false ∧ bit t.pins.tob n = false) ∧
        (s.tripOn n = true → t.demands n = false → s.tripState n = 1 → (s.trip n).parked = false →
          t.tripState n = 0 ∨ t.tripState n = 3) ∧
        (t.tripState n ≠ 0 → bit t.pins.toa n = false ∧ bit t.pins.tob n = false)) ∧
      Kept s t [.dict, .inputs, .cmps, .trips, .safeTicks, .pins, .svc, .leat]

/-- R390: a trip demands at a tick when at least V of its used terms read 0, and when V exceeds their number; the seal
faults, SAFETY_FAULT and TICK_OVERRUN demand every trip, and while one is set every trip acknowledge is refused. -/
def Obligations.TripsDemand : Prop :=
  ∀ (s : State) (p : SafetyPins) (mismatch : Bool), s.isUp = true → s.safeOn = true →
    ∃ t, exec (.safetyTick p mismatch) s = .next t ∧ ∀ n, n < 8 →
      (let used := (List.range 32).filterMap (fun i => t.term (t.e (0x3820 + n) (0x10 + i)))
       let v := t.e (0x3820 + n) 2
       let faulted := ∃ i ∈ [1, 2, 3, 4], t.flagged 0x3810 4 i = true
       (t.flagged (0x3820 + n) 0x0A 0 = true ↔ v ≤ (used.filter (fun b => b == false)).length ∨ used.length < v ∨ faulted) ∧
       (∀ (txn : Nat) (x : Txn), faulted → (s.trip n).ack = some txn → s.svc.txns.lookup txn = some x → x.xfer = .executing →
         (∀ i, i < 16 → (s.input i).ack = none) → (∀ m, m < 8 → m ≠ n → (s.trip m).ack = none) →
         t.svc.stored.head? = some (txn, x.req, serviceBytes 0xFF txn x.idx x.sub false false 4 (toBytes 4 0x05000006)) ∧
         ((s.trip n).parked = false → t.e (0x3820 + n) 9 ≠ 0)))

/-- R379, R382 to R384, R388, R393, R394: the single events of a tick. A debounced level is accepted and the input
follows; a discrepancy that lasted is latched and counted; a readback that differs puts the trip into FAULT; an overrun
drives every trip pin low; a test pulse takes its pin low on a HEALTHY trip; a comparator whose tap is stale or was
invalid too long reads 0.

Model's choices on which this rests: log entries 42, 43. -/
def Obligations.SafetyEvents : Prop :=
  (∀ (s : State) (i : Fin 16) (chB : Bool), s.isUp = true → s.safeOn = true →
    (let k := 0x3800 + i.val
     let ticks := if chB then (s.input i).ticksB else (s.input i).ticksA
     let j := if chB then 1 else 0
     ∃ t, exec (.debounceAccept i chB) s = .next t ∧
       t.flagged k 5 j = (if 0 < ticks ∧ s.e k 2 ≤ ticks ∧ ¬(chB = true ∧ s.e k 1 = 3)
         then (if chB then (s.input i).levelB else (s.input i).levelA) else s.flagged k 5 j) ∧
       (∀ b, b ≠ j → t.flagged k 5 b = s.flagged k 5 b) ∧ t.e k 4 = (if t.inputReads i then 1 else 0) ∧
       Entries s t (entriesOf k [4, 5]) ∧ Kept s t [.dict])) ∧
  (∀ (s : State) (i : Fin 16), s.isUp = true → s.safeOn = true →
    (let k := 0x3800 + i.val
     let due := s.disagrees i = true ∧ 100 * s.e k 3 ≤ (s.input i).disagree ∧ s.flagged k 5 3 = false
     ∃ t, exec (.discrepancyFault i) s = .next t ∧
       t.flagged k 5 3 = (s.flagged k 5 3 || decide due) ∧ t.e k 7 = (if due then sat32 (s.e k 7 + 1) else s.e k 7) ∧
       t.e k 4 = (if t.inputReads i then 1 else 0) ∧ (due → t.e k 4 = 0) ∧
       Entries s t (entriesOf k [4, 5, 7]) ∧ Kept s t [.dict])) ∧
  (∀ (s : State) (n : Fin 8) (chB : Bool), s.isUp = true → s.safeOn = true →
    (let k := 0x3820 + n.val
     (s.readbackDiffers n chB = true → ∃ t, exec (.readbackFault n chB) s = .next t ∧ t.tripState n = 3 ∧
       t.flagged k 0x0A (if chB then 2 else 1) = true ∧
       (s.tripState n ≠ 3 → bit t.pins.toa n = false ∧ bit t.pins.tob n = false ∧ t.e k 0x0D = toTime96 s.now ∧
         t.e k 0x0C = (if s.tripState n = 0 then sat32 (s.e k 0x0C + 1) else s.e k 0x0C)) ∧
       Entries s t (entriesOf k [9, 0x0A, 0x0C, 0x0D]) ∧ Kept s t [.dict, .trips, .pins]) ∧
     (s.pulseDue n chB = true → ∃ t, exec (.testPulse n chB) s = .next t ∧
       bit t.pins.toa n = t.pinLevel n false ∧ bit t.pins.tob n = t.pinLevel n true ∧
       (s.pulses = true → s.tripOn n = true → s.tripState n = 0 → (if chB then (s.trip n).pulseB else (s.trip n).pulseA) = none →
         t.flagged k 0x0A 3 = true ∧ (if chB then (t.trip n).pulseB else (t.trip n).pulseA) = some s.safeTicks ∧
         bit (if chB then t.pins.tob else t.pins.toa) n = false) ∧
       t.tripState n = s.tripState n ∧ Entries s t (entry k 0x0A) ∧ Kept s t [.dict, .trips, .pins]))) ∧
  (∀ s : State, s.isUp = true → s.safeOn = true → ∃ t, exec .tickOverrun s = .next t ∧ t.flagged 0x3810 4 4 = true ∧
    (∀ n, n < 8 → bit t.pins.toa n = false ∧ bit t.pins.tob n = false) ∧
    { t.pins with toa := 0, tob := 0 } = { s.pins with toa := 0, tob := 0 } ∧
    Entries s t (entry 0x3810 4) ∧ Kept s t [.dict, .trips, .pins]) ∧
  (∀ (s : State) (l : Fin 256) (c : Instr), s.isUp = true → s.safeOn = true → s.cmpOn l = true →
    (c = .comparatorStale l ∧ s.cmpStale l = true) ∨ (c = .comparatorInvalidHold l ∧ s.cmpInvalid l = true) →
    ∃ t, exec c s = .next t ∧ t.e (0x3A00 + l) 0x0A = (if s.e (0x3A00 + l) 0x0A = 1 then 0 else s.e (0x3A00 + l) 0x0A) ∧
      t.e (0x3A00 + l) 0x0C = (if s.e (0x3A00 + l) 0x0A = 1 then sat32 (s.e (0x3A00 + l) 0x0C + 1) else s.e (0x3A00 + l) 0x0C) ∧
      t.cmp l = { s.cmp l with inside := 0 } ∧ (∀ k, k ≠ l.val → t.cmp k = s.cmp k) ∧
      Entries s t (entriesOf (0x3A00 + l) [0x0A, 0x0C]) ∧ Kept s t [.dict, .cmps])

/-- R404 to R406: Scrim. A produce connection that is due sends its data under the next sequence with the time and the
check; a message goes to the enabled consume connections that name its connection, and is counted where there is none.
An OPEN connection accepts the next sequence when format, check and age are good, counts a repeat, and fails otherwise
with its cause; an OPENING one opens at the message after its reference; one that has accepted none for its watchdog
fails with cause 4.

Model's choices on which this rests: log entry 44. -/
def Obligations.ScrimRuns : Prop :=
  (∀ (s : State) (k : Fin 64), s.isUp = true → s.produceDue k = true →
    ∃ t, exec (.scrimProduce k) s = .next t ∧
      t.scrim k = { s.scrim k with
        seq := ((s.scrim k).seq + 1) % 65536, sentAt := some s.gov.ticks, sentData := s.produceData k } ∧
      (∀ j, j ≠ k.val → t.scrim j = s.scrim j) ∧
      (∀ h q : Nat, s.hubId = some h → s.onward s.ownSouth = some q →
        (t.port q).control = (s.port q).control ++ [⟨5, s.ownSouth, false, false, true, 0, h, 0, 0,
          scrimBytes k (s.e (0x3B00 + k) 3) (s.scrim k).seq s.now (s.produceData k)⟩] ∧
        (∀ p, p ≠ q → t.port p = s.port p) ∧ Kept s t [.scrims, .leat]) ∧
      (s.hubId = none → Kept s t [.scrims]) ∧ Entries s t (entry 0x3500 0x0C) ∧ Kept s t [.dict, .scrims, .leat]) ∧
  (∀ (s : State) (b : List Byte), s.isUp = true → s.consumes = true →
    (s.consumers (ofBytes (b.take 1)) = [] → ∃ t, exec (.scrimMessage b) s = .next t ∧ t.e 0x3810 6 = sat32 (s.e 0x3810 6 + 1) ∧
      Entries s t (entry 0x3810 6) ∧ Kept s t [.dict, .leat]) ∧
    (∀ k : Nat, s.consumers (ofBytes (b.take 1)) = [k] →
      (let i := 0x3B00 + k
       let seq := ofBytes ((b.drop 2).take 2)
       let data := (b.drop 16).take (s.e i 7)
       let follows := seq = (s.e i 0x0C + 1) % 65536
       let fault := s.scrimFault k b
       ∃ t, exec (.scrimMessage b) s = .next t ∧ (∀ j, j ≠ k → t.scrim j = s.scrim j) ∧ Kept s t [.dict, .blobs, .scrims, .leat] ∧
         (s.e i 8 = 2 → fault = none → follows → t.e i 0x0C = seq ∧ Tbl.get [] t.blobs (ekey i 0x0A) = data ∧
           t.scrim k = { s.scrim k with lastAt := some s.gov.ticks, reference := none } ∧ t.e i 8 = 2 ∧
           Entries s t (entry i 0x0C)) ∧
         (s.e i 8 = 2 → fault ≠ some 5 → fault ≠ some 1 → seq = s.e i 0x0C → t.e i 0x0E = sat32 (s.e i 0x0E + 1) ∧
           Entries s t (entry i 0x0E)) ∧
         (∀ c : Nat, s.e i 8 = 2 →
           (fault = some c ∧ (c = 5 ∨ c = 1)) ∨ (fault = some c ∧ c = 3 ∧ follows ∧ seq ≠ s.e i 0x0C) ∨
             (c = 2 ∧ fault ≠ some 5 ∧ fault ≠ some 1 ∧ seq ≠ s.e i 0x0C ∧ ¬follows) →
           t.e i 8 = 3 ∧ t.e i 9 = c ∧ t.e i 0x0D = sat32 (s.e i 0x0D + 1) ∧ t.blobs = s.blobs ∧
           Entries s t (entriesOf i [8, 9, 0x0D])) ∧
         (s.e i 8 = 1 → fault = none → (s.scrim k).reference.map (fun r => (r + 1) % 65536) = some seq →
           t.e i 8 = 2 ∧ t.e i 0x0C = seq ∧ Tbl.get [] t.blobs (ekey i 0x0A) = data) ∧
         (s.e i 8 = 1 → fault = none → (s.scrim k).reference.map (fun r => (r + 1) % 65536) ≠ some seq →
           t.scrim k = { s.scrim k with reference := some seq } ∧ Kept s t [.scrims, .leat]) ∧
         (s.e i 8 = 1 → fault ≠ none → Kept s t [.leat])))) ∧
  (∀ (s : State) (k : Fin 64), s.isUp = true → s.scrimLate k = true →
    ∃ t, exec (.scrimWatchdog k) s = .next t ∧ t.e (0x3B00 + k) 8 = 3 ∧ t.e (0x3B00 + k) 9 = 4 ∧
      t.e (0x3B00 + k) 0x0D = sat32 (s.e (0x3B00 + k) 0x0D + 1) ∧ Entries s t (entriesOf (0x3B00 + k) [8, 9, 0x0D]) ∧ Kept s t [.dict])

/-! ### Power, start, reset and rails -/

/-- R458 to R461: the Power command. One that meets a transition in progress, or a Run command that awaits PLAN_CHECK, is
refused with 0x04000004. Run writes what
its tests find, and is refused with the first of their codes, or else runs PLAN_CHECK, with its answer owed; Idle and
Still from Run make the plan stop with the rotations in progress, and Idle before the plan start instant gives the start
up; Idle from Still ends parking; Still is refused with
0x05000006 while an enabled trip has a comparator term unless Park trips is 1, and else parks those trips and switches
every port off; Dormant is refused with 0x05000006 while a queue holds a record unless Dormant discard is 1, and else
stops everything but the island: trips low, ports off, Sails empty.

R454: a warm reset that the host commands answers first, but one that waited for the end of another is refused with
0x04000004; with a plan running it waits for the rotations in progress.
With none, on a hub with no stream, it happens at once: the hub is in Idle with reset kind 4, no operation has run, and
every domain's time goes on. R456: Reset partner drives TWRQ_N low for 100 µs, and does nothing else.

Model's choices on which this rests: log entries 30, 45, 46. -/
def Obligations.PowerCommands : Prop :=
  (
  ∀ (s : State) (r : Req),
    (∀ (c : Instr) (v : Nat), (c, v) ∈ [(.idleCommand r, 0), (.runCommand r, 1), (.stillCommand r, 2), (.dormantCommand r, 3)] →
      accepted s r 0x1200 1 (toBytes 1 v) = true → s.e 0x1200 2 = 4 →
      ∃ t, exec c s = .next t ∧ Answers s r 0x1200 1 (toBytes 1 v) 0x04000004 noEntry [] t) ∧
    (∀ (c : Instr) (v txn : Nat), (c, v) ∈ [(.stillCommand r, 2), (.dormantCommand r, 3)] →
      accepted s r 0x1200 1 (toBytes 1 v) = true → s.power.trans = .check txn →
      ∃ t, exec c s = .next t ∧ Answers s r 0x1200 1 (toBytes 1 v) 0x04000004 noEntry [] t) ∧
    (accepted s r 0x1200 1 (toBytes 1 1) = true → s.e 0x1200 2 = 0 →
      (let code := (opened s r 0x1200 1 (toBytes 1 1)).runTests.1
       (code ≠ 0 → code ∈ [0x05000006, 0x05000007, 0x06000001, 0x06000002] ∧ ∃ t, exec (.runCommand r) s = .next t ∧
         Answers s r 0x1200 1 (toBytes 1 1) code (fun i j => entriesOf 0x2790 [4, 5] i j ∨ reactionEntry i j) [] t) ∧
       (code = 0 → ∃ t, exec (.runCommand r) s = .next t ∧ t.power = { s.power with trans := .check r.txn.toNat } ∧
         t.e 0x1420 2 = 1 ∧ t.e 0x1420 8 = toTime96 s.now ∧ t.e 0x2790 4 = 0xFF ∧ t.e 0x2790 5 = 0 ∧ t.e 0x1200 2 = 0 ∧
         (s.pairing = true → t.e 0x1440 2 = 5 ∧ t.e 0x1440 7 = 4) ∧ owed s r 0x1200 1 (toBytes 1 1) t ∧
         Kept s t [.dict, .svc, .leat, .power, .twin] ∧ (s.pairing = false → t.twin = s.twin)))) ∧
    (∀ (c : Instr) (v : Nat) (tr : Transition), (c = .idleCommand r ∧ v = 0 ∧ tr = .toIdle) ∨ (c = .stillCommand r ∧ v = 2 ∧ tr = .toStill) →
      accepted s r 0x1200 1 (toBytes 1 v) = true → s.e 0x1200 2 = 1 → s.runAwaited = false → s.planState = 1 →
      s.usedGroups ≠ [] → (v = 2 → ∀ n, n < 8 → s.comparatorTrip n = false) →
      ∃ t, exec c s = .next t ∧ t.power = { s.power with trans := tr } ∧ t.e 0x1200 2 = 4 ∧ t.e 0x2790 1 = 2 ∧
        (∀ g ∈ s.usedGroups, t.group g = { s.group g with stopping := true, nextStart := none, burstLeft := 0 }) ∧
        (∀ g, g ∉ s.usedGroups → t.group g = s.group g) ∧ (∀ a, a < 4 → t.grid a = Grid.reset ∧ t.e (0x2F00 + a) 0x10 = 0) ∧
        answered r 0x1200 1 (toBytes 1 v) 0 t ∧ Kept s t [.dict, .svc, .leat, .power, .groups, .grids, .tones, .flash]) ∧
    (accepted s r 0x1200 1 (toBytes 1 0) = true → s.e 0x1200 2 = 1 → s.runAwaited = false → s.planState = 0 →
      ∃ t, exec (.idleCommand r) s = .next t ∧ t.e 0x1200 2 = 0 ∧ t.e 0x2790 1 = 0 ∧ t.power.trans = .none ∧
        answered r 0x1200 1 (toBytes 1 0) 0 t) ∧
    (accepted s r 0x1200 1 (toBytes 1 0) = true → s.e 0x1200 2 = 2 → s.runAwaited = false →
      (∃ t, exec (.idleCommand r) s = .next t ∧ t.e 0x1200 2 = 0 ∧ t.power.trans = .none ∧ answered r 0x1200 1 (toBytes 1 0) 0 t ∧
        (∀ n, n < 8 → (t.trip n).parked = false ∧ ((s.trip n).parked = true → t.e (0x3820 + n) 9 = (if s.e (0x3820 + n) 3 = 1 then 2 else 1))) ∧
        (∀ n, n < 8 → t.sailRun n = { s.sailRun n with divided := 0 }) ∧
        (s.e 0x1200 7 = 1 → ∀ g, g < s.groupCount → (t.xport g).on = false))) ∧
    (accepted s r 0x1200 1 (toBytes 1 2) = true → s.e 0x1200 2 ≠ 4 → s.runAwaited = false → (∃ n, n < 8 ∧ s.comparatorTrip n = true) → s.e 0x1200 8 = 0 →
      ∃ t, exec (.stillCommand r) s = .next t ∧ Answers s r 0x1200 1 (toBytes 1 2) 0x05000006 noEntry [] t) ∧
    (accepted s r 0x1200 1 (toBytes 1 2) = true → s.e 0x1200 2 = 0 → s.runAwaited = false → s.planState = 0 →
      (∀ n, n < 8 → s.comparatorTrip n = true → s.e 0x1200 8 = 1) →
      ∃ t, exec (.stillCommand r) s = .next t ∧ t.e 0x1200 2 = 2 ∧ t.power.trans = .none ∧
        (∀ g, g < s.groupCount → (t.xport g).on = false ∧ t.e (0x2600 + g) 9 = s.e (0x2600 + g) 9) ∧
        (∀ n, n < 8 → s.comparatorTrip n = true → (t.trip n).parked = true ∧ t.e (0x3820 + n) 9 = 1 ∧
          bit t.pins.toa n = false ∧ bit t.pins.tob n = false) ∧
        answered r 0x1200 1 (toBytes 1 2) 0 t ∧
        Kept s t [.dict, .svc, .leat, .power, .chans, .xports, .trips, .pins, .grids, .tones, .flash]) ∧
    (accepted s r 0x1200 1 (toBytes 1 3) = true → s.e 0x1200 2 ≠ 4 → s.runAwaited = false →
      (s.hop.held ≠ [] → s.e 0x1200 9 = 0 → ∃ t, exec (.dormantCommand r) s = .next t ∧
        Answers s r 0x1200 1 (toBytes 1 3) 0x05000006 noEntry [] t) ∧
      (s.hop.held = [] ∨ s.e 0x1200 9 ≠ 0 → ∃ t, exec (.dormantCommand r) s = .next t ∧
        t.power = { s.power with phase := .dormant, trans := .none } ∧ t.e 0x1200 2 = 3 ∧ t.safeOn = false ∧
        t.pins.toa % 256 = 0 ∧ t.pins.tob % 256 = 0 ∧ (∀ g, g < s.groupCount → (t.xport g).on = false) ∧
        (∀ n, (t.sailRun n).queue = MarkQueue.empty) ∧ (∀ d, d < 4 → t.fine d = s.fine d) ∧ answered r 0x1200 1 (toBytes 1 3) 0 t))) ∧
  (
  (∀ (s : State) (r : Req) (v : BitVec 8), accepted s r 0x1200 3 (toBytes 1 v.toNat) = true → s.power.replay = true →
    ∃ t, exec (.warmReset r v) s = .next t ∧ Answers s r 0x1200 3 (toBytes 1 v.toNat) 0x04000004 noEntry [] t) ∧
  (∀ (s : State) (r : Req) (v : BitVec 8), accepted s r 0x1200 3 (toBytes 1 v.toNat) = true → s.power.replay = false →
    (s.planState = 1 → s.usedGroups ≠ [] → ∃ t, exec (.warmReset r v) s = .next t ∧ t.power = { s.power with trans := .warm false } ∧
      t.e 0x1200 2 = 4 ∧ t.e 0x2790 1 = 2 ∧ t.svc = Svc.reset) ∧
    (s.planState = 0 → s.streams = [] → ∃ t, exec (.warmReset r v) s = .next t ∧ t.power.trans = .none ∧ t.e 0x1200 5 = 4 ∧
      t.e 0x1200 2 = 0 ∧ t.svc = Svc.reset ∧ t.safeOn = true ∧ t.safeTicks = 0 ∧ t.log = s.log ∧
      (∀ op ∈ [0x10, 0x11, 0x12, 0x13, 0x20, 0x21, 0x30, 0x40], t.e (0x1400 + op) 2 = 0) ∧
      (∀ d, d < 4 → t.fine d = s.fine d))) ∧
  (∀ (s : State) (r : Req) (v : BitVec 8), accepted s r 0x1200 4 (toBytes 1 v.toNat) = true →
    ∃ t, exec (.resetPartner r v) s = .next t ∧ t.pins = { s.pins with twrqN := false, twrqEnd := s.gov.ticks + 40000 } ∧
      Answers s r 0x1200 4 (toBytes 1 v.toNat) 0 noEntry [.pins] t))

/-- R443, R453, R455, R457, R491, R501, R462: the resets that a start follows. A power-on reset, or a clock that goes
missing after start, leaves the hub as at power-up, but for the pins, the copies in flash and ports that discharge; a
pin reset, a watchdog expiry and a wake keep the Governor and its entries (R465) and await the start, the faults of
0x3810.04 latched over all but the pin reset (R379, R399, R401); RESET_N low and a
TAP instruction hold the hub with its trips low, its ports off and its lanes down.

Model's choices on which this rests: log entries 3, 5, 45. -/
def Obligations.HardResets : Prop :=
  ∀ s : State,
    (∀ c : Instr, c = .powerOnReset ∨ (c = .ocxoClkMissing ∧ s.power.phase ≠ .awaitPll) →
      ∃ t, exec c s = .next t ∧ t = { State.reset with
          xports := t.xports, flash := { Flash.reset with copies := s.flash.copies }, pins := t.pins
          freeCtr := s.freeCtr, pending := s.pending } ∧
        (∀ g, (t.xport g).discharging = true ∨ t.xport g = { XPort.reset with dischargeFail := (t.xport g).dischargeFail }) ∧
        t.pins = { s.pins with ocxoClk := t.pins.ocxoClk, toa := t.pins.toa, tob := t.pins.tob, twrqN := true, twrqEnd := 0, pps := false } ∧
        (∀ n, n < 8 → bit t.pins.toa n = false ∧ bit t.pins.tob n = false)) ∧
    (s.power.phase = .awaitPll →
      exec .ocxoClkMissing s = .next { s with pins := { s.pins with ocxoClk := false } } ∧
      exec .resetNLow s = .next { s with pins := { s.pins with resetN := false } } ∧
      exec (.tapInstruction .other) s = .next { s with power := { s.power with tapHold := true } }) ∧
    (∀ (c : Instr) (kind : Nat),
      (c = .pinReset ∧ s.power.phase = .held ∧ s.power.tapHold = false ∧ kind = 2) ∨
      (c = .tapInstruction .bypass ∧ s.power.phase = .held ∧ s.power.tapHold = true ∧ s.pins.resetN = true ∧ kind = 2) ∨
      (c = .watchdogExpiry ∧ s.isUp = true ∧ kind = 3) ∨
      (∃ w, c = .dormantWake w ∧ s.wakes w = true ∧ kind = 6) →
      ∃ t, exec c s = .next t ∧ t.power = { Power.reset with phase := .awaitStart, kind := kind } ∧ t.e 0x1200 5 = kind ∧
        t.e 0x1200 2 = 4 ∧ (∀ w, c = .dormantWake w → t.e 0x1200 0x0C = wakeBit w + 1) ∧
        (∀ i j, j < 256 → survOf (ekey i j) = .G → domainEntry (ekey i j) = false → ¬(i = 0x1200 ∧ (j = 2 ∨ j = 5 ∨ j = 0x0C)) →
          t.e i j = s.e i j) ∧
        (∀ b ∈ [1, 2, 3, 4], t.flagged 0x3810 4 b = (decide (kind ≠ 2) && s.flagged 0x3810 4 b)) ∧
        (∀ k, k < 4 → t.fine k = s.fine k) ∧ t.gov.ticks = s.gov.ticks ∧ t.log = MarkQueue.empty ∧ t.hop = Hop.reset (restartKind kind) ∧
        t.leat = Leat.reset ∧ t.svc = Svc.reset ∧ t.groups = [] ∧ t.streams = [] ∧ t.safeOn = false ∧
        t.flash = { Flash.reset with copies := s.flash.copies } ∧ (∀ g, (t.xport g).on = false) ∧
        (∀ n, n < 8 → bit t.pins.toa n = false ∧ bit t.pins.tob n = false)) ∧
    (s.power.phase ≠ .awaitPll → ∀ c : Instr, c = .resetNLow ∨ c = .tapInstruction .other → ∃ t, exec c s = .next t ∧
      t.power.phase = .held ∧ t.power.tapHold = (if c = .resetNLow then s.power.tapHold else true) ∧
      t.pins.resetN = (if c = .resetNLow then false else s.pins.resetN) ∧ t.safeOn = false ∧
      (∀ n, n < 8 → bit t.pins.toa n = false ∧ bit t.pins.tob n = false) ∧
      (∀ g, g < s.groupCount → (t.xport g).on = false) ∧ (∀ k, k < 4 → t.e (0x3510 + k) 2 = 0) ∧ t.gov = s.gov ∧ t.flash = s.flash) ∧
    (s.power.phase = .awaitPll → s.pins.resetN = true → s.power.tapHold = false →
      exec .pllLock s = .next { s with power := { s.power with phase := .awaitStart }, pins := { s.pins with ocxoClk := true } }) ∧
    (s.power.phase ≠ .awaitPll → exec .pllLock s = .next s)

/-- R323, R325, R354, R399, R400, R447: the start. The straps, the seal pins and the energy class are read, the flash is
restored, the safety functions begin with every trip de-energised, every enabled port trains, and the hub is up and
Idle, in Ladder operation where the T port is enabled; before its time a start does nothing.

Model's choices on which this rests: log entries 28, 40, 45. -/
def Obligations.StartBringsUp : Prop :=
  ∀ (s : State) (answers : Bool) (errors : List FlashError),
    (s.power.phase ≠ .awaitStart → exec (.start answers errors) s = .next s) ∧
    (s.power.phase = .awaitStart → ∃ t, exec (.start answers errors) s = .next t ∧ t.power.phase = .up ∧
      t.e 0x1200 2 = 0 ∧ t.e 0x3810 1 = s.pins.sealSw ∧ t.e 0x3810 2 = s.pins.sealSw ∧ t.e 0x3500 3 = s.pins.eqSel ∧
      t.e 0x2690 1 = (if s.pins.sealSw / 4096 % 8 < 5 then s.pins.sealSw / 4096 % 8 else 0xFF) ∧
      t.e 0x1500 1 = (if answers then 1 else 0) ∧
      t.flagged 0x3500 4 6 = s.pins.chainEnd ∧ t.flagged 0x3500 4 7 = s.pins.twinB ∧ t.safeOn = true ∧ t.safeTicks = 0 ∧
      t.flagged 0x3810 4 0 = !(bit s.pins.sealSw 15) ∧
      (bit s.pins.sealSw 15 = true → s.pins.sealSw % 4096 ≠ t.safetyDigest % 4096 → t.flagged 0x3810 4 1 = true) ∧
      (∀ n, n < 8 → t.tripState n = (if t.tripOn n = true ∧ t.e (0x3820 + n) 3 = 1 then 2 else 1) ∧
        bit t.pins.toa n = false ∧ bit t.pins.tob n = false) ∧
      (∀ k, k < 5 → t.e (0x3510 + k) 2 = (if t.powered k then 1 else 0)) ∧
      t.e 0x3600 1 = (if t.e 0x3514 1 = 1 then 1 else 0) ∧
      (t.e 0x3514 1 = 1 → t.twin = { Twin.reset with since := s.gov.ticks, roleWait := some (s.gov.ticks + 800000000) }) ∧ t.gov.ticks = s.gov.ticks)

/-- R369, R446, R455, R502, R86: what is watched. A watchdog warning makes a paired active give way; the rails and
temperatures are reported as measured, and a second reading in a row with the core rails apart sets bit 1; a die whose
rail fails has its ports off with their Output enable kept, and they come on again with it unless a test refuses one, or it waits for the next Run command or for its output to fall.

Model's choices on which this rests: log entries 39, 47. -/
def Obligations.RailsWatched : Prop :=
  (∀ s : State, s.isUp = true →
    (s.role ≠ 4 → exec .watchdogWarning s = .next s) ∧
    (s.role = 4 → ∃ t, exec .watchdogWarning s = .next t ∧ t.e 0x3600 1 = 1 ∧ t.twin.swapAt = none ∧
      (∀ g, g < s.groupCount → (t.xport g).on = false) ∧
      (∃ f : Frame, f.ftype = 9 ∧ f.payload = toBytes 2 1 ++ [2, 0] ∧ f ∈ (t.port 4).control))) ∧
  (∀ (s : State) (m : RailReading), s.isUp = true →
    ∃ t, exec (.railMeasure m) s = .next t ∧ t.e 0x1200 0x10 = m.vcInt.toNat ∧ t.e 0x1200 0x11 = m.vcScr.toNat ∧
      t.e 0x1200 0x12 = m.vcHop.toNat ∧ t.e 0x1200 0x13 = m.vcCtl.toNat ∧ t.e 0x1200 0x14 = m.vddLt.toNat ∧
      t.e 0x1200 0x15 = m.tCore.toNat ∧ t.e 0x1200 0x16 = m.tA.toNat ∧
      t.e 0x1200 0x17 = (if s.pins.mb then 0x8000 else m.tB.toNat) ∧
      (railsNear m = false → 1 ≤ s.power.skewBad → t.flagged 0x1200 0x0E 1 = true ∧
        (s.powerState = 1 → s.planState = 1 → s.usedGroups ≠ [] → t.power.trans = .toIdle ∧ t.e 0x1200 2 = 4)) ∧
      (railsNear m = true → s.power.skewGood = 9 → t.flagged 0x1200 0x0E 1 = false) ∧
      (railsNear m = true ∨ s.power.skewBad = 0 → Kept s t [.dict, .power, .log] ∧
        Entries s t (fun i j => (i = 0x1200 ∧ (j = 0x0E ∨ (0x10 ≤ j ∧ j ≤ 0x17))) ∨ entry 0x2D00 9 i j ∨ logEntry i j))) ∧
  (∀ (s : State) (die : Die), s.isUp = true →
    (let d := match die with | .A => 0 | .B => 1
     (∃ t, exec (.portDieRailFault die) s = .next t ∧
       t.power = (match die with | .A => { s.power with railA := true } | .B => { s.power with railB := true }) ∧
       (∀ g, (g ∈ s.portsOf d → (t.xport g).on = false) ∧ t.e (0x2600 + g) 9 = s.e (0x2600 + g) 9 ∧
         (g ∉ s.portsOf d → t.xport g = s.xport g)) ∧
       (∀ g ∈ s.portsOf d, (s.xport g).on = true → (t.xport g).discharging = true) ∧ Kept s t [.dict, .chans, .xports, .power]) ∧
     (∃ t, exec (.portDieRailReturn die) s = .next t ∧
       t.power = (match die with | .A => { s.power with railA := false } | .B => { s.power with railB := false }) ∧
       (s.mayDrive = false → Kept s t [.power]) ∧
       (s.mayDrive = true → ∀ g ∈ s.portsOf d,
         (t.xport g).on = true ∨ t.e (0x2600 + g) 9 = 0 ∨ (s.xport g).waitRun = true ∨ (s.xport g).deferred = true))))
end

