-- ==== Sys2Proof/Laws/Tbl.lean ====
section
/-! SUPPORT. Laws of the sparse tables: read after write, and that every operation keeps the canonical form. -/

namespace Sys2Proof.Machine

theorem Tbl.get_put {α : Type} (d : α) (t : List (Nat × α)) (n m : Nat) (x : α) :
    Tbl.get d (Tbl.put t n x) m = if m = n then x else Tbl.get d t m := by
  induction t with
  | nil => simp [Tbl.put, Tbl.get]
  | cons e t ih =>
    obtain ⟨k, v⟩ := e
    by_cases h1 : n = k
    · subst h1
      simp only [Tbl.put, Tbl.get, if_true]
      split <;> simp_all
    · by_cases h2 : n < k
      · simp only [Tbl.put, Tbl.get, if_neg h1, if_pos h2]
      · simp only [Tbl.put, Tbl.get, if_neg h1, if_neg h2, ih]
        by_cases h3 : m = k
        · have : m ≠ n := fun h => h1 (h ▸ h3)
          simp [h3, Ne.symm h1]
        · simp [h3]

theorem Tbl.get_drop {α : Type} (d : α) (t : List (Nat × α)) (n m : Nat) :
    Tbl.get d (Tbl.drop t n) m = if m = n then d else Tbl.get d t m := by
  induction t with
  | nil => simp [Tbl.drop, Tbl.get]
  | cons e t ih =>
    obtain ⟨k, v⟩ := e
    by_cases h1 : n = k
    · subst h1
      simp only [Tbl.drop, if_true, Tbl.get, ih]
      split <;> simp_all
    · simp only [Tbl.drop, if_neg h1, Tbl.get, ih]
      by_cases h3 : m = k
      · simp [h3, Ne.symm h1]
      · simp [h3]

/-- Read after write: the key written reads the value, every other key what it read before. -/
theorem Tbl.get_set {α : Type} [DecidableEq α] (d : α) (t : List (Nat × α)) (n m : Nat) (x : α) :
    Tbl.get d (Tbl.set d t n x) m = if m = n then x else Tbl.get d t m := by
  unfold Tbl.set
  split
  · next h => rw [Tbl.get_drop, h]
  · rw [Tbl.get_put]

theorem Tbl.get_set_same {α : Type} [DecidableEq α] (d : α) (t : List (Nat × α)) (n : Nat) (x : α) :
    Tbl.get d (Tbl.set d t n x) n = x := by simp [Tbl.get_set]

theorem Tbl.get_set_other {α : Type} [DecidableEq α] (d : α) (t : List (Nat × α)) (n m : Nat) (x : α) (h : m ≠ n) :
    Tbl.get d (Tbl.set d t n x) m = Tbl.get d t m := by simp [Tbl.get_set, h]

/-- The default matters for unlisted keys alone: a write under one key's default is read under another's. -/
theorem Tbl.get_set_default {α : Type} [DecidableEq α] (d d' : α) (t : List (Nat × α)) (n m : Nat) (x : α) (h : m ≠ n) :
    Tbl.get d (Tbl.set d' t n x) m = Tbl.get d t m := by
  unfold Tbl.set
  split
  · simp [Tbl.get_drop, h]
  · simp [Tbl.get_put, h]

theorem Tbl.wfFrom_lower {α : Type} [DecidableEq α] {d : Nat → α} {t : List (Nat × α)} {lo lo' : Nat} (hl : lo' ≤ lo)
    (h : Tbl.wfFrom d lo t = true) : Tbl.wfFrom d lo' t = true := by
  cases t with
  | nil => rfl
  | cons e t =>
    simp only [Tbl.wfFrom, Bool.and_eq_true, decide_eq_true_eq] at h ⊢
    exact ⟨⟨by omega, h.1.2⟩, h.2⟩

theorem Tbl.wfFrom_put {α : Type} [DecidableEq α] {d : Nat → α} {n : Nat} {x : α} (hx : x ≠ d n) :
    ∀ {t : List (Nat × α)} {lo : Nat}, lo ≤ n → Tbl.wfFrom d lo t = true → Tbl.wfFrom d lo (Tbl.put t n x) = true := by
  intro t
  induction t with
  | nil => intro lo hl _; simp [Tbl.put, Tbl.wfFrom, hl, hx]
  | cons e t ih =>
    obtain ⟨k, v⟩ := e
    intro lo hl h
    simp only [Tbl.wfFrom, Bool.and_eq_true, decide_eq_true_eq, Bool.not_eq_true', decide_eq_false_iff_not] at h
    by_cases h1 : n = k
    · subst h1; simp [Tbl.put, Tbl.wfFrom, hl, hx, h.2]
    · by_cases h2 : n < k
      · simp [Tbl.put, h1, h2, Tbl.wfFrom, hl, hx, h.1.2, h.2]
        try omega
      · have hk : k + 1 ≤ n := by omega
        simp [Tbl.put, h1, h2, Tbl.wfFrom, h.1.1, h.1.2, ih hk h.2]

theorem Tbl.wfFrom_drop {α : Type} [DecidableEq α] {d : Nat → α} {n : Nat} :
    ∀ {t : List (Nat × α)} {lo : Nat}, Tbl.wfFrom d lo t = true → Tbl.wfFrom d lo (Tbl.drop t n) = true := by
  intro t
  induction t with
  | nil => intro lo _; rfl
  | cons e t ih =>
    obtain ⟨k, v⟩ := e
    intro lo h
    simp only [Tbl.wfFrom, Bool.and_eq_true, decide_eq_true_eq, Bool.not_eq_true', decide_eq_false_iff_not] at h
    by_cases h1 : n = k
    · simp only [Tbl.drop, if_pos h1]
      exact Tbl.wfFrom_lower (by omega) (ih h.2)
    · simp [Tbl.drop, h1, Tbl.wfFrom, h.1.1, h.1.2, ih h.2]

/-- A write keeps the canonical form. -/
theorem Tbl.wf_set {α : Type} [DecidableEq α] {d : Nat → α} {t : List (Nat × α)} (n : Nat) (x : α)
    (h : Tbl.wf d t = true) : Tbl.wf d (Tbl.set (d n) t n x) = true := by
  unfold Tbl.set
  split
  · exact Tbl.wfFrom_drop h
  · next hx => exact Tbl.wfFrom_put hx (Nat.zero_le _) h

/-- A selection keeps the canonical form. -/
theorem Tbl.wfFrom_filter {α : Type} [DecidableEq α] {d : Nat → α} (f : Nat × α → Bool) :
    ∀ {t : List (Nat × α)} {lo : Nat}, Tbl.wfFrom d lo t = true → Tbl.wfFrom d lo (t.filter f) = true := by
  intro t
  induction t with
  | nil => intro lo _; rfl
  | cons e t ih =>
    obtain ⟨k, v⟩ := e
    intro lo h
    simp only [Tbl.wfFrom, Bool.and_eq_true, decide_eq_true_eq, Bool.not_eq_true', decide_eq_false_iff_not] at h
    rw [List.filter_cons]
    split
    · simp [Tbl.wfFrom, h.1.1, h.1.2, ih h.2]
    · exact Tbl.wfFrom_lower (by omega) (ih h.2)

theorem Tbl.wf_filter {α : Type} [DecidableEq α] {d : Nat → α} {t : List (Nat × α)} (f : Nat × α → Bool)
    (h : Tbl.wf d t = true) : Tbl.wf d (t.filter f) = true := Tbl.wfFrom_filter f h

theorem Tbl.wfFrom_map {α : Type} [DecidableEq α] {d : α} (f : Nat → α → α) :
    ∀ {t : List (Nat × α)} {lo : Nat}, Tbl.wfFrom (fun _ => d) lo t = true →
      Tbl.wfFrom (fun _ => d) lo (Tbl.map d f t) = true := by
  intro t
  induction t with
  | nil => intro lo _; rfl
  | cons e t ih =>
    obtain ⟨k, v⟩ := e
    intro lo h
    simp only [Tbl.wfFrom, Bool.and_eq_true, decide_eq_true_eq, Bool.not_eq_true', decide_eq_false_iff_not] at h
    by_cases h1 : f k v = d
    · simp only [Tbl.map, if_pos h1]
      exact Tbl.wfFrom_lower (by omega) (ih h.2)
    · simp [Tbl.map, h1, Tbl.wfFrom, h.1.1, ih h.2]

theorem Tbl.wf_map {α : Type} [DecidableEq α] {d : α} {t : List (Nat × α)} (f : Nat → α → α)
    (h : Tbl.wf (fun _ => d) t = true) : Tbl.wf (fun _ => d) (Tbl.map d f t) = true := Tbl.wfFrom_map f h

/-- A fact about every listed value survives a write of a value that has it. -/
theorem Tbl.forall_put {α : Type} {P : α → Prop} {n : Nat} {x : α} (hx : P x) :
    ∀ {t : List (Nat × α)}, (∀ e ∈ t, P e.2) → ∀ e ∈ Tbl.put t n x, P e.2 := by
  intro t
  induction t with
  | nil => intro _ e he; simp [Tbl.put] at he; subst he; exact hx
  | cons a t ih =>
    obtain ⟨k, v⟩ := a
    intro h e he
    simp only [Tbl.put] at he
    split at he
    · rcases List.mem_cons.1 he with rfl | h'
      · exact hx
      · exact h e (List.mem_cons_of_mem _ h')
    · split at he
      · rcases List.mem_cons.1 he with rfl | h'
        · exact hx
        · exact h e h'
      · rcases List.mem_cons.1 he with rfl | h'
        · exact h _ List.mem_cons_self
        · exact ih (fun e' he' => h e' (List.mem_cons_of_mem _ he')) e h'

theorem Tbl.forall_drop {α : Type} {P : α → Prop} {n : Nat} :
    ∀ {t : List (Nat × α)}, (∀ e ∈ t, P e.2) → ∀ e ∈ Tbl.drop t n, P e.2 := by
  intro t
  induction t with
  | nil => intro _ e he; simp [Tbl.drop] at he
  | cons a t ih =>
    obtain ⟨k, v⟩ := a
    intro h e he
    simp only [Tbl.drop] at he
    split at he
    · exact ih (fun e' he' => h e' (List.mem_cons_of_mem _ he')) e he
    · rcases List.mem_cons.1 he with rfl | h'
      · exact h _ List.mem_cons_self
      · exact ih (fun e' he' => h e' (List.mem_cons_of_mem _ he')) e h'

theorem Tbl.forall_set {α : Type} [DecidableEq α] {P : α → Prop} (d : α) {t : List (Nat × α)} (n : Nat) {x : α}
    (hx : P x) (h : ∀ e ∈ t, P e.2) : ∀ e ∈ Tbl.set d t n x, P e.2 := by
  unfold Tbl.set
  split
  · exact Tbl.forall_drop h
  · exact Tbl.forall_put hx h

theorem Tbl.forall_map {α : Type} [DecidableEq α] {P : α → Prop} (d : α) (f : Nat → α → α) (hf : ∀ k v, P v → P (f k v)) :
    ∀ {t : List (Nat × α)}, (∀ e ∈ t, P e.2) → ∀ e ∈ Tbl.map d f t, P e.2 := by
  intro t
  induction t with
  | nil => intro _ e he; simp [Tbl.map] at he
  | cons a t ih =>
    obtain ⟨k, v⟩ := a
    intro h e he
    simp only [Tbl.map] at he
    split at he
    · exact ih (fun e' he' => h e' (List.mem_cons_of_mem _ he')) e he
    · rcases List.mem_cons.1 he with rfl | h'
      · exact hf _ _ (h _ List.mem_cons_self)
      · exact ih (fun e' he' => h e' (List.mem_cons_of_mem _ he')) e h'

/-- What holds of the default and of every listed value holds of every read. -/
theorem Tbl.get_forall {α : Type} {P : α → Prop} {d : α} (hd : P d) :
    ∀ {t : List (Nat × α)}, (∀ e ∈ t, P e.2) → ∀ n, P (Tbl.get d t n) := by
  intro t
  induction t with
  | nil => intro _ n; exact hd
  | cons a t ih =>
    obtain ⟨k, v⟩ := a
    intro h n
    simp only [Tbl.get]
    split
    · exact h (k, v) List.mem_cons_self
    · exact ih (fun e' he' => h e' (List.mem_cons_of_mem _ he')) n

end Sys2Proof.Machine
end

