-- ==== Sys2Proof/Laws/Keeps.lean ====
section
/-! SUPPORT. What every operation of the hub keeps: the queue of waiting commands and the invariant of Safety.lean. The
lemma of an operation is named after it, `<operation>_keeps`; the files beside this one hold one for each. -/

namespace Sys2Proof.Machine

/-- The state has the waiting commands `p` and the invariant. -/
def Keeps (p : List Instr) (s : State) : Prop := s.pending = p ∧ s.Inv

/-- The parts of the state that `Keeps` does not speak of. -/
theorem keeps_rest {p : List Instr} {s : State} {n1 n2 n3 : Nat} {w e : List (Nat × Int)} {d : List (Nat × Int × Nat)}
    {c b : Bool} {m : List (Nat × Stream)} {v : Svc} {t : Twin} {f : Flash} {x : Pins} (h : Keeps p s) :
    Keeps p { s with orders := n1, windows := w, evtFire := e, dieTemps := d, sailCal := c, streams := m, svc := v,
                     twin := t, safeOn := b, safeTicks := n2, flash := f, pins := x, freeCtr := n3 } := h

/-- The same of a state that may be missing. -/
def KeepsOpt (p : List Instr) (o : Option State) : Prop := ∀ t, o = some t → Keeps p t

/-- The same of a state that comes with another value. -/
def KeepsPair {α : Type} (p : List Instr) (o : Option (α × State)) : Prop := ∀ a t, o = some (a, t) → Keeps p t

theorem KeepsOpt.none {p : List Instr} : KeepsOpt p Option.none := fun _ e => by cases e

theorem KeepsOpt.some {p : List Instr} {s : State} (h : Keeps p s) : KeepsOpt p (Option.some s) :=
  fun _ e => by cases e; exact h

theorem KeepsOpt.map {α : Type} {p : List Instr} {o : Option α} {f : α → State} (h : ∀ a, o = Option.some a → Keeps p (f a)) :
    KeepsOpt p (o.map f) := by
  intro t e
  cases o with
  | none => cases e
  | some a => cases e; exact h a rfl

theorem KeepsOpt.or {p : List Instr} {a b : Option State} (ha : KeepsOpt p a) (hb : KeepsOpt p b) : KeepsOpt p (a.or b) := by
  cases a with
  | none => exact hb
  | some t => exact ha

theorem KeepsPair.none {α : Type} {p : List Instr} : KeepsPair (α := α) p Option.none := fun _ _ e => by cases e

theorem KeepsPair.some {α : Type} {p : List Instr} {s : State} {a : α} (h : Keeps p s) :
    KeepsPair p (Option.some (a, s)) := fun _ _ e => by cases e; exact h

theorem KeepsPair.map {α β : Type} {p : List Instr} {o : Option β} {f : β → α × State}
    (h : ∀ a, o = Option.some a → Keeps p (f a).2) : KeepsPair p (o.map f) := by
  intro a t e
  cases o with
  | none => cases e
  | some b =>
    have e' : f b = (a, t) := Option.some.inj e
    have := h b rfl
    rw [e'] at this
    exact this

theorem KeepsOpt.getD {p : List Instr} {o : Option State} {d : State} (h : KeepsOpt p o) (hd : Keeps p d) :
    Keeps p (o.getD d) := by
  cases o with
  | none => exact hd
  | some t => exact h t rfl

/-- Of an answer that depends on a condition, each side. -/
theorem keeps_ite {p : List Instr} {c : Prop} [Decidable c] {a b : Ans} (ha : Keeps p a.2) (hb : Keeps p b.2) :
    Keeps p (if c then a else b).2 := by
  split
  · exact ha
  · exact hb

/-- `Keeps` of the state of an answer, as a notion of its own. -/
def KeepsAns (p : List Instr) (a : Ans) : Prop := Keeps p a.2

theorem KeepsAns.ite {p : List Instr} {c : Prop} [Decidable c] {a b : Ans} (ha : KeepsAns p a) (hb : KeepsAns p b) :
    KeepsAns p (if c then a else b) := by
  split
  · exact ha
  · exact hb

/-- Of a state beside an answer. -/
theorem keeps_snd {α : Type} {p : List Instr} {s : State} {a : α} (h : Keeps p s) : Keeps p (a, s).2 := h

/-- Of a state that depends on a condition, each side. -/
theorem keeps_if {p : List Instr} {c : Prop} [Decidable c] {a b : State} (ha : Keeps p a) (hb : Keeps p b) :
    Keeps p (if c then a else b) := by
  split
  · exact ha
  · exact hb

/-- A fold whose step keeps them keeps them. -/
theorem foldl_keeps {α : Type} {p : List Instr} {f : State → α → State} {l : List α} {s : State}
    (hf : ∀ s a, Keeps p s → Keeps p (f s a)) (h : Keeps p s) : Keeps p (l.foldl f s) := by
  induction l generalizing s with
  | nil => exact h
  | cons a l ih => exact ih (hf s a h)

/-- The same for a fold that carries another value beside the state. -/
theorem foldl_keeps_fst {α β : Type} {p : List Instr} {f : State × β → α → State × β} {l : List α} {s : State × β}
    (hf : ∀ s a, Keeps p s.1 → Keeps p (f s a).1) (h : Keeps p s.1) : Keeps p (l.foldl f s).1 := by
  induction l generalizing s with
  | nil => exact h
  | cons a l ih => exact ih (hf s a h)

/-- The same with the value first. -/
theorem foldl_keeps_snd {α β : Type} {p : List Instr} {f : β × State → α → β × State} {l : List α} {s : β × State}
    (hf : ∀ s a, Keeps p s.2 → Keeps p (f s a).2) (h : Keeps p s.2) : Keeps p (l.foldl f s).2 := by
  induction l generalizing s with
  | nil => exact h
  | cons a l ih => exact ih (hf s a h)

/-! ### Writes of the tables -/

variable {p : List Instr} {s : State}

theorem State.setE_keeps {i j v : Nat} (h : Keeps p s) : Keeps p (s.setE i j v) :=
  ⟨h.1, ⟨Tbl.wf_set _ _ h.2.1.1, h.2.1.2⟩, h.2.2⟩

/-- A selection of the dictionary's entries. -/
theorem keeps_dict {f : Nat × Nat → Bool} (h : Keeps p s) : Keeps p { s with dict := s.dict.filter f } :=
  ⟨h.1, ⟨Tbl.wf_filter _ h.2.1.1, h.2.1.2⟩, h.2.2⟩

theorem keeps_blobs {l : List (Nat × List Byte)} (hl : Tbl.wf (fun _ => []) l = true) (h : Keeps p s) :
    Keeps p { s with blobs := l } := by
  obtain ⟨h0, ⟨h1, _, h2⟩, h3⟩ := h
  exact ⟨h0, ⟨h1, hl, h2⟩, h3⟩

theorem keeps_chans {l : List (Nat × Chan)} (hl : Tbl.wf (fun _ => Chan.reset) l = true) (h : Keeps p s) :
    Keeps p { s with chans := l } := by
  obtain ⟨h0, ⟨h1, h2, _, h3⟩, h4⟩ := h
  exact ⟨h0, ⟨h1, h2, hl, h3⟩, h4⟩

theorem keeps_xports {l : List (Nat × XPort)} (hl : Tbl.wf (fun _ => XPort.reset) l = true) (h : Keeps p s) :
    Keeps p { s with xports := l } := by
  obtain ⟨h0, ⟨h1, h2, h3, _, h4⟩, h5⟩ := h
  exact ⟨h0, ⟨h1, h2, h3, hl, h4⟩, h5⟩

theorem keeps_blanks {l : List (Nat × Blank)} (hl : Tbl.wf (fun _ => Blank.mk none none) l = true) (h : Keeps p s) :
    Keeps p { s with blanks := l } := by
  obtain ⟨h0, ⟨h1, h2, h3, h4, _, h5⟩, h6⟩ := h
  exact ⟨h0, ⟨h1, h2, h3, h4, hl, h5⟩, h6⟩

theorem keeps_groups {l : List (Nat × Group)} (hl : Tbl.wf (fun _ => Group.reset) l = true)
    (hb : ∀ e ∈ l, e.2.buf.length ≤ 64) (h : Keeps p s) : Keeps p { s with groups := l } := by
  obtain ⟨h0, ⟨h1, h2, h3, h4, h5, _, h6⟩, h7, h8, _, h9⟩ := h
  exact ⟨h0, ⟨h1, h2, h3, h4, h5, hl, h6⟩, h7, h8, hb, h9⟩

theorem keeps_tones {l : List (Nat × Tone)} (hl : Tbl.wf (fun _ => Tone.reset) l = true) (h : Keeps p s) :
    Keeps p { s with tones := l } := by
  obtain ⟨h0, ⟨h1, h2, h3, h4, h5, h6, _, h7⟩, h8⟩ := h
  exact ⟨h0, ⟨h1, h2, h3, h4, h5, h6, hl, h7⟩, h8⟩

theorem keeps_mills {l : List (Nat × Mill)} (hl : Tbl.wf (fun _ => Mill.reset) l = true) (h : Keeps p s) :
    Keeps p { s with mills := l } := by
  obtain ⟨h0, ⟨h1, h2, h3, h4, h5, h6, h7, _, h8⟩, h9⟩ := h
  exact ⟨h0, ⟨h1, h2, h3, h4, h5, h6, h7, hl, h8⟩, h9⟩

theorem keeps_sails {l : List (Nat × SailRun)} (hl : Tbl.wf (fun _ => SailRun.reset) l = true)
    (hb : ∀ e ∈ l, e.2.queue.items.length ≤ 1024) (h : Keeps p s) : Keeps p { s with sails := l } := by
  obtain ⟨h0, ⟨h1, h2, h3, h4, h5, h6, h7, h8, _, h9⟩, h10, _, h11⟩ := h
  exact ⟨h0, ⟨h1, h2, h3, h4, h5, h6, h7, h8, hl, h9⟩, h10, hb, h11⟩

theorem keeps_grids {l : List (Nat × Grid)} (hl : Tbl.wf (fun _ => Grid.reset) l = true) (h : Keeps p s) :
    Keeps p { s with grids := l } := by
  obtain ⟨h0, ⟨h1, h2, h3, h4, h5, h6, h7, h8, h9, _, h10⟩, h11⟩ := h
  exact ⟨h0, ⟨h1, h2, h3, h4, h5, h6, h7, h8, h9, hl, h10⟩, h11⟩

theorem keeps_hop {x : Hop} (hl : Tbl.wf (fun _ => HQueue.reset) x.queues = true) (h : Keeps p s) :
    Keeps p { s with hop := x } := by
  obtain ⟨h0, ⟨h1, h2, h3, h4, h5, h6, h7, h8, h9, h10, _, h11⟩, h12⟩ := h
  exact ⟨h0, ⟨h1, h2, h3, h4, h5, h6, h7, h8, h9, h10, hl, h11⟩, h12⟩

theorem keeps_leat {x : Leat} (hl : Tbl.wf (fun _ => LPort.reset) x.ports = true) (h : Keeps p s) :
    Keeps p { s with leat := x } := by
  obtain ⟨h0, ⟨h1, h2, h3, h4, h5, h6, h7, h8, h9, h10, h11, _, h12⟩, h13⟩ := h
  exact ⟨h0, ⟨h1, h2, h3, h4, h5, h6, h7, h8, h9, h10, h11, hl, h12⟩, h13⟩

theorem keeps_gov {x : Gov} (hl : Tbl.wf (fun _ => Dom.reset) x.doms = true) (h : Keeps p s) :
    Keeps p { s with gov := x } := by
  obtain ⟨h0, ⟨h1, h2, h3, h4, h5, h6, h7, h8, h9, h10, h11, h12, _, h13⟩, h14⟩ := h
  exact ⟨h0, ⟨h1, h2, h3, h4, h5, h6, h7, h8, h9, h10, h11, h12, hl, h13⟩, h14⟩

theorem keeps_inputs {l : List (Nat × SafeIn)} (hl : Tbl.wf (fun _ => SafeIn.reset) l = true) (h : Keeps p s) :
    Keeps p { s with inputs := l } := by
  obtain ⟨h0, ⟨h1, h2, h3, h4, h5, h6, h7, h8, h9, h10, h11, h12, h13, _, h14⟩, h15⟩ := h
  exact ⟨h0, ⟨h1, h2, h3, h4, h5, h6, h7, h8, h9, h10, h11, h12, h13, hl, h14⟩, h15⟩

theorem keeps_cmps {l : List (Nat × CmpRun)} (hl : Tbl.wf (fun _ => CmpRun.reset) l = true) (h : Keeps p s) :
    Keeps p { s with cmps := l } := by
  obtain ⟨h0, ⟨h1, h2, h3, h4, h5, h6, h7, h8, h9, h10, h11, h12, h13, h14, _, h15⟩, h16⟩ := h
  exact ⟨h0, ⟨h1, h2, h3, h4, h5, h6, h7, h8, h9, h10, h11, h12, h13, h14, hl, h15⟩, h16⟩

theorem keeps_trips {l : List (Nat × TripRun)} (hl : Tbl.wf (fun _ => TripRun.reset) l = true) (h : Keeps p s) :
    Keeps p { s with trips := l } := by
  obtain ⟨h0, ⟨h1, h2, h3, h4, h5, h6, h7, h8, h9, h10, h11, h12, h13, h14, h15, _, h16⟩, h17⟩ := h
  exact ⟨h0, ⟨h1, h2, h3, h4, h5, h6, h7, h8, h9, h10, h11, h12, h13, h14, h15, hl, h16⟩, h17⟩

theorem keeps_scrims {l : List (Nat × ScrimRun)} (hl : Tbl.wf (fun _ => ScrimRun.reset) l = true) (h : Keeps p s) :
    Keeps p { s with scrims := l } := by
  obtain ⟨h0, ⟨h1, h2, h3, h4, h5, h6, h7, h8, h9, h10, h11, h12, h13, h14, h15, h16, _⟩, h17⟩ := h
  exact ⟨h0, ⟨h1, h2, h3, h4, h5, h6, h7, h8, h9, h10, h11, h12, h13, h14, h15, h16, hl⟩, h17⟩

theorem keeps_log {q : MarkQueue} (hq : q.items.length ≤ 1024) (h : Keeps p s) : Keeps p { s with log := q } :=
  ⟨h.1, h.2.1, hq, h.2.2.2⟩

theorem keeps_power {x : Power} (hx : x.deferred.length ≤ 8) (h : Keeps p s) : Keeps p { s with power := x } :=
  ⟨h.1, h.2.1, h.2.2.1, h.2.2.2.1, h.2.2.2.2.1, hx⟩

/-! ### Bounded stores -/

/-- A raw buffer of the hub has room for 64 records. -/
theorem buf_le (h : Keeps p s) (g : Nat) : (s.group g).buf.length ≤ 64 :=
  Tbl.get_forall (P := fun x : Group => x.buf.length ≤ 64) (by decide) h.2.2.2.2.1 g

theorem MarkQueue.tidy_length (q : MarkQueue) : q.tidy.items.length ≤ q.items.length := by
  unfold MarkQueue.tidy
  split <;> (try split) <;> simp

theorem MarkQueue.push_length {q : MarkQueue} (r : List Byte) (h : q.items.length ≤ 1024) :
    (q.push r).items.length ≤ 1024 := by
  unfold MarkQueue.push MarkQueue.full
  split
  · exact h
  · next hf => simp at hf ⊢; omega

theorem MarkQueue.pop_length {q : MarkQueue} (n : Nat) (h : q.items.length ≤ 1024) :
    (q.pop n).2.items.length ≤ 1024 := by
  unfold MarkQueue.pop
  split
  · exact Nat.le_trans (MarkQueue.tidy_length _) h
  · exact h

theorem MarkQueue.mark_length {q : MarkQueue} (n : Nat) (h : q.items.length ≤ 1024) :
    (q.mark n).items.length ≤ 1024 := Nat.le_trans (MarkQueue.tidy_length _) h

theorem MarkQueue.release_length {q : MarkQueue} (n : Nat) (h : q.items.length ≤ 1024) :
    (q.release n).items.length ≤ 1024 := Nat.le_trans (MarkQueue.tidy_length _) h

theorem markCommand_length {q q' : MarkQueue} {op v : Nat} (e : markCommand q op v = some q')
    (h : q.items.length ≤ 1024) : q'.items.length ≤ 1024 := by
  unfold markCommand at e
  split at e
  · cases e; exact MarkQueue.mark_length _ h
  · cases hm : q.markAt v with
    | none => rw [hm] at e; cases e
    | some n =>
      rw [hm] at e
      simp only [Option.map_some, Option.some.injEq] at e
      subst e
      split
      · exact h
      · exact MarkQueue.release_length _ h

/-! ### The tables' own writes -/

theorem State.setChan_keeps {c : Nat} {x : Chan} (h : Keeps p s) : Keeps p (s.setChan c x) :=
  keeps_chans (Tbl.wf_set _ _ h.2.1.2.2.1) h

theorem State.setXport_keeps {g : Nat} {x : XPort} (h : Keeps p s) : Keeps p (s.setXport g x) :=
  keeps_xports (Tbl.wf_set _ _ h.2.1.2.2.2.1) h

theorem State.setGroup_keeps {g : Nat} {x : Group} (hx : x.buf.length ≤ 64) (h : Keeps p s) :
    Keeps p (s.setGroup g x) :=
  keeps_groups (Tbl.wf_set _ _ h.2.1.2.2.2.2.2.1) (Tbl.forall_set _ _ (P := fun y : Group => y.buf.length ≤ 64) hx h.2.2.2.2.1) h

theorem State.setMill_keeps {c : Nat} {x : Mill} (h : Keeps p s) : Keeps p (s.setMill c x) :=
  keeps_mills (Tbl.wf_set _ _ h.2.1.2.2.2.2.2.2.2.1) h

theorem State.setGrid_keeps {a : Nat} {x : Grid} (h : Keeps p s) : Keeps p (s.setGrid a x) :=
  keeps_grids (Tbl.wf_set _ _ h.2.1.2.2.2.2.2.2.2.2.2.1) h

theorem State.setHq_keeps {q : Nat} {x : HQueue} (h : Keeps p s) : Keeps p (s.setHq q x) :=
  keeps_hop (Tbl.wf_set _ _ h.2.1.2.2.2.2.2.2.2.2.2.2.1) h

theorem State.setPort_keeps {n : Nat} {x : LPort} (h : Keeps p s) : Keeps p (s.setPort n x) :=
  keeps_leat (Tbl.wf_set _ _ h.2.1.2.2.2.2.2.2.2.2.2.2.2.1) h

theorem State.setDom_keeps {d : Nat} {x : Dom} (h : Keeps p s) : Keeps p (s.setDom d x) :=
  keeps_gov (Tbl.wf_set _ _ h.2.1.2.2.2.2.2.2.2.2.2.2.2.2.1) h

theorem State.setInput_keeps {i : Nat} {x : SafeIn} (h : Keeps p s) : Keeps p (s.setInput i x) :=
  keeps_inputs (Tbl.wf_set _ _ h.2.1.2.2.2.2.2.2.2.2.2.2.2.2.2.1) h

theorem State.setCmp_keeps {l : Nat} {x : CmpRun} (h : Keeps p s) : Keeps p (s.setCmp l x) :=
  keeps_cmps (Tbl.wf_set _ _ h.2.1.2.2.2.2.2.2.2.2.2.2.2.2.2.2.1) h

theorem State.setTrip_keeps {n : Nat} {x : TripRun} (h : Keeps p s) : Keeps p (s.setTrip n x) :=
  keeps_trips (Tbl.wf_set _ _ h.2.1.2.2.2.2.2.2.2.2.2.2.2.2.2.2.2.1) h

theorem State.setScrim_keeps {k : Nat} {x : ScrimRun} (h : Keeps p s) : Keeps p (s.setScrim k x) :=
  keeps_scrims (Tbl.wf_set _ _ h.2.1.2.2.2.2.2.2.2.2.2.2.2.2.2.2.2.2) h

theorem State.setTone_keeps {d : Nat} {x : Tone} (h : Keeps p s) : Keeps p (s.setTone d x) :=
  keeps_tones (Tbl.wf_set _ _ h.2.1.2.2.2.2.2.2.1) h

theorem State.setBlob_keeps {k : Nat} {d : List Byte} (h : Keeps p s) : Keeps p (s.setBlob k d) :=
  keeps_blobs (Tbl.wf_set _ _ h.2.1.2.1) h

theorem State.setSail_keeps {n : Nat} {x : SailRun} (hx : x.queue.items.length ≤ 1024) (h : Keeps p s) :
    Keeps p (s.setSail n x) :=
  keeps_sails (Tbl.wf_set _ _ h.2.1.2.2.2.2.2.2.2.2.1)
    (Tbl.forall_set _ _ (P := fun y : SailRun => y.queue.items.length ≤ 1024) hx h.2.2.2.1) h

/-- A Sail queue has room for 1,024 records. -/
theorem queue_le (h : Keeps p s) (n : Nat) : (s.sailRun n).queue.items.length ≤ 1024 :=
  Tbl.get_forall (P := fun x : SailRun => x.queue.items.length ≤ 1024) (by decide) h.2.2.2.1 n

end Sys2Proof.Machine
end

