-- ==== Sys2Proof/Laws/KeepsRecords.lean ====
section
/-! SUPPORT. What the operations keep (Laws/Keeps.lean): the event log, the Ledger and Hopper, Screed and the stream entries. -/

namespace Sys2Proof.Machine

theorem State.bump_keeps {p s idx sub n} (h : Keeps p s) : Keeps p (State.bump s idx sub n) := by
  unfold State.bump
  exact State.setE_keeps h

theorem State.wrapAdd_keeps {p s w idx sub n} (h : Keeps p s) : Keeps p (State.wrapAdd s w idx sub n) := by
  unfold State.wrapAdd
  exact State.setE_keeps h

theorem State.flag_keeps {p s idx sub i b} (h : Keeps p s) : Keeps p (State.flag s idx sub i b) := by
  unfold State.flag
  exact State.setE_keeps h

theorem State.fresh_keeps {p s} (h : Keeps p s) : Keeps p (State.fresh s) := by
  unfold State.fresh
  exact keeps_rest h

theorem State.setStream_keeps {p s n x} (h : Keeps p s) : Keeps p (State.setStream s n x) := by
  unfold State.setStream
  exact keeps_rest h

theorem State.setFine_keeps {p s d t} (h : Keeps p s) : Keeps p (State.setFine s d t) := by
  unfold State.setFine
  extract_lets +onlyGivenNames v1
  split
  · exact State.setDom_keeps h
  · exact State.setDom_keeps h

theorem State.setInc_keeps {p s d v} (h : Keeps p s) : Keeps p (State.setInc s d v) := by
  unfold State.setInc
  extract_lets +onlyGivenNames v1
  exact State.setFine_keeps (State.setE_keeps h)

theorem State.event_keeps {p s sev code detail} (h : Keeps p s) : Keeps p (State.event s sev code detail) := by
  unfold State.event
  dsimp only
  split
  · exact h
  · refine keeps_log (MarkQueue.push_length _ ?_) ?_
    · split
      · exact h.2.2.1
      · exact h.2.2.1
    · split
      · exact State.bump_keeps (State.setE_keeps h)
      · exact State.setE_keeps h

theorem State.sendItem_keeps {p s b} (h : Keeps p s) : Keeps p (State.sendItem s b) := by
  unfold State.sendItem
  exact keeps_rest h

theorem State.sendBehind_keeps {p s b} (h : Keeps p s) : Keeps p (State.sendBehind s b) := by
  unfold State.sendBehind
  exact keeps_rest h

theorem State.copyRec_keeps {p s q num r} (h : Keeps p s) : Keeps p (State.copyRec s q num r) := by
  unfold State.copyRec
  extract_lets +onlyGivenNames v1
  exact keeps_rest h

theorem State.sendDrop_keeps {p s n b} (h : Keeps p s) : Keeps p (State.sendDrop s n b) := by
  unfold State.sendDrop
  split
  · exact State.sendBehind_keeps h
  · exact h

theorem State.tellCommit_keeps {p s q num r} (h : Keeps p s) : Keeps p (State.tellCommit s q num r) := by
  unfold State.tellCommit
  extract_lets +onlyGivenNames v1
  have h2 : Keeps p v1 := State.sendBehind_keeps h
  clear_value v1
  split
  · split
    · exact State.copyRec_keeps h2
    · exact h2
  · exact h

theorem State.commitRec_keeps {p s q r} (h : Keeps p s) : Keeps p (State.commitRec s q r) := by
  unfold State.commitRec
  extract_lets +onlyGivenNames v1
  extract_lets +onlyGivenNames v2
  have h3 : Keeps p v2 := State.tellCommit_keeps h
  clear_value v2
  extract_lets +onlyGivenNames v4
  have h5 : Keeps p v4 := State.setHq_keeps h3
  clear_value v4
  split
  · exact State.wrapAdd_keeps (State.wrapAdd_keeps (State.wrapAdd_keeps h5))
  · exact h5

theorem State.place_keeps {p s q r} (h : Keeps p s) : KeepsOpt p (State.place s q r) := by
  unfold State.place
  split
  · exact KeepsOpt.none
  · split
    · exact KeepsOpt.some (State.commitRec_keeps h)
    · split
      · exact KeepsOpt.some (State.commitRec_keeps h)
      · exact KeepsOpt.none

theorem State.wait_keeps {p s q granted r} (h : Keeps p s) : Keeps p (State.wait s q granted r) := by
  unfold State.wait
  exact keeps_rest h

theorem State.enterRec_keeps {p s q r} (h : Keeps p s) : Keeps p (State.enterRec s q r) := by
  unfold State.enterRec
  split
  · exact State.wait_keeps h
  · split
    · rename_i x1 x2 x3
      have h4 := State.place_keeps h _ x3
      exact h4
    · exact State.wait_keeps h

theorem State.enter_keeps {p s q m} (h : Keeps p s) : Keeps p (State.enter s q m) := by
  unfold State.enter
  split
  · exact h
  · exact State.enterRec_keeps h

theorem State.loseEvent_keeps {p s} (h : Keeps p s) : Keeps p (State.loseEvent s) := by
  unfold State.loseEvent
  extract_lets +onlyGivenNames v1
  exact State.flag_keeps (State.bump_keeps (keeps_rest h))

theorem State.enterEvent_keeps {p s q m} (h : Keeps p s) : Keeps p (State.enterEvent s q m) := by
  unfold State.enterEvent
  exact State.enter_keeps (keeps_rest h)

theorem State.reportLost_keeps {p s} (h : Keeps p s) : Keeps p (State.reportLost s) := by
  unfold State.reportLost
  extract_lets +onlyGivenNames v1
  split
  · exact h
  · split
    · exact h
    · exact State.enterEvent_keeps (keeps_rest h)

theorem State.flushBy_keeps {p s k} (h : Keeps p s) : Keeps p (State.flushBy k s) := by
  induction k generalizing s with
  | zero => exact h
  | succ k ih =>
    unfold State.flushBy
    split
    · exact h
    · split
      · exact h
      · next w ws _ =>
        have h' : Keeps p { s with hop := { s.hop with waiting := ws } } := keeps_hop h.2.1.2.2.2.2.2.2.2.2.2.2.1 h
        dsimp only
        split
        · exact ih (State.commitRec_keeps h')
        · split
          · next t e => exact ih (State.place_keeps h' t e)
          · exact h

theorem State.flush_keeps {p s} (h : Keeps p s) : Keeps p (State.flush s) := by
  unfold State.flush
  exact State.reportLost_keeps (State.flushBy_keeps h)

theorem State.endGap_keeps {p s n} (h : Keeps p s) : Keeps p (State.endGap s n) := by
  unfold State.endGap
  extract_lets +onlyGivenNames v1
  split
  · exact h
  · exact State.enter_keeps (keeps_rest h)

theorem State.growGap_keeps {p s n reason seq inst} (h : Keeps p s) : Keeps p (State.growGap s n reason seq inst) := by
  unfold State.growGap
  extract_lets +onlyGivenNames v1
  extract_lets +onlyGivenNames v2
  extract_lets +onlyGivenNames v3
  have h4 : Keeps p v3 := State.endGap_keeps h
  clear_value v3
  extract_lets +onlyGivenNames v5
  split
  · exact keeps_rest h
  · split
    · split
      · exact keeps_rest h
      · exact State.enter_keeps (keeps_rest h)
    · exact keeps_rest h4

theorem State.gapBlock_keeps {p s n reason b} (h : Keeps p s) : Keeps p (State.gapBlock s n reason b) := by
  unfold State.gapBlock
  exact foldl_keeps_fst (fun _ _ h5 => State.growGap_keeps h5) h

theorem State.enterSource_keeps {p s n} (h : Keeps p s) : Keeps p (State.enterSource s n) := by
  unfold State.enterSource
  extract_lets +onlyGivenNames v1
  extract_lets +onlyGivenNames v2
  have h3 : Keeps p v2 := State.setStream_keeps h
  clear_value v2
  split
  · exact h
  · extract_lets +onlyGivenNames v5
    extract_lets +onlyGivenNames v6
    split
    · exact State.enterRec_keeps h3
    · exact State.enter_keeps h3

theorem State.enterStop_keeps {p s n} (h : Keeps p s) : Keeps p (State.enterStop s n) := by
  unfold State.enterStop
  extract_lets +onlyGivenNames v1
  extract_lets +onlyGivenNames v2
  have h3 : Keeps p v2 := State.enterSource_keeps (State.endGap_keeps h)
  clear_value v2
  extract_lets +onlyGivenNames v4
  extract_lets +onlyGivenNames v5
  have h6 : Keeps p v5 := State.setStream_keeps h3
  clear_value v5
  extract_lets +onlyGivenNames v7
  split
  · exact h
  · extract_lets +onlyGivenNames v9
    split
    · exact h
    · exact State.enter_keeps h6

theorem State.suspendStream_keeps {p s n} (h : Keeps p s) : Keeps p (State.suspendStream s n) := by
  unfold State.suspendStream
  extract_lets +onlyGivenNames v1
  extract_lets +onlyGivenNames v2
  extract_lets +onlyGivenNames v3
  extract_lets +onlyGivenNames v4
  have h5 : Keeps p v4 := State.setStream_keeps h
  clear_value v4
  extract_lets +onlyGivenNames v6
  have h7 : Keeps p v6 := by
    unfold v6
    split
    · exact h5
    · exact State.endGap_keeps h5
  clear_value v6
  extract_lets +onlyGivenNames v8
  have h9 : Keeps p v8 := foldl_keeps (fun _ _ h11 => State.sendDrop_keeps (State.gapBlock_keeps h11)) h7
  clear_value v8
  split
  · exact h
  · split
    · exact State.bump_keeps (State.setE_keeps h9)
    · exact State.enterStop_keeps h9

theorem State.suspendAll_keeps {p s} (h : Keeps p s) : Keeps p (State.suspendAll s) := by
  unfold State.suspendAll
  exact foldl_keeps (fun _ _ h2 => State.suspendStream_keeps h2) h

theorem State.resumeStream_keeps {p s n} (h : Keeps p s) : Keeps p (State.resumeStream s n) := by
  unfold State.resumeStream
  extract_lets +onlyGivenNames v1
  split
  · exact State.setE_keeps (State.setStream_keeps (State.endGap_keeps h))
  · exact h

theorem State.levels_keeps {p s} (h : Keeps p s) : Keeps p (State.levels s) := by
  unfold State.levels
  extract_lets +onlyGivenNames v1
  have h2 : Keeps p v1 := State.flag_keeps h
  clear_value v1
  extract_lets +onlyGivenNames v3
  have h4 : Keeps p v3 := State.flag_keeps h
  clear_value v3
  split
  · split
    · split
      · exact h2
      · exact foldl_keeps (fun _ _ h6 => State.resumeStream_keeps h6) h2
    · exact h
  · split
    · split
      · exact h4
      · exact State.suspendAll_keeps h4
    · exact h

theorem State.arise_keeps {p s q m} (h : Keeps p s) : Keeps p (State.arise s q m) := by
  unfold State.arise
  exact State.levels_keeps (State.enter_keeps h)

theorem State.ledgerEvent_keeps {p s q m} (h : Keeps p s) : Keeps p (State.ledgerEvent s q m) := by
  unfold State.ledgerEvent
  split
  · exact h
  · split
    · exact State.loseEvent_keeps h
    · exact State.levels_keeps (State.reportLost_keeps (State.enterEvent_keeps h))

theorem State.streamEvent_keeps {p s n m} (h : Keeps p s) : Keeps p (State.streamEvent s n m) := by
  unfold State.streamEvent
  exact State.ledgerEvent_keeps h

theorem State.hubEvent_keeps {p s reason detailA instA instB detailB} (h : Keeps p s) : Keeps p (State.hubEvent s reason detailA instA instB detailB) := by
  unfold State.hubEvent
  exact State.ledgerEvent_keeps h

theorem State.gapOutput_keeps {p s n reason seq inst} (h : Keeps p s) : Keeps p (State.gapOutput s n reason seq inst) := by
  unfold State.gapOutput
  exact State.levels_keeps (State.growGap_keeps h)

theorem State.tryStop_keeps {p s n} (h : Keeps p s) : Keeps p (State.tryStop s n) := by
  unfold State.tryStop
  exact State.levels_keeps (State.enterStop_keeps h)

theorem State.spaceFreed_keeps {p s} (h : Keeps p s) : Keeps p (State.spaceFreed s) := by
  unfold State.spaceFreed
  exact State.levels_keeps (State.flush_keeps h)

theorem State.releaseThrough_keeps {p s q r} (h : Keeps p s) : Keeps p (State.releaseThrough s q r).1 := by
  unfold State.releaseThrough
  extract_lets +onlyGivenNames v1
  split
  · exact State.bump_keeps h
  · exact State.spaceFreed_keeps (State.setHq_keeps h)

theorem State.rewindQueue_keeps {p s q r} (h : Keeps p s) : KeepsOpt p (State.rewindQueue s q r) := by
  unfold State.rewindQueue
  extract_lets +onlyGivenNames v1
  split
  · exact KeepsOpt.some (State.spaceFreed_keeps (State.setHq_keeps h))
  · exact KeepsOpt.none

theorem State.setMark_keeps {p s q n} (h : Keeps p s) : Keeps p (State.setMark s q n) := by
  unfold State.setMark
  extract_lets +onlyGivenNames v1
  exact State.setHq_keeps h

theorem State.rewindMark_keeps {p s q n} (h : Keeps p s) : KeepsOpt p (State.rewindMark s q n) := by
  unfold State.rewindMark
  extract_lets +onlyGivenNames v1
  split
  · exact KeepsOpt.some (State.spaceFreed_keeps (State.setHq_keeps h))
  · exact KeepsOpt.map (fun _ _ => State.spaceFreed_keeps (State.setHq_keeps h))

theorem State.releaseMark_keeps {p s q n} (h : Keeps p s) : KeepsOpt p (State.releaseMark s q n) := by
  unfold State.releaseMark
  extract_lets +onlyGivenNames v1
  refine KeepsOpt.map (fun a2 e3 => ?_)
  extract_lets +onlyGivenNames v4
  exact State.spaceFreed_keeps (State.setHq_keeps h)

theorem State.rewindAll_keeps {p s} (h : Keeps p s) : Keeps p (State.rewindAll s) := by
  unfold State.rewindAll
  exact keeps_if (State.spaceFreed_keeps (foldl_keeps (fun _ _ h2 => State.setHq_keeps h2) h))
    (foldl_keeps (fun _ _ h2 => State.setHq_keeps h2) h)

theorem State.restartMarkers_keeps {p s start} (h : Keeps p s) : Keeps p (State.restartMarkers s start) := by
  unfold State.restartMarkers
  extract_lets +onlyGivenNames v1
  extract_lets +onlyGivenNames v2
  have h3 : Keeps p v2 := keeps_rest h
  clear_value v2
  split
  · exact h
  · split
    · exact h3
    · exact State.spaceFreed_keeps (foldl_keeps (fun _ _ h5 => State.commitRec_keeps h5) h3)

theorem State.gapTaskEvent_keeps {p s n t} (h : Keeps p s) : Keeps p (State.gapTaskEvent s n t) := by
  unfold State.gapTaskEvent
  extract_lets +onlyGivenNames v1
  split
  · exact h
  · exact State.streamEvent_keeps h

theorem State.trackGaps_keeps {p s n seq o} (h : Keeps p s) : Keeps p (State.trackGaps s n seq o) := by
  unfold State.trackGaps
  extract_lets +onlyGivenNames v1
  extract_lets +onlyGivenNames v2
  extract_lets +onlyGivenNames v3
  exact foldl_keeps (fun _ _ h5 => State.gapTaskEvent_keeps h5) (State.setStream_keeps h)

theorem State.stepEvent_keeps {p s n t} (h : Keeps p s) : Keeps p (State.stepEvent s n t) := by
  unfold State.stepEvent
  extract_lets +onlyGivenNames v1
  exact State.streamEvent_keeps (State.setStream_keeps h)

theorem State.trackStep_keeps {p s n seq filler} (h : Keeps p s) : Keeps p (State.trackStep s n seq filler) := by
  unfold State.trackStep
  extract_lets +onlyGivenNames v1
  extract_lets +onlyGivenNames v2
  split
  · exact h
  · extract_lets +onlyGivenNames v4
    split
    · exact State.stepEvent_keeps h
    · exact State.setStream_keeps h

theorem State.stepDone_keeps {p s n} (h : Keeps p s) : Keeps p (State.stepDone s n) := by
  unfold State.stepDone
  extract_lets +onlyGivenNames v1
  split
  · exact h
  · split
    · exact State.setStream_keeps h
    · exact State.stepEvent_keeps h

theorem State.closeOpen_keeps {p s n reason wrap} (h : Keeps p s) : Keeps p (State.closeOpen s n reason wrap) := by
  unfold State.closeOpen
  extract_lets +onlyGivenNames v1
  split
  · exact h
  · exact State.setStream_keeps h

theorem State.append_keeps {p s n seq o} (h : Keeps p s) : Keeps p (State.append s n seq o) := by
  unfold State.append
  extract_lets +onlyGivenNames v1
  exact State.setStream_keeps h

theorem State.blockOut_keeps {p s n seq o} (h : Keeps p s) : Keeps p (State.blockOut s n seq o) := by
  unfold State.blockOut
  extract_lets +onlyGivenNames v1
  have h2 : Keeps p v1 := by
    unfold v1
    refine State.append_keeps ?_
    split
    · exact State.closeOpen_keeps h
    · exact h
  clear_value v1
  extract_lets +onlyGivenNames v3
  have h4 : Keeps p v3 := by
    unfold v3
    refine State.append_keeps ?_
    split
    · exact State.closeOpen_keeps h
    · exact h
  clear_value v3
  split
  · split
    · exact State.closeOpen_keeps h2
    · exact h2
  · split
    · exact State.closeOpen_keeps h4
    · exact h4

theorem State.emit_keeps {p s n o filler} (h : Keeps p s) : Keeps p (State.emit s n o filler) := by
  unfold State.emit
  extract_lets +onlyGivenNames v1
  extract_lets +onlyGivenNames v2
  have h3 : Keeps p v2 := State.wrapAdd_keeps h
  clear_value v2
  extract_lets +onlyGivenNames v4
  extract_lets +onlyGivenNames v5
  have h6 : Keeps p v5 := State.setStream_keeps h3
  clear_value v5
  extract_lets +onlyGivenNames v7
  have h8 : Keeps p v7 := by
    unfold v7
    split
    · exact State.gapOutput_keeps h6
    · exact State.blockOut_keeps h6
  clear_value v7
  exact State.trackStep_keeps (State.trackGaps_keeps h8)

theorem State.padBy_keeps {p k s n} (h : Keeps p s) : Keeps p (State.padBy k s n) := by
  induction k generalizing s with
  | zero => exact h
  | succ k ih =>
    unfold State.padBy
    split
    · exact ih (State.emit_keeps h)
    · exact h

theorem State.pad_keeps {p s n} (h : Keeps p s) : Keeps p (State.pad s n) := by
  unfold State.pad
  exact State.padBy_keeps h

theorem State.dropBlock_keeps {p s n b} (h : Keeps p s) : Keeps p (State.dropBlock s n b) := by
  unfold State.dropBlock
  exact State.levels_keeps (State.flag_keeps (State.bump_keeps (State.sendDrop_keeps (State.gapBlock_keeps h))))

theorem State.keepValues_keeps {p s n b} (h : Keeps p s) : Keeps p (State.keepValues s n b) := by
  unfold State.keepValues
  extract_lets +onlyGivenNames v1
  split
  · exact State.setStream_keeps h
  · exact h

theorem State.keepFixed_keeps {p s n b} (h : Keeps p s) : Keeps p (State.keepFixed s n b) := by
  unfold State.keepFixed
  extract_lets +onlyGivenNames v1
  extract_lets +onlyGivenNames v2
  exact State.setStream_keeps h

theorem State.grantBlock_keeps {p s n b} (h : Keeps p s) : Keeps p (State.grantBlock s n b) := by
  unfold State.grantBlock
  extract_lets +onlyGivenNames v1
  extract_lets +onlyGivenNames v2
  have h3 : Keeps p v2 := keeps_rest h
  clear_value v2
  extract_lets +onlyGivenNames v4
  have h5 : Keeps p v4 := by
    unfold v4
    split
    · split
      · exact State.enterSource_keeps (State.endGap_keeps h3)
      · exact h3
    · exact h3
  clear_value v4
  exact State.levels_keeps (State.flag_keeps (State.endGap_keeps h5))

theorem State.noteEncoding_keeps {p s n b abandoned fault verify} (h : Keeps p s) : Keeps p (State.noteEncoding s n b abandoned fault verify) := by
  unfold State.noteEncoding
  extract_lets +onlyGivenNames v1
  have h2 : Keeps p v1 := by
    unfold v1
    split
    · exact State.bump_keeps h
    · exact h
  clear_value v1
  split
  · exact State.event_keeps (State.setE_keeps (State.setE_keeps (State.setE_keeps (State.bump_keeps h2))))
  · exact h2

theorem State.underrun_keeps {p s q popWins} (h : Keeps p s) : Keeps p (State.underrun s q popWins) := by
  unfold State.underrun
  split
  · exact State.bump_keeps h
  · exact h

theorem State.commitBlock_keeps {p s q r popWins} (h : Keeps p s) : Keeps p (State.commitBlock s q r popWins) := by
  unfold State.commitBlock
  extract_lets +onlyGivenNames v1
  extract_lets +onlyGivenNames v2
  have h3 : Keeps p v2 := keeps_rest h
  clear_value v2
  refine State.levels_keeps ?_
  split
  · exact State.wait_keeps h3
  · exact State.commitRec_keeps (State.underrun_keeps h3)

theorem State.encodeBlock_keeps {p s n b verify stalls popWins} (h : Keeps p s) : Keeps p (State.encodeBlock s n b verify stalls popWins) := by
  unfold State.encodeBlock
  extract_lets +onlyGivenNames v1
  have h2 : Keeps p v1 := State.bump_keeps (State.grantBlock_keeps h)
  clear_value v1
  extract_lets +onlyGivenNames v3
  extract_lets +onlyGivenNames v4
  have h5 : Keeps p v4 := State.noteEncoding_keeps (State.keepValues_keeps (State.keepFixed_keeps h2))
  clear_value v4
  split
  · exact State.dropBlock_keeps h
  · exact State.commitBlock_keeps h5

theorem State.blockEncode_keeps {p s n verify stalls popWins} (h : Keeps p s) : Keeps p (State.blockEncode s n verify stalls popWins) := by
  unfold State.blockEncode
  split
  · exact h
  · split
    · exact h
    · extract_lets +onlyGivenNames v3
      split
      · exact h
      · split
        · exact State.tryStop_keeps (State.setStream_keeps h)
        · split
          · exact h
          · exact State.tryStop_keeps (State.encodeBlock_keeps (State.setStream_keeps h))

theorem State.filler_keeps {p s inst angle} (h : Keeps p s) : Keeps p (State.filler s inst angle).2 := by
  unfold State.filler
  extract_lets +onlyGivenNames v1
  extract_lets +onlyGivenNames v2
  exact State.fresh_keeps h

theorem State.emitVal_keeps {p s n v vcode tag inst angle own ref filler} (h : Keeps p s) : Keeps p (State.emitVal s n v vcode tag inst angle own ref filler) := by
  unfold State.emitVal
  extract_lets +onlyGivenNames v1
  exact State.emit_keeps h

theorem State.emitWindow_keeps {p s n ins} (h : Keeps p s) : Keeps p (State.emitWindow s n ins) := by
  unfold State.emitWindow
  extract_lets +onlyGivenNames v1
  extract_lets +onlyGivenNames v2
  extract_lets +onlyGivenNames v3
  extract_lets +onlyGivenNames v4
  split
  · exact h
  · exact State.emitVal_keeps h

theorem State.streamInput_keeps {p s n idx r} (h : Keeps p s) : Keeps p (State.streamInput s n idx r) := by
  unfold State.streamInput
  extract_lets +onlyGivenNames v1
  extract_lets +onlyGivenNames v2
  extract_lets +onlyGivenNames v3
  split
  · exact State.emitVal_keeps h
  · split
    · exact h
    · split
      · exact State.setStream_keeps h
      · exact State.emitWindow_keeps (State.setStream_keeps h)

theorem State.dropWindow_keeps {p s n} (h : Keeps p s) : Keeps p (State.dropWindow s n) := by
  unfold State.dropWindow
  exact State.setStream_keeps h

end Sys2Proof.Machine
end

