-- ==== Sys2Proof/Laws/KeepsIntake.lean ====
section
/-! SUPPORT. What the operations keep (Laws/Keeps.lean): Align, the Millstones, the front ends and excitation. -/

namespace Sys2Proof.Machine

theorem State.alignAt_keeps {p s t x0 x1 x2 x3} (h : Keeps p s) : Keeps p (State.alignAt s t x0 x1 x2 x3).2 := by
  unfold State.alignAt
  extract_lets +onlyGivenNames v1
  extract_lets +onlyGivenNames v2
  dsimp only
  split
  · exact State.bump_keeps h
  · exact h

theorem State.dieTemp_keeps {p s die t} (h : Keeps p s) : Keeps p (State.dieTemp s die t).2 := by
  unfold State.dieTemp
  split
  · exact h
  · exact State.fresh_keeps h

theorem State.linearise_keeps {p s c y t} (h : Keeps p s) : Keeps p (State.linearise s c y t).2.2 := by
  unfold State.linearise
  extract_lets +onlyGivenNames v1
  split
  · exact h
  · exact State.bump_keeps h

theorem State.reference_keeps {p s r t} (h : Keeps p s) : ∀ u v w x s', State.reference s r t = some (u, v, w, x, s') → Keeps p s' := by
  intro u v w x s' e
  unfold State.reference at e
  split at e
  · cases e
  · cases e
    exact State.fresh_keeps h
  · split at e
    · split at e
      · cases e
        exact State.linearise_keeps (State.dieTemp_keeps (State.alignAt_keeps h))
      · cases e
        exact State.linearise_keeps (State.alignAt_keeps h)
    · cases e
      exact State.alignAt_keeps h

theorem State.alignedInput_keeps {p s n t angle x0 x1 x2 x3} (h : Keeps p s) : KeepsPair p (State.alignedInput s n t angle x0 x1 x2 x3) := by
  intro a s' e
  unfold State.alignedInput at e
  dsimp only at e
  split at e
  · cases e
    exact State.alignAt_keeps h
  · split at e
    · split at e
      · cases e
      · next r _ o u vc tg sp t' e' =>
        cases e
        exact State.linearise_keeps (State.alignAt_keeps (State.reference_keeps h _ _ _ _ _ e'))
    · cases e
      refine State.linearise_keeps (State.alignAt_keeps ?_)
      split
      · exact State.dieTemp_keeps h
      · exact h

theorem State.fillAt_keeps {p s n idx t angle} (h : Keeps p s) : Keeps p (State.fillAt s n idx t angle) := by
  unfold State.fillAt
  extract_lets +onlyGivenNames v1
  have h2 : Keeps p v1.2 := State.filler_keeps h
  clear_value v1
  exact State.streamInput_keeps h2

theorem State.gridStep_keeps {p s n e2} (h : Keeps p s) : KeepsOpt p (State.gridStep s n e2) := by
  unfold State.gridStep
  dsimp only
  split
  · exact KeepsOpt.some (State.fillAt_keeps (State.setStream_keeps h))
  · split
    · refine KeepsOpt.map (fun a e => ?_)
      exact State.streamInput_keeps (State.alignedInput_keeps (State.setStream_keeps h) _ _ e)
    · exact KeepsOpt.none

theorem State.gridMark_keeps {p s n a p4} (h : Keeps p s) : Keeps p (State.gridMark s n a p4) := by
  unfold State.gridMark
  extract_lets +onlyGivenNames v1
  have h2 : Keeps p v1 := by
    unfold v1
    split
    · exact h
    · exact State.dropWindow_keeps h
  clear_value v1
  extract_lets +onlyGivenNames v3
  extract_lets +onlyGivenNames v4
  extract_lets +onlyGivenNames v5
  split
  · exact h
  · exact State.streamEvent_keeps h2

theorem State.headMarks_keeps {p k s n} (h : Keeps p s) : Keeps p (State.headMarks k s n) := by
  induction k generalizing s with
  | zero => exact h
  | succ k ih =>
    unfold State.headMarks
    dsimp only
    split
    · split
      · exact ih (State.gridMark_keeps (State.setStream_keeps h))
      · exact h
    · exact h

theorem State.pointStep_keeps {p s n e2} (h : Keeps p s) : KeepsOpt p (State.pointStep s n e2) := by
  unfold State.pointStep
  dsimp only
  split
  · exact KeepsOpt.none
  · have h0 {q l} := State.gridMark_keeps (n := n) (a := s.gridOf n) (p4 := q) (State.setStream_keeps (n := n) (x := l) h)
    split
    · refine KeepsOpt.some ?_
      split
      · exact State.fillAt_keeps (State.setStream_keeps h0)
      · exact h0
    · split
      · exact KeepsOpt.some h0
      · split
        · refine KeepsOpt.map (fun a e => ?_)
          exact State.streamInput_keeps (State.alignedInput_keeps (State.setStream_keeps h0) _ _ e)
        · exact KeepsOpt.none

theorem State.pumpBy_keeps {p k s n} (h : Keeps p s) : Keeps p (State.pumpBy k s n) := by
  induction k generalizing s with
  | zero => exact h
  | succ k ih =>
    unfold State.pumpBy
    have h1 := State.headMarks_keeps (k := (s.stream n).points.length) (n := n) h
    revert h1
    generalize State.headMarks (s.stream n).points.length s n = t
    intro h1
    dsimp only
    split
    · exact h1
    · next e2 _ =>
      have h2 : KeepsOpt p (if t.onTime n then t.gridStep n e2 else t.pointStep n e2) := by
        split
        · exact State.gridStep_keeps h1
        · exact State.pointStep_keeps h1
      split
      · next s' e => exact ih (h2 _ e)
      · exact h1

theorem State.fixGrid_keeps {p s n} (h : Keeps p s) : Keeps p (State.fixGrid s n) := by
  unfold State.fixGrid
  split
  · split
    · exact State.setStream_keeps h
    · exact h
  · exact h

theorem State.pump_keeps {p s n} (h : Keeps p s) : Keeps p (State.pump s n) := by
  unfold State.pump
  extract_lets +onlyGivenNames v0 v1
  have h1 : Keeps p v0 := State.fixGrid_keeps h
  have h2 : Keeps p v1 := State.pumpBy_keeps h1
  clear_value v1
  split
  · split
    · exact State.stepDone_keeps h2
    · exact h2
  · exact h2

theorem State.alignTake_keeps {p s c x} (h : Keeps p s) : Keeps p (State.alignTake s c x) := by
  unfold State.alignTake
  extract_lets +onlyGivenNames v1
  extract_lets +onlyGivenNames v2
  extract_lets +onlyGivenNames v3
  split
  · exact h
  · split
    · exact State.bump_keeps h
    · exact foldl_keeps (fun _ _ h5 => State.pump_keeps h5) (State.setMill_keeps h)

theorem State.toneStart_keeps {p s die c} (h : Keeps p s) : Keeps p (State.toneStart s die c) := by
  unfold State.toneStart
  exact State.setTone_keeps h

theorem State.tonePeriod_keeps {p s die} (h : Keeps p s) : Keeps p (State.tonePeriod s die) := by
  unfold State.tonePeriod
  exact State.fresh_keeps (State.setTone_keeps h)

theorem State.toneFalls_keeps {p s die} (h : Keeps p s) : Keeps p (State.toneFalls s die) := by
  unfold State.toneFalls
  extract_lets +onlyGivenNames v1
  split
  · exact State.setTone_keeps h
  · exact State.setTone_keeps h

theorem State.toneHoldAgain_keeps {p s c} (h : Keeps p s) : Keeps p (State.toneHoldAgain s c) := by
  unfold State.toneHoldAgain
  extract_lets +onlyGivenNames v1
  split
  · exact State.setTone_keeps h
  · exact h

theorem State.toneSample_keeps {p s c vcode stamp} (h : Keeps p s) : Keeps p (State.toneSample s c vcode stamp) := by
  unfold State.toneSample
  extract_lets +onlyGivenNames v1
  extract_lets +onlyGivenNames v2
  extract_lets +onlyGivenNames v3
  split
  · exact State.setTone_keeps h
  · exact h

theorem State.toneBroken_keeps {p s c} (h : Keeps p s) : Keeps p (State.toneBroken s c) := by
  unfold State.toneBroken
  extract_lets +onlyGivenNames v1
  split
  · exact State.setTone_keeps h
  · exact h

theorem State.inScale_keeps {p s v} (h : Keeps p s) : Keeps p (State.inScale s v).2 := by
  unfold State.inScale
  split
  · exact h
  · exact State.fresh_keeps h

theorem State.compensate_keeps {p s c v vcode tag} (h : Keeps p s) : Keeps p (State.compensate s c v vcode tag).2.2.2 := by
  unfold State.compensate
  extract_lets +onlyGivenNames v1
  extract_lets +onlyGivenNames v2
  have h3 : Keeps p v2.2 := State.inScale_keeps h
  clear_value v2
  split
  · exact h3
  · split
    · split
      · exact h
      · extract_lets +onlyGivenNames v7
        have h8 : Keeps p v7.2 := State.inScale_keeps h
        clear_value v7
        exact h8
    · exact h

theorem State.tapOut_keeps {p s c tap x} (h : Keeps p s) : Keeps p (State.tapOut s c tap x) := by
  unfold State.tapOut
  exact foldl_keeps (fun _ _ h2 => State.streamInput_keeps h2) h

theorem State.stages_keeps {p s c x} (h : Keeps p s) : Keeps p (State.stages s c x).1 := by
  unfold State.stages
  extract_lets +onlyGivenNames v1
  extract_lets +onlyGivenNames v2
  extract_lets +onlyGivenNames v3
  split
  · exact State.setMill_keeps h
  · extract_lets +onlyGivenNames v5
    extract_lets +onlyGivenNames v6
    extract_lets +onlyGivenNames v7
    split
    · exact State.setMill_keeps h
    · extract_lets +onlyGivenNames v9
      extract_lets +onlyGivenNames v10
      extract_lets +onlyGivenNames v11
      have h12 : Keeps p v11 := by
        unfold v11
        split
        · exact State.bump_keeps h
        · exact h
      clear_value v11
      split
      · exact State.setMill_keeps h12
      · extract_lets +onlyGivenNames v14
        extract_lets +onlyGivenNames v15
        extract_lets +onlyGivenNames v16
        extract_lets +onlyGivenNames v17
        have h18 : Keeps p v17 := by
          unfold v17
          split
          · exact State.setE_keeps h12
          · exact h12
        clear_value v17
        split
        · exact State.setMill_keeps h12
        · extract_lets +onlyGivenNames v20
          exact State.setMill_keeps h18

theorem State.partnerGap_keeps {p s c idx} (h : Keeps p s) : Keeps p (State.partnerGap s c idx) := by
  unfold State.partnerGap
  split
  · refine foldl_keeps (fun s4 a2 h3 => ?_) h
    extract_lets +onlyGivenNames v5
    exact State.setStream_keeps h3
  · exact h

theorem State.partnerBack_keeps {p s c vcode} (h : Keeps p s) : Keeps p (State.partnerBack s c vcode) := by
  unfold State.partnerBack
  split
  · exact h
  · refine foldl_keeps (fun s4 a2 h3 => ?_) h
    refine foldl_keeps (fun s7 a5 h6 => ?_) h3
    extract_lets +onlyGivenNames v8
    exact State.setStream_keeps h6

theorem State.intake_keeps {p s c code tag vcode stamp} (h : Keeps p s) : Keeps p (State.intake s c code tag vcode stamp).2 := by
  unfold State.intake
  extract_lets +onlyGivenNames v1
  extract_lets +onlyGivenNames v2
  have h3 : Keeps p v2 := State.partnerBack_keeps (State.partnerGap_keeps (State.toneSample_keeps h))
  clear_value v2
  extract_lets +onlyGivenNames v4
  extract_lets +onlyGivenNames v5
  have h6 : Keeps p v5 := State.setMill_keeps h3
  clear_value v5
  extract_lets +onlyGivenNames v7
  have h8 : Keeps p v7.2.2.2 := State.compensate_keeps h6
  clear_value v7
  extract_lets +onlyGivenNames v9
  have h10 : Keeps p v9.2 := State.inScale_keeps h8
  clear_value v9
  exact h10

theorem State.startMill_keeps {p s c} (h : Keeps p s) : Keeps p (State.startMill s c) := by
  unfold State.startMill
  extract_lets +onlyGivenNames v1
  extract_lets +onlyGivenNames v2
  have h3 : Keeps p v2 := State.setMill_keeps h
  clear_value v2
  extract_lets +onlyGivenNames v4
  have h5 : Keeps p v4 := State.setE_keeps h3
  clear_value v4
  exact foldl_keeps (fun _ _ h7 => State.dropWindow_keeps h7) h5

theorem State.startMills_keeps {p s g} (h : Keeps p s) : Keeps p (State.startMills s g) := by
  unfold State.startMills
  exact foldl_keeps (fun _ _ h2 => State.bump_keeps (State.startMill_keeps h2)) h

theorem State.markChain_keeps {p s c tu} (h : Keeps p s) : Keeps p (State.markChain s c tu) := by
  unfold State.markChain
  dsimp only
  refine foldl_keeps (fun _ _ h' => State.setStream_keeps h') (State.setGroup_keeps ?_ (State.setMill_keeps h))
  rw [List.length_map]
  exact buf_le (State.setMill_keeps h) _

theorem State.takeBlank_keeps {p s k} (h : Keeps p s) : Keeps p (State.takeBlank s k) := by
  have h1 (x : Blank) : Keeps p { s with blanks := Tbl.set (Blank.mk none none) s.blanks k x } :=
    keeps_blanks (Tbl.wf_set _ _ h.2.1.2.2.2.2.1) h
  unfold State.takeBlank
  dsimp only
  split
  · exact h1 _
  · split
    · exact h1 _
    · exact h1 _
  · exact h

theorem State.startHold_keeps {p s c} (h : Keeps p s) : Keeps p (State.startHold s c) := by
  unfold State.startHold
  exact State.setChan_keeps h

theorem State.rangeStep_keeps {p s c r} (h : Keeps p s) : Keeps p (State.rangeStep s c r) := by
  unfold State.rangeStep
  extract_lets +onlyGivenNames v1
  extract_lets +onlyGivenNames v2
  have h3 : Keeps p v2 := State.bump_keeps (State.setChan_keeps h)
  clear_value v2
  split
  · exact h
  · exact State.toneHoldAgain_keeps (State.startHold_keeps h3)

theorem State.autoRange_keeps {p s c code} (h : Keeps p s) : Keeps p (State.autoRange s c code) := by
  unfold State.autoRange
  extract_lets +onlyGivenNames v1
  extract_lets +onlyGivenNames v2
  extract_lets +onlyGivenNames v3
  extract_lets +onlyGivenNames v4
  split
  · exact h
  · split
    · exact State.rangeStep_keeps h
    · split
      · exact State.rangeStep_keeps (State.setChan_keeps h)
      · split
        · split
          · exact State.rangeStep_keeps (State.setChan_keeps h)
          · exact State.setChan_keeps h
        · exact State.setChan_keeps h

theorem State.wireEvents_keeps {p s c reason a b detail range} (h : Keeps p s) : Keeps p (State.wireEvents s c reason a b detail range) := by
  unfold State.wireEvents
  split
  · exact State.hubEvent_keeps h
  · refine foldl_keeps (fun s4 a2 h3 => ?_) h
    extract_lets +onlyGivenNames v5
    exact State.fresh_keeps (State.streamEvent_keeps h3)

theorem State.wireBreak_keeps {p s c detector td} (h : Keeps p s) : Keeps p (State.wireBreak s c detector td) := by
  unfold State.wireBreak
  extract_lets +onlyGivenNames v1
  extract_lets +onlyGivenNames v2
  have h3 : Keeps p v2 := State.markChain_keeps h
  clear_value v2
  extract_lets +onlyGivenNames v4
  extract_lets +onlyGivenNames v5
  have h6 : Keeps p v5 := State.toneBroken_keeps (State.setChan_keeps h3)
  clear_value v5
  extract_lets +onlyGivenNames v7
  have h8 : Keeps p v7 := State.bump_keeps (State.setE_keeps h6)
  clear_value v7
  extract_lets +onlyGivenNames v9
  split
  · exact h
  · exact State.wireEvents_keeps (State.event_keeps h8)

theorem State.wireRestored_keeps {p s c at_} (h : Keeps p s) : Keeps p (State.wireRestored s c at_) := by
  unfold State.wireRestored
  extract_lets +onlyGivenNames v1
  extract_lets +onlyGivenNames v2
  have h3 : Keeps p v2 := State.setChan_keeps h
  clear_value v2
  exact State.wireEvents_keeps (State.setE_keeps h3)

theorem State.cleanEvidence_keeps {p s c at_} (h : Keeps p s) : Keeps p (State.cleanEvidence s c at_) := by
  unfold State.cleanEvidence
  extract_lets +onlyGivenNames v1
  extract_lets +onlyGivenNames v2
  extract_lets +onlyGivenNames v3
  have h4 : Keeps p v3 := State.setChan_keeps h
  clear_value v3
  split
  · exact State.setE_keeps h
  · split
    · exact State.wireRestored_keeps h4
    · exact h4
  · exact h

theorem State.judgeCheck_keeps {p s c code last at_} (h : Keeps p s) : Keeps p (State.judgeCheck s c code last at_) := by
  unfold State.judgeCheck
  extract_lets +onlyGivenNames v1
  extract_lets +onlyGivenNames v2
  extract_lets +onlyGivenNames v3
  extract_lets +onlyGivenNames v4
  extract_lets +onlyGivenNames v5
  have h6 : Keeps p v5 := State.setChan_keeps h
  clear_value v5
  extract_lets +onlyGivenNames v7
  extract_lets +onlyGivenNames v8
  have h9 : Keeps p v8 := State.setChan_keeps h6
  clear_value v8
  split
  · exact State.wireBreak_keeps (State.setChan_keeps h6)
  · exact State.cleanEvidence_keeps (State.setE_keeps h9)

theorem State.excursion_keeps {p s c beyond at_} (h : Keeps p s) : Keeps p (State.excursion s c beyond at_) := by
  unfold State.excursion
  extract_lets +onlyGivenNames v1
  extract_lets +onlyGivenNames v2
  have h3 : Keeps p v2 := State.setChan_keeps h
  clear_value v2
  extract_lets +onlyGivenNames v4
  have h5 : Keeps p v4 := State.setChan_keeps h
  clear_value v4
  split
  · exact h
  · split
    · split
      · exact State.wireBreak_keeps h3
      · exact h3
    · split
      · exact h5
      · exact State.cleanEvidence_keeps h5

theorem State.queueWords_keeps {p s ws} (h : Keeps p s) : Keeps p (State.queueWords s ws) := by
  unfold State.queueWords
  exact keeps_rest h

theorem State.oweAnchor_keeps {p s g r} (h : Keeps p s) : Keeps p (State.oweAnchor s g r) := by
  unfold State.oweAnchor
  extract_lets +onlyGivenNames v1
  split
  · exact keeps_rest h
  · exact h

theorem State.sendAnchor_keeps {p s g sched} (h : Keeps p s) : Keeps p (State.sendAnchor s g sched) := by
  unfold State.sendAnchor
  extract_lets +onlyGivenNames v1
  extract_lets +onlyGivenNames v2
  split
  · extract_lets +onlyGivenNames v4
    exact State.queueWords_keeps (keeps_rest h)
  · exact h

theorem State.mirrorRaw_keeps {p s r} (h : Keeps p s) : Keeps p (State.mirrorRaw s r) := by
  unfold State.mirrorRaw
  split
  · exact State.queueWords_keeps (State.sendAnchor_keeps h)
  · exact h

theorem State.mirrorCheck_keeps {p s c entry open_ sched} (h : Keeps p s) : Keeps p (State.mirrorCheck s c entry open_ sched) := by
  unfold State.mirrorCheck
  split
  · exact State.queueWords_keeps (State.sendAnchor_keeps h)
  · exact h

theorem State.paceBit_keeps {p s i} (h : Keeps p s) : Keeps p (State.paceBit s i) := by
  unfold State.paceBit
  split
  · exact h
  · exact State.event_keeps (State.flag_keeps h)

theorem State.sendGaps_go_keeps {p g k s} (h : Keeps p s) : Keeps p (State.sendGaps.go g k s) := by
  induction k generalizing s with
  | zero => exact h
  | succ k ih =>
    unfold State.sendGaps.go
    dsimp only
    split
    · exact h
    · split
      · exact h
      · next m r _ hb =>
        refine ih (State.event_keeps (State.paceBit_keeps (State.bump_keeps (State.mirrorRaw_keeps (State.setGroup_keeps ?_ h)))))
        simp
        omega

theorem State.sendGaps_keeps {p s g} (h : Keeps p s) : Keeps p (State.sendGaps s g) := by
  unfold State.sendGaps
  exact State.sendGaps_go_keeps h

theorem State.pushRaw_keeps {p s g r} (h : Keeps p s) : Keeps p (State.pushRaw s g r) := by
  unfold State.pushRaw
  have h1 := State.sendGaps_keeps (g := g) h
  dsimp only
  split
  · next hb =>
    refine State.mirrorRaw_keeps (State.setGroup_keeps ?_ h1)
    simp
    omega
  · exact State.setGroup_keeps (buf_le h1 g) h1

theorem State.muxSwitch_keeps {p s g i} (h : Keeps p s) : Keeps p (State.muxSwitch s g i) := by
  unfold State.muxSwitch
  extract_lets +onlyGivenNames v1
  exact State.setGroup_keeps (buf_le h _) h

theorem State.muxAim_keeps {p s g origin} (h : Keeps p s) : Keeps p (State.muxAim s g origin) := by
  unfold State.muxAim
  extract_lets +onlyGivenNames v1
  extract_lets +onlyGivenNames v2
  split
  · exact h
  · exact State.setGroup_keeps (buf_le h _) h

theorem State.applyRange_keeps {p s c} (h : Keeps p s) : Keeps p (State.applyRange s c) := by
  unfold State.applyRange
  extract_lets +onlyGivenNames v1
  split
  · exact State.setE_keeps (State.setChan_keeps h)
  · exact h

theorem State.checkConversion_keeps {p s c code at_} (h : Keeps p s) : Keeps p (State.checkConversion s c code at_) := by
  unfold State.checkConversion
  extract_lets +onlyGivenNames v1
  have h2 : Keeps p v1 := State.applyRange_keeps h
  clear_value v1
  split
  · exact h2
  · split
    · exact h2
    · exact State.judgeCheck_keeps h2

theorem State.sample_keeps {p s c entry phase code beyond at_} (h : Keeps p s) : Keeps p (State.sample s c entry phase code beyond at_).2 := by
  unfold State.sample
  extract_lets +onlyGivenNames v1
  extract_lets +onlyGivenNames v2
  extract_lets +onlyGivenNames v3
  extract_lets +onlyGivenNames v4
  have h5 : Keeps p v4 := by
    unfold v4
    split
    · exact h
    · split
      · exact State.applyRange_keeps h
      · exact State.excursion_keeps (State.applyRange_keeps h)
  clear_value v4
  extract_lets +onlyGivenNames v6
  extract_lets +onlyGivenNames v7
  extract_lets +onlyGivenNames v8
  extract_lets +onlyGivenNames v9
  extract_lets +onlyGivenNames v10
  extract_lets +onlyGivenNames v11
  extract_lets +onlyGivenNames v12
  extract_lets +onlyGivenNames v13
  extract_lets +onlyGivenNames v14
  have h15 : Keeps p v14 := State.setChan_keeps h5
  clear_value v14
  extract_lets +onlyGivenNames v16
  have h17 : Keeps p v16 := by
    unfold v16
    split
    · exact h15
    · exact State.autoRange_keeps h15
  clear_value v16
  exact State.fresh_keeps h17

theorem State.advance_keeps {p s g i second} (h : Keeps p s) : Keeps p (State.advance s g i second) := by
  unfold State.advance
  refine State.muxSwitch_keeps (State.setGroup_keeps ?_ h)
  split
  · exact buf_le h g
  · exact buf_le h g

theorem State.reportDissipation_keeps {p s die} (h : Keeps p s) : Keeps p (State.reportDissipation s die) := by
  unfold State.reportDissipation
  extract_lets +onlyGivenNames v1
  extract_lets +onlyGivenNames v2
  have h3 : Keeps p v2 := foldl_keeps (fun _ _ h5 => State.setE_keeps h5) h
  clear_value v2
  exact State.setE_keeps h3

theorem State.settle_keeps {p s g} (h : Keeps p s) : Keeps p (State.settle s g) := by
  unfold State.settle
  extract_lets +onlyGivenNames v1
  exact State.setXport_keeps h

theorem State.deferredLeft_keeps {p s} (h : Keeps p s) : Keeps p (State.deferredLeft s) := by
  unfold State.deferredLeft
  split
  · exact h
  · exact State.flag_keeps h

theorem State.undefer_keeps {p s g} (h : Keeps p s) : Keeps p (State.undefer s g) := by
  unfold State.undefer
  extract_lets +onlyGivenNames v1
  split
  · exact State.deferredLeft_keeps (State.setXport_keeps h)
  · exact h

theorem State.portOn_keeps {p s g} (h : Keeps p s) : Keeps p (State.portOn s g) := by
  unfold State.portOn
  extract_lets +onlyGivenNames v1
  have h2 : Keeps p v1 := State.undefer_keeps h
  clear_value v1
  extract_lets +onlyGivenNames v3
  extract_lets +onlyGivenNames v4
  extract_lets +onlyGivenNames v5
  have h6 : Keeps p v5 := State.setXport_keeps h2
  clear_value v5
  extract_lets +onlyGivenNames v7
  have h8 : Keeps p v7 := keeps_rest h6
  clear_value v7
  exact State.reportDissipation_keeps (State.settle_keeps h8)

theorem State.iepeOff_keeps {p s g} (h : Keeps p s) : Keeps p (State.iepeOff s g) := by
  unfold State.iepeOff
  exact foldl_keeps (fun _ _ h2 => State.setChan_keeps h2) h

theorem State.portOff_keeps {p s g} (h : Keeps p s) : Keeps p (State.portOff s g) := by
  unfold State.portOff
  extract_lets +onlyGivenNames v1
  have h2 : Keeps p v1 := State.undefer_keeps h
  clear_value v1
  extract_lets +onlyGivenNames v3
  split
  · exact State.reportDissipation_keeps (State.iepeOff_keeps (State.setXport_keeps h2))
  · exact h2

theorem State.comeOn_keeps {p s g} (h : Keeps p s) : Keeps p (State.comeOn s g) := by
  unfold State.comeOn
  extract_lets +onlyGivenNames v1
  split
  · exact h
  · split
    · exact State.portOn_keeps h
    · extract_lets +onlyGivenNames v4
      have h5 : Keeps p v4 := by
        unfold v4
        split
        · exact State.flag_keeps h
        · exact h
      clear_value v4
      exact State.setE_keeps h5

theorem State.portsWait_keeps {p s wait} (h : Keeps p s) : Keeps p (State.portsWait s wait) := by
  unfold State.portsWait
  exact foldl_keeps (fun _ _ h2 => State.setXport_keeps h2) h

theorem State.allOff_keeps {p s} (h : Keeps p s) : Keeps p (State.allOff s) := by
  unfold State.allOff
  exact foldl_keeps (fun _ _ h2 => State.portOff_keeps h2) h

theorem State.shedBy_keeps {p k s die} (h : Keeps p s) : Keeps p (State.shedBy k s die) := by
  induction k generalizing s with
  | zero => exact h
  | succ k ih =>
    unfold State.shedBy
    split
    · exact h
    · dsimp only
      split
      · exact h
      · exact ih (State.event_keeps (State.setE_keeps (State.flag_keeps (State.portOff_keeps h))))

theorem State.shed_keeps {p s die} (h : Keeps p s) : Keeps p (State.shed s die) := by
  unfold State.shed
  exact State.reportDissipation_keeps (State.shedBy_keeps h)

theorem State.dischargeDone_keeps {p s g} (h : Keeps p s) : Keeps p (State.dischargeDone s g) := by
  unfold State.dischargeDone
  extract_lets +onlyGivenNames v1
  split
  · exact State.settle_keeps (State.setXport_keeps h)
  · exact h

end Sys2Proof.Machine
end

