-- ==== Sys2Proof/Laws/KeepsLeat.lean ====
section
/-! SUPPORT. What the operations keep (Laws/Keeps.lean): Leat, SERVICE answers, the safety functions, Scrim and the Intake region. -/

namespace Sys2Proof.Machine

theorem State.post_keeps {p s p2 f} (h : Keeps p s) : Keeps p (State.post s p2 f) := by
  unfold State.post
  extract_lets +onlyGivenNames v1
  exact State.setPort_keeps h

theorem State.dropFrame_keeps {p s} (h : Keeps p s) : Keeps p (State.dropFrame s) := by
  unfold State.dropFrame
  exact State.bump_keeps h

theorem State.sendOwn_keeps {p s south ftype payload} (h : Keeps p s) : Keeps p (State.sendOwn s south ftype payload) := by
  unfold State.sendOwn
  split
  · exact h
  · split
    · exact State.dropFrame_keeps h
    · exact State.post_keeps h

theorem State.announce_keeps {p s} (h : Keeps p s) : Keeps p (State.announce s) := by
  unfold State.announce
  exact State.sendOwn_keeps h

theorem State.chainStatus_keeps {p s v} (h : Keeps p s) : Keeps p (State.chainStatus s v) := by
  unfold State.chainStatus
  split
  · exact h
  · exact State.announce_keeps (State.setE_keeps h)

theorem State.chainBit_keeps {p s i b} (h : Keeps p s) : Keeps p (State.chainBit s i b) := by
  unfold State.chainBit
  exact State.chainStatus_keeps h

theorem State.neighbour_keeps {p s p2 payload} (h : Keeps p s) : Keeps p (State.neighbour s p2 payload) := by
  unfold State.neighbour
  exact State.post_keeps h

theorem State.assignNext_keeps {p s} (h : Keeps p s) : Keeps p (State.assignNext s) := by
  unfold State.assignNext
  extract_lets +onlyGivenNames v1
  extract_lets +onlyGivenNames v2
  extract_lets +onlyGivenNames v3
  have h4 : Keeps p v3 := State.neighbour_keeps h
  clear_value v3
  extract_lets +onlyGivenNames v5
  split
  · exact h
  · split
    · split
      · split
        · exact State.chainBit_keeps h4
        · exact h4
      · exact h
    · split
      · exact h
      · exact State.neighbour_keeps h

theorem State.unplaced_keeps {p s} (h : Keeps p s) : Keeps p (State.unplaced s) := by
  unfold State.unplaced
  extract_lets +onlyGivenNames v1
  have h2 : Keeps p v1 := State.setE_keeps (State.setE_keeps (State.setE_keeps (State.setE_keeps h)))
  clear_value v1
  extract_lets +onlyGivenNames v3
  extract_lets +onlyGivenNames v4
  have h5 : Keeps p v4 := keeps_rest h2
  clear_value v4
  extract_lets +onlyGivenNames v6
  have h7 : Keeps p v6 := foldl_keeps (fun _ _ h9 => State.setPort_keeps h9) h5
  clear_value v6
  split
  · exact State.neighbour_keeps h7
  · exact h7

theorem State.enumerate_keeps {p s p2 ladder fromSouth dual chain pos} (h : Keeps p s) : Keeps p (State.enumerate s p2 ladder fromSouth dual chain pos) := by
  unfold State.enumerate
  extract_lets +onlyGivenNames v1
  extract_lets +onlyGivenNames v2
  have h3 : Keeps p v2 := keeps_rest h
  clear_value v2
  extract_lets +onlyGivenNames v4
  have h5 : Keeps p v4 := State.setE_keeps (State.setE_keeps (State.setE_keeps (State.setE_keeps h3)))
  clear_value v4
  extract_lets +onlyGivenNames v6
  have h7 : Keeps p v6 := State.setE_keeps (State.setE_keeps h5)
  clear_value v6
  exact State.assignNext_keeps (State.announce_keeps (State.flag_keeps h7))

theorem State.assigned_keeps {p s p2 m} (h : Keeps p s) : Keeps p (State.assigned s p2 m) := by
  unfold State.assigned
  extract_lets +onlyGivenNames v1
  split
  · split
    · exact h
    · exact State.chainBit_keeps h
  · split
    · exact h
    · split
      · split
        · exact State.enumerate_keeps h
        · exact State.unplaced_keeps h
      · exact h

theorem State.pathNotice_keeps {p s cmd southPath} (h : Keeps p s) : Keeps p (State.pathNotice s cmd southPath) := by
  unfold State.pathNotice
  split
  · exact State.post_keeps h
  · exact h

theorem State.pathDown_keeps {p s p2} (h : Keeps p s) : Keeps p (State.pathDown s p2) := by
  unfold State.pathDown
  extract_lets +onlyGivenNames v1
  have h2 : Keeps p v1 := State.chainBit_keeps h
  clear_value v1
  extract_lets +onlyGivenNames v3
  extract_lets +onlyGivenNames v4
  have h5 : Keeps p v4 := keeps_rest h2
  clear_value v4
  split
  · exact State.pathNotice_keeps h5
  · exact h

theorem State.pathUp_keeps {p s p2} (h : Keeps p s) : Keeps p (State.pathUp s p2) := by
  unfold State.pathUp
  extract_lets +onlyGivenNames v1
  have h2 : Keeps p v1 := State.chainBit_keeps h
  clear_value v1
  extract_lets +onlyGivenNames v3
  extract_lets +onlyGivenNames v4
  have h5 : Keeps p v4 := keeps_rest h2
  clear_value v4
  split
  · exact State.pathNotice_keeps h5
  · exact h

theorem State.southStatus_keeps {p s} (h : Keeps p s) : Keeps p (State.southStatus s) := by
  unfold State.southStatus
  exact State.chainStatus_keeps h

theorem State.unlocked_keeps {p s p2} (h : Keeps p s) : Keeps p (State.unlocked s p2) := by
  unfold State.unlocked
  exact State.setE_keeps h

theorem State.portOff'_keeps {p s p2} (h : Keeps p s) : Keeps p (State.portOff' s p2) := by
  unfold State.portOff'
  extract_lets +onlyGivenNames v1
  have h2 : Keeps p v1 := State.setE_keeps (State.setE_keeps (State.setE_keeps (State.setE_keeps (State.setPort_keeps h))))
  clear_value v1
  split
  · exact State.southStatus_keeps (State.unlocked_keeps h2)
  · exact State.unlocked_keeps h2

theorem State.train_keeps {p s p2 maxRate} (h : Keeps p s) : Keeps p (State.train s p2 maxRate) := by
  unfold State.train
  extract_lets +onlyGivenNames v1
  have h2 : Keeps p v1 := State.portOff'_keeps h
  clear_value v1
  extract_lets +onlyGivenNames v3
  split
  · exact State.unlocked_keeps (State.setE_keeps (State.setPort_keeps h2))
  · exact h2

theorem State.portUp_keeps {p s p2 resume} (h : Keeps p s) : Keeps p (State.portUp s p2 resume) := by
  unfold State.portUp
  extract_lets +onlyGivenNames v1
  extract_lets +onlyGivenNames v2
  have h3 : Keeps p v2 := by
    unfold v2
    split
    · exact State.setPort_keeps h
    · extract_lets +onlyGivenNames v5
      exact State.setPort_keeps h
  extract_lets +onlyGivenNames v6
  extract_lets +onlyGivenNames v7
  have h8 : Keeps p v7 := State.setE_keeps (State.setE_keeps (State.setPort_keeps h3))
  extract_lets +onlyGivenNames v9
  extract_lets +onlyGivenNames v10
  have h11 : Keeps p v10 := by
    unfold v10
    split
    · exact keeps_rest h8
    · exact h8
  extract_lets +onlyGivenNames v12
  have h13 : Keeps p v12 := by
    unfold v12
    split
    · exact State.southStatus_keeps h11
    · exact h11
  extract_lets +onlyGivenNames v14
  have h15 : Keeps p v14 := State.pathUp_keeps h13
  split
  · split
    · exact State.neighbour_keeps h15
    · exact h15
  · split
    · exact State.assignNext_keeps h15
    · exact h15

theorem State.trained_keeps {p s p2 t} (h : Keeps p s) : Keeps p (State.trained s p2 t) := by
  unfold State.trained
  extract_lets +onlyGivenNames v1
  extract_lets +onlyGivenNames v2
  extract_lets +onlyGivenNames v3
  extract_lets +onlyGivenNames v4
  have h5 : Keeps p v4 := State.setPort_keeps h
  clear_value v4
  split
  · exact h
  · split
    · split
      · exact State.setPort_keeps h
      · exact h
    · split
      · split
        · exact State.setPort_keeps h
        · exact State.setE_keeps (State.setPort_keeps h)
      · exact h
    · split
      · exact State.setPort_keeps h
      · exact h
    · split
      · split
        · exact h5
        · exact State.setE_keeps h5
      · exact h
    · split
      · split
        · exact State.portUp_keeps h
        · exact State.setPort_keeps h
      · exact h
    · split
      · exact State.portUp_keeps h
      · exact h

theorem State.lanes_keeps {p s p2 t} (h : Keeps p s) : Keeps p (State.lanes s p2 t) := by
  unfold State.lanes
  extract_lets +onlyGivenNames v1
  extract_lets +onlyGivenNames v2
  extract_lets +onlyGivenNames v3
  have h4 : Keeps p v3 := State.bump_keeps h
  clear_value v3
  extract_lets +onlyGivenNames v5
  have h6 : Keeps p v5 := State.setE_keeps (State.setE_keeps (State.setE_keeps h4))
  clear_value v5
  extract_lets +onlyGivenNames v7
  have h8 : Keeps p v7 := State.setE_keeps h6
  clear_value v7
  split
  · exact State.southStatus_keeps h8
  · exact h8

theorem State.retrainPort_keeps {p s p2} (h : Keeps p s) : Keeps p (State.retrainPort s p2) := by
  unfold State.retrainPort
  extract_lets +onlyGivenNames v1
  extract_lets +onlyGivenNames v2
  have h3 : Keeps p v2 := State.setPort_keeps h
  clear_value v2
  exact State.unlocked_keeps (State.bump_keeps (State.setE_keeps (State.setE_keeps h3)))

theorem State.portDownNow_keeps {p s p2} (h : Keeps p s) : Keeps p (State.portDownNow s p2) := by
  unfold State.portDownNow
  extract_lets +onlyGivenNames v1
  have h2 : Keeps p v1 := by
    unfold v1
    split
    · exact State.rewindAll_keeps h
    · exact h
  clear_value v1
  extract_lets +onlyGivenNames v3
  exact State.pathDown_keeps (State.train_keeps (State.bump_keeps h2))

theorem State.forward_keeps {p s p2 f} (h : Keeps p s) : Keeps p (State.forward s p2 f) := by
  unfold State.forward
  extract_lets +onlyGivenNames v1
  split
  · exact State.dropFrame_keeps h
  · split
    · exact State.setPort_keeps h
    · exact State.dropFrame_keeps h

theorem State.consume_keeps {p s f} (h : Keeps p s) : Keeps p (State.consume s f) := by
  unfold State.consume
  exact keeps_rest h

theorem State.route_keeps {p s p2 f} (h : Keeps p s) : Keeps p (State.route s p2 f) := by
  unfold State.route
  extract_lets +onlyGivenNames v1
  extract_lets +onlyGivenNames v2
  extract_lets +onlyGivenNames v3
  have h4 : Keeps p v3 := by
    unfold v3
    split
    · exact keeps_rest h
    · exact h
  clear_value v3
  split
  · exact State.dropFrame_keeps h
  · split
    · exact State.dropFrame_keeps h
    · split
      · split
        · exact State.consume_keeps h
        · exact h
      · split
        · exact State.dropFrame_keeps h
        · split
          · exact State.consume_keeps h
          · split
            · exact State.forward_keeps (State.consume_keeps h4)
            · split
              · exact State.consume_keeps h
              · exact State.forward_keeps h

theorem State.receive_keeps {p s p2 b codeError} (h : Keeps p s) : Keeps p (State.receive s p2 b codeError) := by
  unfold State.receive
  extract_lets +onlyGivenNames v1
  extract_lets +onlyGivenNames v2
  extract_lets +onlyGivenNames v3
  extract_lets +onlyGivenNames v4
  extract_lets +onlyGivenNames v5
  extract_lets +onlyGivenNames v6
  have h7 : Keeps p v6 := by
    unfold v6
    split
    · exact State.bump_keeps h
    · exact h
  clear_value v6
  extract_lets +onlyGivenNames v8
  have h9 : Keeps p v8 := by
    unfold v8
    split
    · exact h7
    · exact State.bump_keeps h7
  clear_value v8
  split
  · split
    · exact State.route_keeps h9
    · exact State.bump_keeps h9
  · split
    · exact State.route_keeps (State.setPort_keeps h9)
    · split
      · exact State.setPort_keeps h9
      · split
        · split
          · exact State.setPort_keeps h9
          · exact h9
        · exact State.setPort_keeps h9

theorem State.lay_keeps {p s p2 cols} (h : Keeps p s) : Keeps p (State.lay s p2 cols) := by
  unfold State.lay
  extract_lets +onlyGivenNames v1
  extract_lets +onlyGivenNames v2
  exact State.setPort_keeps h

theorem State.sendSet_keeps {p s p2 o} (h : Keeps p s) : Keeps p (State.sendSet s p2 o) := by
  unfold State.sendSet
  exact State.lay_keeps (State.setPort_keeps h)

theorem State.skipDue_keeps {p s p2} (h : Keeps p s) : Keeps p (State.skipDue s p2) := by
  unfold State.skipDue
  extract_lets +onlyGivenNames v1
  have h2 : Keeps p v1 := State.setPort_keeps h
  clear_value v1
  extract_lets +onlyGivenNames v3
  have h4 : Keeps p v3 := State.sendSet_keeps h2
  clear_value v3
  extract_lets +onlyGivenNames v5
  split
  · exact h
  · exact State.setPort_keeps h4

theorem State.transmit_keeps {p s p2 f control} (h : Keeps p s) : Keeps p (State.transmit s p2 f control) := by
  unfold State.transmit
  extract_lets +onlyGivenNames v1
  extract_lets +onlyGivenNames v2
  exact State.lay_keeps (State.setPort_keeps h)

theorem State.retransmit_keeps {p s p2} (h : Keeps p s) : Keeps p (State.retransmit s p2) := by
  unfold State.retransmit
  extract_lets +onlyGivenNames v1
  extract_lets +onlyGivenNames v2
  split
  · exact State.setPort_keeps h
  · extract_lets +onlyGivenNames v4
    extract_lets +onlyGivenNames v5
    split
    · exact h
    · exact State.bump_keeps (State.lay_keeps (State.setPort_keeps h))

theorem State.answerSets_keeps {p s p2} (h : Keeps p s) : Keeps p (State.answerSets s p2) := by
  unfold State.answerSets
  extract_lets +onlyGivenNames v1
  extract_lets +onlyGivenNames v2
  extract_lets +onlyGivenNames v3
  split
  · exact State.sendSet_keeps (State.setPort_keeps h)
  · exact h

theorem State.takeForwarded_keeps {p s q f} (h : Keeps p s) : Keeps p (State.takeForwarded s q f) := by
  unfold State.takeForwarded
  exact State.setPort_keeps h

theorem State.nextControl_keeps {p s p2} (h : Keeps p s) : KeepsPair p (State.nextControl s p2) := by
  unfold State.nextControl
  extract_lets +onlyGivenNames v1
  split
  · exact KeepsPair.some (State.setPort_keeps h)
  · split
    · exact KeepsPair.none
    · exact KeepsPair.map (fun _ _ => State.takeForwarded_keeps h)

theorem State.sendSample_keeps {p s p2 q before} (h : Keeps p s) : Keeps p (State.sendSample s p2 q before) := by
  unfold State.sendSample
  extract_lets +onlyGivenNames v1
  extract_lets +onlyGivenNames v2
  extract_lets +onlyGivenNames v3
  extract_lets +onlyGivenNames v4
  extract_lets +onlyGivenNames v5
  have h6 : Keeps p v5 := State.setHq_keeps h
  clear_value v5
  extract_lets +onlyGivenNames v7
  have h8 : Keeps p v7 := by
    unfold v7
    split
    · exact State.spaceFreed_keeps h6
    · exact h6
  clear_value v7
  extract_lets +onlyGivenNames v9
  extract_lets +onlyGivenNames v10
  have h11 : Keeps p v10 := keeps_rest h8
  clear_value v10
  exact State.transmit_keeps (State.wrapAdd_keeps (State.wrapAdd_keeps h11))

theorem State.creditStall_keeps {p s p2} (h : Keeps p s) : Keeps p (State.creditStall s p2) := by
  unfold State.creditStall
  extract_lets +onlyGivenNames v1
  extract_lets +onlyGivenNames v2
  extract_lets +onlyGivenNames v3
  have h4 : Keeps p v3 := keeps_rest h
  clear_value v3
  split
  · exact h
  · split
    · exact h
    · split
      · exact State.bump_keeps h4
      · exact h4

theorem State.tryOwn_keeps {p s p2} (h : Keeps p s) : KeepsOpt p (State.tryOwn s p2) := by
  unfold State.tryOwn
  split
  · exact KeepsOpt.none
  · split
    · exact KeepsOpt.none
    · split
      · exact KeepsOpt.some (State.sendSample_keeps h)
      · exact KeepsOpt.none

theorem State.tryForwarded_keeps {p s p2} (h : Keeps p s) : KeepsOpt p (State.tryForwarded s p2) := by
  unfold State.tryForwarded
  split
  · exact KeepsOpt.none
  · split
    · exact KeepsOpt.some (State.transmit_keeps (State.takeForwarded_keeps h))
    · exact KeepsOpt.none

theorem State.sampleTurn_keeps {p s n} (h : Keeps p s) : Keeps p (State.sampleTurn s n) := by
  unfold State.sampleTurn
  dsimp only
  have ho : KeepsOpt p ((s.tryOwn n).map (fun t => t.setPort n { t.port n with ownTurn := false })) :=
    KeepsOpt.map (fun a e => State.setPort_keeps (State.tryOwn_keeps h a e))
  have hf : KeepsOpt p ((s.tryForwarded n).map (fun t => t.setPort n { t.port n with ownTurn := true })) :=
    KeepsOpt.map (fun a e => State.setPort_keeps (State.tryForwarded_keeps h a e))
  refine KeepsOpt.getD ?_ h
  split
  · exact KeepsOpt.or ho hf
  · exact KeepsOpt.or hf ho

theorem State.controlOrSample_keeps {p s p2} (h : Keeps p s) : Keeps p (State.controlOrSample s p2) := by
  unfold State.controlOrSample
  split
  · rename_i x4 x5 x6 x7
    have h8 := State.nextControl_keeps h _ _ x7
    split
    · split
      · exact State.transmit_keeps h8
      · exact h
    · exact State.sampleTurn_keeps h
  · exact State.sampleTurn_keeps h

theorem State.sendTiming_keeps {p s p2 t} (h : Keeps p s) : Keeps p (State.sendTiming s p2 t) := by
  unfold State.sendTiming
  extract_lets +onlyGivenNames v1
  extract_lets +onlyGivenNames v2
  extract_lets +onlyGivenNames v3
  extract_lets +onlyGivenNames v4
  extract_lets +onlyGivenNames v5
  have h6 : Keeps p v5 := State.lay_keeps (State.setPort_keeps h)
  clear_value v5
  extract_lets +onlyGivenNames v7
  split
  · split
    · exact State.setDom_keeps h6
    · exact h6
  · exact h6

theorem State.idleFill_keeps {p s p2} (h : Keeps p s) : Keeps p (State.idleFill s p2) := by
  unfold State.idleFill
  split
  · exact State.sendSet_keeps h
  · exact h

theorem State.openBoundary_keeps {p s p2} (h : Keeps p s) : Keeps p (State.openBoundary s p2) := by
  unfold State.openBoundary
  exact State.skipDue_keeps (State.setPort_keeps h)

theorem State.afterTiming_keeps {p s p2} (h : Keeps p s) : Keeps p (State.afterTiming s p2) := by
  unfold State.afterTiming
  extract_lets +onlyGivenNames v1
  have h2 : Keeps p v1 := State.answerSets_keeps h
  clear_value v1
  refine State.idleFill_keeps ?_
  split
  · exact State.retransmit_keeps h2
  · exact State.controlOrSample_keeps h2

theorem State.boundary_keeps {p s p2} (h : Keeps p s) : Keeps p (State.boundary s p2) := by
  unfold State.boundary
  extract_lets +onlyGivenNames v1
  have h2 : Keeps p v1 := State.creditStall_keeps (State.openBoundary_keeps h)
  clear_value v1
  split
  · split
    · exact State.sendTiming_keeps h2
    · exact State.afterTiming_keeps h2
  · exact State.afterTiming_keeps h2

theorem State.trainBoundary_keeps {p s p2} (h : Keeps p s) : Keeps p (State.trainBoundary s p2) := by
  unfold State.trainBoundary
  extract_lets +onlyGivenNames v1
  have h2 : Keeps p v1 := State.openBoundary_keeps h
  clear_value v1
  extract_lets +onlyGivenNames v3
  extract_lets +onlyGivenNames v4
  extract_lets +onlyGivenNames v5
  extract_lets +onlyGivenNames v6
  have h7 : Keeps p v6 := State.sendSet_keeps h2
  clear_value v6
  extract_lets +onlyGivenNames v8
  split
  · exact State.sendSet_keeps h2
  · split
    · exact State.setPort_keeps h2
    · exact State.setPort_keeps h7

theorem State.creditReleases_keeps {p s m} (h : Keeps p s) : Keeps p (State.creditReleases s m) := by
  unfold State.creditReleases
  refine foldl_keeps (fun t a h2 => ?_) h
  dsimp only
  split
  · split
    · exact State.bump_keeps (State.releaseThrough_keeps h2)
    · exact State.releaseThrough_keeps h2
  · exact h2

theorem State.creditRewind_keeps {p s m} (h : Keeps p s) : Keeps p (State.creditRewind s m) := by
  unfold State.creditRewind
  split
  · split
    · rename_i x1 x2 x3
      have h4 := State.rewindQueue_keeps h _ x3
      exact h4
    · exact State.bump_keeps h
  · exact h

theorem State.creditLimit_keeps {p s v} (h : Keeps p s) : Keeps p (State.creditLimit s v) := by
  unfold State.creditLimit
  split
  · exact State.setE_keeps h
  · exact h

theorem State.take_keeps {p s f} (h : Keeps p s) : Keeps p (State.take s f) := by
  unfold State.take
  exact keeps_rest h

theorem State.sendResponse_keeps {p s south b} (h : Keeps p s) : Keeps p (State.sendResponse s south b) := by
  unfold State.sendResponse
  exact State.sendOwn_keeps h

theorem State.setTxns_keeps {p s l} (h : Keeps p s) : Keeps p (State.setTxns s l) := by
  unfold State.setTxns
  exact State.setE_keeps (keeps_rest h)

theorem State.complete_keeps {p s txn south req resp} (h : Keeps p s) : Keeps p (State.complete s txn south req resp) := by
  unfold State.complete
  extract_lets +onlyGivenNames v1
  have h2 : Keeps p v1 := State.setTxns_keeps h
  clear_value v1
  extract_lets +onlyGivenNames v3
  exact State.sendResponse_keeps (keeps_rest h2)

theorem State.countAbort_keeps {p s idx sub code} (h : Keeps p s) : Keeps p (State.countAbort s idx sub code) := by
  unfold State.countAbort
  exact State.setE_keeps (State.setE_keeps (State.bump_keeps h))

theorem State.refuse_keeps {p s txn south req idx sub code} (h : Keeps p s) : Keeps p (State.refuse s txn south req idx sub code) := by
  unfold State.refuse
  exact State.complete_keeps (State.countAbort_keeps h)

theorem State.reject_keeps {p s txn south idx sub code} (h : Keeps p s) : Keeps p (State.reject s txn south idx sub code) := by
  unfold State.reject
  exact State.sendResponse_keeps (State.countAbort_keeps h)

theorem State.answerReq_keeps {p s txn south req idx sub code} (h : Keeps p s) : Keeps p (State.answerReq s txn south req idx sub code) := by
  unfold State.answerReq
  split
  · exact State.complete_keeps h
  · exact State.refuse_keeps h

theorem State.answer_keeps {p s txn code} (h : Keeps p s) : Keeps p (State.answer s txn code) := by
  unfold State.answer
  split
  · exact h
  · split
    · exact State.answerReq_keeps h
    · exact h

theorem State.opStart_keeps {p s code} (h : Keeps p s) : Keeps p (State.opStart s code) := by
  unfold State.opStart
  extract_lets +onlyGivenNames v1
  exact State.bump_keeps (State.setE_keeps (State.setE_keeps (State.setE_keeps (State.setE_keeps (State.setE_keeps (State.setE_keeps (State.setE_keeps h)))))))

theorem State.opProgress_keeps {p s code permille pos} (h : Keeps p s) : Keeps p (State.opProgress s code permille pos) := by
  unfold State.opProgress
  exact State.setE_keeps (State.setE_keeps h)

theorem State.opLeave_keeps {p s code st} (h : Keeps p s) : Keeps p (State.opLeave s code st) := by
  unfold State.opLeave
  exact State.setE_keeps (State.setE_keeps (State.setE_keeps h))

theorem State.opDone_keeps {p s code result} (h : Keeps p s) : Keeps p (State.opDone s code result) := by
  unfold State.opDone
  exact State.setE_keeps (State.setE_keeps (State.opLeave_keeps h))

theorem State.opCancelled_keeps {p s code} (h : Keeps p s) : Keeps p (State.opCancelled s code) := by
  unfold State.opCancelled
  exact State.opLeave_keeps h

theorem State.opAbort_keeps {p s code reason} (h : Keeps p s) : Keeps p (State.opAbort s code reason) := by
  unfold State.opAbort
  split
  · exact State.setE_keeps (State.opLeave_keeps h)
  · exact h

theorem State.opsReset_keeps {p s} (h : Keeps p s) : Keeps p (State.opsReset s) := by
  unfold State.opsReset
  exact keeps_dict h

theorem State.abortSweep_keeps {p s reason} (h : Keeps p s) : Keeps p (State.abortSweep s reason) := by
  unfold State.abortSweep
  split
  · exact foldl_keeps (fun _ _ h2 => State.toneFalls_keeps h2) (State.opAbort_keeps h)
  · exact h

theorem State.inputFollow_keeps {p s i} (h : Keeps p s) : Keeps p (State.inputFollow s i) := by
  unfold State.inputFollow
  exact State.setE_keeps h

theorem State.debounce_keeps {p s i chB} (h : Keeps p s) : Keeps p (State.debounce s i chB) := by
  unfold State.debounce
  extract_lets +onlyGivenNames v1
  extract_lets +onlyGivenNames v2
  split
  · exact h
  · split
    · exact State.flag_keeps h
    · exact h

theorem State.discrepancy_keeps {p s i} (h : Keeps p s) : Keeps p (State.discrepancy s i) := by
  unfold State.discrepancy
  split
  · exact State.inputFollow_keeps (State.bump_keeps (State.flag_keeps h))
  · exact h

theorem State.inputTick_keeps {p s i a b} (h : Keeps p s) : Keeps p (State.inputTick s i a b) := by
  unfold State.inputTick
  extract_lets +onlyGivenNames v1
  extract_lets +onlyGivenNames v2
  have h3 : Keeps p v2 := State.setInput_keeps h
  clear_value v2
  extract_lets +onlyGivenNames v4
  have h5 : Keeps p v4 := State.debounce_keeps (State.debounce_keeps h3)
  clear_value v4
  extract_lets +onlyGivenNames v6
  extract_lets +onlyGivenNames v7
  have h8 : Keeps p v7 := State.flag_keeps h5
  clear_value v7
  extract_lets +onlyGivenNames v9
  extract_lets +onlyGivenNames v10
  have h11 : Keeps p v10 := State.setInput_keeps h8
  clear_value v10
  exact State.inputFollow_keeps (State.discrepancy_keeps h11)

theorem State.inputAck_keeps {p s i} (h : Keeps p s) : Keeps p (State.inputAck s i) := by
  unfold State.inputAck
  extract_lets +onlyGivenNames v1
  extract_lets +onlyGivenNames v2
  have h3 : Keeps p v2 := State.setInput_keeps h
  clear_value v2
  split
  · exact h
  · split
    · exact State.answer_keeps (State.inputFollow_keeps (State.flag_keeps h3))
    · exact State.answer_keeps h3

theorem State.cmpDemand_keeps {p s l} (h : Keeps p s) : Keeps p (State.cmpDemand s l) := by
  unfold State.cmpDemand
  extract_lets +onlyGivenNames v1
  extract_lets +onlyGivenNames v2
  have h3 : Keeps p v2 := State.setCmp_keeps h
  clear_value v2
  split
  · exact State.bump_keeps (State.setE_keeps h3)
  · exact h3

theorem State.cmpSample_keeps {p s l v vcode} (h : Keeps p s) : Keeps p (State.cmpSample s l v vcode) := by
  unfold State.cmpSample
  extract_lets +onlyGivenNames v1
  extract_lets +onlyGivenNames v2
  extract_lets +onlyGivenNames v3
  extract_lets +onlyGivenNames v4
  have h5 : Keeps p v4 := State.setCmp_keeps h
  clear_value v4
  extract_lets +onlyGivenNames v6
  have h7 : Keeps p v6 := State.setCmp_keeps h
  clear_value v6
  extract_lets +onlyGivenNames v8
  have h9 : Keeps p v8 := State.setCmp_keeps h
  clear_value v8
  split
  · split
    · exact State.cmpDemand_keeps h5
    · exact h5
  · split
    · split
      · exact State.cmpDemand_keeps h7
      · exact h7
    · split
      · split
        · exact State.setE_keeps h9
        · exact h9
      · exact State.setCmp_keeps h

theorem State.comparators_keeps {p s c tap x} (h : Keeps p s) : Keeps p (State.comparators s c tap x) := by
  unfold State.comparators
  split
  · exact foldl_keeps (fun _ _ h2 => State.cmpSample_keeps h2) h
  · exact h

theorem State.cmpRefresh_keeps {p s l} (h : Keeps p s) : Keeps p (State.cmpRefresh s l) := by
  unfold State.cmpRefresh
  split
  · exact State.cmpDemand_keeps h
  · exact h

theorem State.drivePin_keeps {p s n chB level} (h : Keeps p s) : Keeps p (State.drivePin s n chB level) := by
  unfold State.drivePin
  extract_lets +onlyGivenNames v1
  extract_lets +onlyGivenNames v2
  split
  · split
    · exact h
    · exact State.setTrip_keeps (keeps_rest h)
  · split
    · exact h
    · exact State.setTrip_keeps (keeps_rest h)

theorem State.drive_keeps {p s n} (h : Keeps p s) : Keeps p (State.drive s n) := by
  unfold State.drive
  exact State.drivePin_keeps (State.drivePin_keeps h)

theorem State.pulseBit_keeps {p s n} (h : Keeps p s) : Keeps p (State.pulseBit s n) := by
  unfold State.pulseBit
  exact State.flag_keeps h

theorem State.tripTo_keeps {p s n st} (h : Keeps p s) : Keeps p (State.tripTo s n st) := by
  unfold State.tripTo
  extract_lets +onlyGivenNames v1
  have h2 : Keeps p v1 := by
    unfold v1
    split
    · exact State.bump_keeps h
    · exact h
  clear_value v1
  extract_lets +onlyGivenNames v3
  extract_lets +onlyGivenNames v4
  have h5 : Keeps p v4 := State.setTrip_keeps h2
  clear_value v4
  exact State.drive_keeps (State.pulseBit_keeps (State.setE_keeps (State.setE_keeps h5)))

theorem State.readbackFault_keeps {p s n chB} (h : Keeps p s) : Keeps p (State.readbackFault s n chB) := by
  unfold State.readbackFault
  extract_lets +onlyGivenNames v1
  have h2 : Keeps p v1 := State.flag_keeps h
  clear_value v1
  split
  · exact h2
  · exact State.tripTo_keeps h2

theorem State.readback_keeps {p s n chB tf} (h : Keeps p s) : Keeps p (State.readback s n chB tf) := by
  unfold State.readback
  extract_lets +onlyGivenNames v1
  extract_lets +onlyGivenNames v2
  extract_lets +onlyGivenNames v3
  extract_lets +onlyGivenNames v4
  extract_lets +onlyGivenNames v5
  extract_lets +onlyGivenNames v6
  extract_lets +onlyGivenNames v7
  extract_lets +onlyGivenNames v8
  have h9 : Keeps p v8 := State.setTrip_keeps h
  clear_value v8
  split
  · exact State.setTrip_keeps h
  · split
    · exact State.readbackFault_keeps h
    · split
      · split
        · exact State.readbackFault_keeps h9
        · exact h9
      · exact h

theorem State.startPulse_keeps {p s n chB} (h : Keeps p s) : Keeps p (State.startPulse s n chB) := by
  unfold State.startPulse
  extract_lets +onlyGivenNames v1
  split
  · split
    · exact State.drive_keeps (State.pulseBit_keeps (State.setTrip_keeps h))
    · exact h
  · split
    · exact State.drive_keeps (State.pulseBit_keeps (State.setTrip_keeps h))
    · exact h

theorem State.endPulse_keeps {p s n chB} (h : Keeps p s) : Keeps p (State.endPulse s n chB) := by
  unfold State.endPulse
  extract_lets +onlyGivenNames v1
  extract_lets +onlyGivenNames v2
  split
  · split
    · exact State.pulseBit_keeps (State.setTrip_keeps h)
    · exact h
  · exact h

theorem State.tripAck_keeps {p s n p3} (h : Keeps p s) : Keeps p (State.tripAck s n p3) := by
  unfold State.tripAck
  extract_lets +onlyGivenNames v1
  extract_lets +onlyGivenNames v2
  extract_lets +onlyGivenNames v3
  have h4 : Keeps p v3 := State.setTrip_keeps h
  clear_value v3
  extract_lets +onlyGivenNames v5
  have h6 : Keeps p v5 := by
    unfold v5
    split
    · exact State.setE_keeps (State.flag_keeps (State.flag_keeps h4))
    · exact h4
  clear_value v5
  split
  · exact h
  · exact State.answer_keeps h6

theorem State.tripEval_keeps {p s n} (h : Keeps p s) : Keeps p (State.tripEval s n) := by
  unfold State.tripEval
  extract_lets +onlyGivenNames v1
  extract_lets +onlyGivenNames v2
  have h3 : Keeps p v2 := State.flag_keeps h
  clear_value v2
  split
  · split
    · exact State.tripTo_keeps h3
    · exact State.setE_keeps h3
  · split
    · exact h3
    · split
      · exact State.tripTo_keeps h3
      · split
        · exact State.tripTo_keeps h3
        · split
          · exact State.setE_keeps h3
          · exact h3

theorem State.tripTick_keeps {p s n p3} (h : Keeps p s) : Keeps p (State.tripTick s n p3) := by
  unfold State.tripTick
  extract_lets +onlyGivenNames v1
  have h2 : Keeps p v1 := State.tripEval_keeps (State.tripAck_keeps h)
  clear_value v1
  extract_lets +onlyGivenNames v3
  have h4 : Keeps p v3 := State.endPulse_keeps (State.endPulse_keeps h2)
  clear_value v3
  extract_lets +onlyGivenNames v5
  have h6 : Keeps p v5 := State.drive_keeps h4
  clear_value v5
  extract_lets +onlyGivenNames v7
  have h8 : Keeps p v7 := by
    unfold v7
    split
    · exact State.readback_keeps (State.readback_keeps h6)
    · exact h6
  clear_value v7
  exact State.startPulse_keeps (State.startPulse_keeps h8)

theorem State.safetyFault_keeps {p s} (h : Keeps p s) : Keeps p (State.safetyFault s) := by
  unfold State.safetyFault
  split
  · exact h
  · exact State.bump_keeps (State.flag_keeps h)

theorem State.tick10_keeps {p s p2 mismatch} (h : Keeps p s) : Keeps p (State.tick10 s p2 mismatch) := by
  unfold State.tick10
  extract_lets +onlyGivenNames v1
  extract_lets +onlyGivenNames v2
  have h3 : Keeps p v2 := keeps_rest h
  clear_value v2
  extract_lets +onlyGivenNames v4
  have h5 : Keeps p v4 := foldl_keeps (fun _ _ h7 => State.inputTick_keeps h7) h3
  clear_value v4
  extract_lets +onlyGivenNames v9
  have h10 : Keeps p v9 := foldl_keeps (fun _ _ h12 => State.cmpRefresh_keeps h12) h5
  clear_value v9
  extract_lets +onlyGivenNames v14
  have h15 : Keeps p v14 := foldl_keeps (fun _ _ h17 => State.inputAck_keeps h17) h10
  clear_value v14
  extract_lets +onlyGivenNames v19
  have h20 : Keeps p v19 := by
    unfold v19
    split
    · exact State.safetyFault_keeps h15
    · exact h15
  clear_value v19
  exact foldl_keeps (fun _ _ h22 => State.tripTick_keeps h22) h20

theorem State.pinsLow_keeps {p s} (h : Keeps p s) : Keeps p (State.pinsLow s) := by
  unfold State.pinsLow
  exact foldl_keeps (fun _ _ h2 => State.drivePin_keeps (State.drivePin_keeps h2)) h

theorem State.reactions_keeps {p s} (h : Keeps p s) : Keeps p (State.reactions s) := by
  unfold State.reactions
  exact foldl_keeps (fun _ _ h2 => State.setE_keeps h2) h

theorem State.sealCompare_keeps {p s} (h : Keeps p s) : Keeps p (State.sealCompare s) := by
  unfold State.sealCompare
  extract_lets +onlyGivenNames v1
  extract_lets +onlyGivenNames v2
  have h3 : Keeps p v2 := State.flag_keeps h
  clear_value v2
  split
  · split
    · exact h3
    · exact State.flag_keeps h3
  · exact State.flag_keeps h

theorem State.openScrims_keeps {p s} (h : Keeps p s) : Keeps p (State.openScrims s) := by
  unfold State.openScrims
  refine foldl_keeps (fun s a h => ?_) (keeps_scrims rfl h)
  split
  · exact State.setE_keeps h
  · exact State.setE_keeps h

theorem State.safetyStop_keeps {p s} (h : Keeps p s) : Keeps p (State.safetyStop s) := by
  unfold State.safetyStop
  have h1 := State.pinsLow_keeps h
  revert h1
  generalize s.pinsLow = t
  intro h1
  exact keeps_inputs (s := { t with safeOn := false, cmps := [], trips := [], scrims := [] }) rfl
    (keeps_cmps (s := { t with safeOn := false, trips := [], scrims := [] }) rfl
    (keeps_trips (s := { t with safeOn := false, scrims := [] }) rfl
    (keeps_scrims (s := { t with safeOn := false }) rfl h1)))

theorem State.safetyStart_keeps {p s} (h : Keeps p s) : Keeps p (State.safetyStart s) := by
  unfold State.safetyStart
  have h1 := State.pinsLow_keeps h
  revert h1
  generalize s.pinsLow = t
  intro h1
  refine State.reactions_keeps (State.openScrims_keeps (foldl_keeps (fun _ _ h' => State.setE_keeps h')
    (foldl_keeps (fun _ _ h' => State.setE_keeps (State.setE_keeps h')) ?_)))
  exact keeps_inputs (s := { t with safeOn := true, safeTicks := 0, cmps := [], trips := [] }) rfl
    (keeps_cmps (s := { t with safeOn := true, safeTicks := 0, trips := [] }) rfl
    (keeps_trips (s := { t with safeOn := true, safeTicks := 0 }) rfl h1))

theorem State.produce_keeps {p s k} (h : Keeps p s) : Keeps p (State.produce s k) := by
  unfold State.produce
  extract_lets +onlyGivenNames v1
  extract_lets +onlyGivenNames v2
  extract_lets +onlyGivenNames v3
  have h4 : Keeps p v3 := State.setScrim_keeps h
  clear_value v3
  exact State.sendOwn_keeps h4

theorem State.scrimFail_keeps {p s k cause} (h : Keeps p s) : Keeps p (State.scrimFail s k cause) := by
  unfold State.scrimFail
  exact State.bump_keeps (State.setE_keeps (State.setE_keeps h))

theorem State.scrimAccept_keeps {p s k seq data} (h : Keeps p s) : Keeps p (State.scrimAccept s k seq data) := by
  unfold State.scrimAccept
  exact State.setE_keeps (keeps_blobs (Tbl.wf_set _ _ h.2.1.2.1) (State.setScrim_keeps h))

theorem State.scrimOpen_keeps {p s k b} (h : Keeps p s) : Keeps p (State.scrimOpen s k b) := by
  unfold State.scrimOpen
  dsimp only
  split
  · exact State.scrimFail_keeps h
  · split
    · exact State.bump_keeps h
    · split
      · exact State.scrimFail_keeps h
      · cases s.scrimFault k b with
        | some c => exact State.scrimFail_keeps h
        | none => exact State.scrimAccept_keeps h

theorem State.scrimOpening_keeps {p s k b} (h : Keeps p s) : Keeps p (State.scrimOpening s k b) := by
  unfold State.scrimOpening
  extract_lets +onlyGivenNames v1
  extract_lets +onlyGivenNames v2
  split
  · exact h
  · split
    · exact State.setE_keeps (State.scrimAccept_keeps h)
    · exact State.setScrim_keeps h

theorem State.scrimTake_keeps {p s k b} (h : Keeps p s) : Keeps p (State.scrimTake s k b) := by
  unfold State.scrimTake
  split
  · exact State.scrimOpening_keeps h
  · exact State.scrimOpen_keeps h
  · exact h

theorem State.scrimReceive_keeps {p s b} (h : Keeps p s) : Keeps p (State.scrimReceive s b) := by
  unfold State.scrimReceive
  split
  · exact State.bump_keeps h
  · exact foldl_keeps (fun _ _ h2 => State.scrimTake_keeps h2) h

theorem State.scrimBegin_keeps {p s k} (h : Keeps p s) : Keeps p (State.scrimBegin s k) := by
  unfold State.scrimBegin
  extract_lets +onlyGivenNames v1
  have h2 : Keeps p v1 := State.setScrim_keeps h
  clear_value v1
  split
  · exact State.setE_keeps h2
  · exact State.setE_keeps h2

theorem State.deliver_keeps {p s c outs} (h : Keeps p s) : Keeps p (State.deliver s c outs) := by
  unfold State.deliver
  refine foldl_keeps (fun s3 a1 h2 => ?_) h
  extract_lets +onlyGivenNames v4
  have h5 : Keeps p v4 := State.tapOut_keeps (State.comparators_keeps h2)
  clear_value v4
  split
  · exact State.alignTake_keeps h5
  · exact h5

theorem State.rawSample_keeps {p s c code tag vcode stamp} (h : Keeps p s) : Keeps p (State.rawSample s c code tag vcode stamp) := by
  unfold State.rawSample
  extract_lets +onlyGivenNames v1
  have h2 : Keeps p v1.2 := State.intake_keeps h
  clear_value v1
  extract_lets +onlyGivenNames v3
  have h4 : Keeps p v3.1 := State.stages_keeps h2
  clear_value v3
  exact State.deliver_keeps h4

theorem State.followGap_keeps {p s c first last n} (h : Keeps p s) : Keeps p (State.followGap s c first last n) := by
  unfold State.followGap
  exact foldl_keeps (fun _ _ h' => foldl_keeps (fun _ _ h'' => State.setStream_keeps h'') h')
    (foldl_keeps (fun _ _ h' => State.setStream_keeps h') h)

theorem State.takeGap_keeps {p s r} (h : Keeps p s) : Keeps p (State.takeGap s r) := by
  unfold State.takeGap
  extract_lets +onlyGivenNames v1
  extract_lets +onlyGivenNames v2
  exact foldl_keeps (fun _ _ h4 => State.rawSample_keeps h4) (State.followGap_keeps h)

theorem State.takeRecord_keeps {p s r} (h : Keeps p s) : Keeps p (State.takeRecord s r) := by
  unfold State.takeRecord
  extract_lets +onlyGivenNames v1
  have h2 : Keeps p v1 := State.rawSample_keeps h
  clear_value v1
  extract_lets +onlyGivenNames v3
  split
  · exact h
  · split
    · exact State.takeGap_keeps h
    · exact State.setMill_keeps h2

theorem State.popRaw_keeps {p s g} (h : Keeps p s) : KeepsPair p (State.popRaw s g) := by
  unfold State.popRaw
  dsimp only
  split
  · exact KeepsPair.none
  · next r rest hb =>
    refine KeepsPair.some (State.sendGaps_keeps (State.setGroup_keeps ?_ h))
    have := buf_le h g
    rw [hb] at this
    exact Nat.le_trans (Nat.le_succ _) this

theorem State.drainBy_keeps {p k s g} (h : Keeps p s) : Keeps p (State.drainBy k s g) := by
  induction k generalizing s with
  | zero => exact h
  | succ k ih =>
    unfold State.drainBy
    split
    · exact h
    · next r s' e => exact ih (State.takeRecord_keeps (State.popRaw_keeps h _ _ e))

theorem State.drain_keeps {p s g} (h : Keeps p s) : Keeps p (State.drain s g) := by
  unfold State.drain
  split
  · exact h
  · exact State.drainBy_keeps h

end Sys2Proof.Machine
end

