-- ==== Sys2Proof/Laws/KeepsPlan.lean ====
section
/-! SUPPORT. What the operations keep (Laws/Keeps.lean): the sample plan, the Governor, twin operation, Sail and the angle grids. -/

namespace Sys2Proof.Machine

theorem State.beginRotation_keeps {p s g r burst} (h : Keeps p s) : Keeps p (State.beginRotation s g r burst) := by
  unfold State.beginRotation
  extract_lets +onlyGivenNames v1
  extract_lets +onlyGivenNames v2
  extract_lets +onlyGivenNames v3
  have h4 : Keeps p v3 := by
    unfold v3
    split
    · exact State.drain_keeps h
    · exact h
  clear_value v3
  extract_lets +onlyGivenNames v5
  have h6 : Keeps p v5 := by
    unfold v5
    split
    · exact State.wrapAdd_keeps h4
    · exact h4
  clear_value v5
  extract_lets +onlyGivenNames v7
  extract_lets +onlyGivenNames v8
  have h9 : Keeps p v8 := State.setGroup_keeps (buf_le h6 _) h6
  clear_value v8
  extract_lets +onlyGivenNames v10
  have h11 : Keeps p v10 := by
    unfold v10
    split
    · exact State.oweAnchor_keeps h9
    · exact h9
  clear_value v10
  extract_lets +onlyGivenNames v12
  have h13 : Keeps p v12 := by
    unfold v12
    split
    · exact State.muxAim_keeps h11
    · exact h11
  clear_value v12
  refine State.setE_keeps ?_
  split
  · exact State.startMills_keeps h13
  · exact h13

theorem State.rotate_keeps {p s g} (h : Keeps p s) : Keeps p (State.rotate s g) := by
  unfold State.rotate
  split
  · have h1 {r} := State.beginRotation_keeps (g := g) (r := r) (burst := false) h
    exact State.setGroup_keeps (buf_le h1 g) h1
  · exact h

theorem State.evtPulse_keeps {p s k high width} (h : Keeps p s) : Keeps p (State.evtPulse s k high width) := by
  unfold State.evtPulse
  extract_lets +onlyGivenNames v1
  extract_lets +onlyGivenNames v2
  have h3 : Keeps p v2 := State.bump_keeps (State.setE_keeps h)
  clear_value v2
  split
  · exact h
  · exact State.bump_keeps h
  · split
    · exact State.bump_keeps h
    · split
      · exact keeps_rest h3
      · exact h3

theorem State.startBursts_keeps {p s k} (h : Keeps p s) : Keeps p (State.startBursts s k) := by
  unfold State.startBursts
  have h1 : Keeps p { s with evtFire := Tbl.drop s.evtFire k } := h
  revert h1
  generalize { s with evtFire := Tbl.drop s.evtFire k } = t
  intro h1
  dsimp only
  split
  · refine foldl_keeps (fun s g h => ?_) h1
    have h2 := State.beginRotation_keeps (g := g) (r := s.now) (burst := true) h
    exact State.setGroup_keeps (buf_le h2 g) h2
  · exact h1

theorem State.endRotation_keeps {p s g st} (h : Keeps p s) : Keeps p (State.endRotation s g st) := by
  unfold State.endRotation
  dsimp only
  refine State.setE_keeps (State.setGroup_keeps (buf_le h g) ?_)
  split
  · exact State.wrapAdd_keeps h
  · exact h

theorem State.fixStart_keeps {p s} (h : Keeps p s) : Keeps p (State.fixStart s) := by
  unfold State.fixStart
  extract_lets +onlyGivenNames v1
  extract_lets +onlyGivenNames v2
  have h3 : Keeps p v2 := State.setE_keeps h
  clear_value v2
  split
  · exact State.event_keeps h3
  · exact h3

theorem State.startStream_keeps {p s n} (h : Keeps p s) : Keeps p (State.startStream s n) := by
  unfold State.startStream
  extract_lets +onlyGivenNames v1
  extract_lets +onlyGivenNames v2
  extract_lets +onlyGivenNames v3
  have h4 : Keeps p v3 := State.setE_keeps (State.setStream_keeps h)
  clear_value v3
  split
  · exact State.bump_keeps (State.setE_keeps (State.setStream_keeps h4))
  · exact State.setE_keeps h4

theorem State.startChan_keeps {p s c} (h : Keeps p s) : Keeps p (State.startChan s c) := by
  unfold State.startChan
  extract_lets +onlyGivenNames v1
  extract_lets +onlyGivenNames v2
  have h3 : Keeps p v2 := State.setChan_keeps h
  clear_value v2
  exact State.setMill_keeps h3

theorem State.trim_keeps {p s g} (h : Keeps p s) : Keeps p (State.trim s g) := by
  unfold State.trim
  extract_lets +onlyGivenNames v1
  split
  · exact State.fresh_keeps (State.setGroup_keeps (buf_le h _) h)
  · exact h

theorem State.startGroup_keeps {p s g at_} (h : Keeps p s) : Keeps p (State.startGroup s g at_) := by
  unfold State.startGroup
  split
  · exact State.setE_keeps (State.muxAim_keeps (State.trim_keeps (State.setGroup_keeps (Nat.zero_le _) h)))
  · exact State.setE_keeps h

theorem State.finishStream_keeps {p s n} (h : Keeps p s) : Keeps p (State.finishStream s n) := by
  unfold State.finishStream
  extract_lets +onlyGivenNames v1
  extract_lets +onlyGivenNames v2
  extract_lets +onlyGivenNames v3
  have h4 : Keeps p v3 := foldl_keeps (fun _ _ h6 => State.gridMark_keeps h6) (State.setStream_keeps h)
  clear_value v3
  extract_lets +onlyGivenNames v8
  have h9 : Keeps p v8 := foldl_keeps (fun _ _ h11 => State.gapTaskEvent_keeps h11) h4
  clear_value v8
  extract_lets +onlyGivenNames v13
  extract_lets +onlyGivenNames v14
  have h15 : Keeps p v14 := State.setStream_keeps h9
  clear_value v14
  extract_lets +onlyGivenNames v16
  have h17 : Keeps p v16 := by
    unfold v16
    split
    · exact State.stepEvent_keeps h15
    · exact h15
  clear_value v16
  extract_lets +onlyGivenNames v18
  have h19 : Keeps p v18 := by
    unfold v18
    split
    · exact State.pad_keeps h17
    · exact State.closeOpen_keeps h17
  clear_value v18
  extract_lets +onlyGivenNames v20
  extract_lets +onlyGivenNames v21
  have h22 : Keeps p v21 := State.setStream_keeps h19
  clear_value v21
  exact State.tryStop_keeps (State.setE_keeps h22)

theorem State.stopMill_keeps {p s c} (h : Keeps p s) : Keeps p (State.stopMill s c) := by
  unfold State.stopMill
  exact State.setE_keeps (State.setMill_keeps h)

theorem State.finishPlan_keeps {p s} (h : Keeps p s) : Keeps p (State.finishPlan s) := by
  unfold State.finishPlan
  extract_lets +onlyGivenNames v1
  have h2 : Keeps p v1 := foldl_keeps (fun _ _ h4 => State.finishStream_keeps h4) h
  clear_value v1
  exact foldl_keeps (fun _ _ h7 => State.stopMill_keeps h7) h2

theorem State.planDone_keeps {p s} (h : Keeps p s) : Keeps p (State.planDone s) := by
  unfold State.planDone
  extract_lets +onlyGivenNames v1
  have h2 : Keeps p v1 := foldl_keeps (fun _ _ h4 => State.drain_keeps h4) h
  clear_value v1
  extract_lets +onlyGivenNames v6
  have h7 : Keeps p v6 := State.setE_keeps (State.setE_keeps (State.setE_keeps (State.setE_keeps h2)))
  clear_value v6
  extract_lets +onlyGivenNames v8
  have h9 : Keeps p v8 := by
    unfold v8
    split
    · exact h7
    · exact State.finishPlan_keeps h7
  clear_value v8
  exact keeps_rest h9

theorem State.planStop_keeps {p s} (h : Keeps p s) : Keeps p (State.planStop s) := by
  unfold State.planStop
  split
  · exact h
  · exact foldl_keeps (fun s g h => State.setGroup_keeps (buf_le h g) h) (State.setE_keeps h)

theorem State.skipTo_keeps {p s g t} (h : Keeps p s) : Keeps p (State.skipTo s g t).1 := by
  unfold State.skipTo
  extract_lets +onlyGivenNames v1
  extract_lets +onlyGivenNames v2
  split
  · extract_lets +onlyGivenNames v4
    extract_lets +onlyGivenNames v5
    extract_lets +onlyGivenNames v6
    extract_lets +onlyGivenNames v7
    extract_lets +onlyGivenNames v8
    have h9 : Keeps p v8 := State.oweAnchor_keeps h
    clear_value v8
    extract_lets +onlyGivenNames v10
    have h11 : Keeps p v10 := by
      unfold v10
      split
      · exact State.wrapAdd_keeps h9
      · exact h9
    clear_value v10
    split
    · exact State.setGroup_keeps (buf_le h _) h
    · split
      · exact State.setGroup_keeps (buf_le h _) h11
      · exact State.setGroup_keeps (buf_le h _) h
  · split
    · extract_lets +onlyGivenNames v13
      extract_lets +onlyGivenNames v14
      extract_lets +onlyGivenNames v15
      have h16 : Keeps p v15 := State.beginRotation_keeps h
      clear_value v15
      extract_lets +onlyGivenNames v17
      split
      · exact h
      · split
        · exact State.setGroup_keeps (buf_le h16 _) h16
        · exact State.setGroup_keeps (buf_le h _) h
    · exact h

theorem State.fillTo_keeps {p k s n t} (h : Keeps p s) : Keeps p (State.fillTo k s n t) := by
  induction k generalizing s with
  | zero => exact h
  | succ k ih =>
    unfold State.fillTo
    dsimp only
    split
    · exact h
    · split
      · exact h
      · exact ih (State.fillAt_keeps (State.setStream_keeps h))

theorem State.stepPending_keeps {p s n} (h : Keeps p s) : Keeps p (State.stepPending s n) := by
  unfold State.stepPending
  split
  · exact State.stepEvent_keeps h
  · exact h

theorem State.stepStream_keeps {p s n told tnew restarted} (h : Keeps p s) : Keeps p (State.stepStream s n told tnew restarted) := by
  unfold State.stepStream
  have h1 : Keeps p (s.stepPending n) := State.stepPending_keeps h
  revert h1
  generalize s.stepPending n = s
  intro h1
  dsimp only
  split
  · exact State.streamEvent_keeps h1
  · split
    · exact State.streamEvent_keeps h1
    · split
      · exact State.streamEvent_keeps h1
      · split
        · exact State.stepDone_keeps (State.pad_keeps (State.setStream_keeps h1))
        · split
          · exact State.fillTo_keeps (State.setStream_keeps h1)
          · exact State.setStream_keeps h1

theorem State.skipGroups_keeps {p s tnew} (h : Keeps p s) : Keeps p (State.skipGroups s tnew).1 := by
  unfold State.skipGroups
  refine foldl_keeps_fst (fun s6 a4 h5 => ?_) h
  extract_lets +onlyGivenNames v7
  have h8 : Keeps p v7.1 := State.skipTo_keeps h5
  clear_value v7
  dsimp only
  split
  · exact State.muxAim_keeps h8
  · exact h8

theorem State.restartMills_keeps {p s cs} (h : Keeps p s) : Keeps p (State.restartMills s cs) := by
  unfold State.restartMills
  exact foldl_keeps (fun _ _ h2 => State.bump_keeps (State.startMill_keeps h2)) h

theorem State.dropTaps_keeps {p s cs} (h : Keeps p s) : Keeps p (State.dropTaps s cs) := by
  unfold State.dropTaps
  exact foldl_keeps (fun _ _ h2 => State.setMill_keeps h2) h

theorem State.stepPlan_keeps {p s told tnew} (h : Keeps p s) : Keeps p (State.stepPlan s told tnew) := by
  unfold State.stepPlan
  split
  · exact h
  · extract_lets +onlyGivenNames v1
    have h1 : Keeps p v1 :=
      foldl_keeps (fun _ g h' => State.setGroup_keeps (buf_le (State.drain_keeps h') g) (State.drain_keeps h')) h
    clear_value v1
    extract_lets +onlyGivenNames v2
    have h2 : Keeps p v2.1 := by
      unfold v2
      split
      · exact State.skipGroups_keeps h1
      · exact h1
    clear_value v2
    dsimp only
    split
    · exact h2
    · refine foldl_keeps (fun _ _ h' => State.stepStream_keeps h') (keeps_if ?_ h2)
      exact State.dropTaps_keeps (State.restartMills_keeps h2)

theorem State.ppsFallen_keeps {p s} (h : Keeps p s) : Keeps p (State.ppsFallen s) := by
  unfold State.ppsFallen
  extract_lets +onlyGivenNames v1
  extract_lets +onlyGivenNames v2
  split
  · split
    · exact keeps_rest h
    · exact h
  · exact h

theorem State.tick_keeps {p s} (h : Keeps p s) : Keeps p (State.tick s) := by
  unfold State.tick
  extract_lets +onlyGivenNames v1
  extract_lets +onlyGivenNames v2
  have h3 : Keeps p v2 := keeps_rest h
  extract_lets +onlyGivenNames v4
  have h5 : Keeps p v4 := by
    unfold v4
    split
    · exact h3
    · exact foldl_keeps (fun _ _ h8 => State.setDom_keeps h8) h3
  clear_value v4
  extract_lets +onlyGivenNames v10
  extract_lets +onlyGivenNames v11
  have h12 : Keeps p v11 := by
    unfold v11
    split
    · exact keeps_rest h5
    · exact h5
  clear_value v11
  split
  · exact h
  · split
    · exact State.ppsFallen_keeps h12
    · exact h12

theorem State.stepRefused_keeps {p s d size} (h : Keeps p s) : Keeps p (State.stepRefused s d size) := by
  unfold State.stepRefused
  exact State.event_keeps (State.flag_keeps h)

theorem State.requestStep_keeps {p s d r} (h : Keeps p s) : Keeps p (State.requestStep s d r).2 := by
  unfold State.requestStep
  extract_lets +onlyGivenNames v1
  split
  · exact h
  · split
    · exact State.setDom_keeps h
    · exact State.stepRefused_keeps h

theorem State.afterStep_keeps {p s d} (h : Keeps p s) : Keeps p (State.afterStep s d) := by
  unfold State.afterStep
  extract_lets +onlyGivenNames v1
  split
  · exact State.setE_keeps (State.setDom_keeps h)
  · exact h

theorem State.applyStep_keeps {p s d} (h : Keeps p s) : Keeps p (State.applyStep s d) := by
  unfold State.applyStep
  extract_lets +onlyGivenNames v1
  extract_lets +onlyGivenNames v2
  have h3 : Keeps p v2 := State.setDom_keeps h
  clear_value v2
  split
  · exact h
  · extract_lets +onlyGivenNames v5
    extract_lets +onlyGivenNames v6
    extract_lets +onlyGivenNames v7
    have h8 : Keeps p v7 := State.setFine_keeps h3
    clear_value v7
    extract_lets +onlyGivenNames v9
    extract_lets +onlyGivenNames v10
    have h11 : Keeps p v10 := State.setDom_keeps h8
    clear_value v10
    split
    · exact State.stepRefused_keeps h3
    · exact State.afterStep_keeps (State.setE_keeps (State.flag_keeps h11))

theorem State.runsAnew_keeps {p s d} (h : Keeps p s) : Keeps p (State.runsAnew s d) := by
  unfold State.runsAnew
  exact State.setDom_keeps h

theorem State.holdover_keeps {p s d} (h : Keeps p s) : Keeps p (State.holdover s d) := by
  unfold State.holdover
  extract_lets +onlyGivenNames v1
  have h2 : Keeps p v1 := State.flag_keeps (State.setE_keeps (State.runsAnew_keeps h))
  clear_value v1
  extract_lets +onlyGivenNames v3
  split
  · exact State.setInc_keeps h2
  · exact h2

theorem State.ocxoRdy_keeps {p s level} (h : Keeps p s) : Keeps p (State.ocxoRdy s level) := by
  unfold State.ocxoRdy
  extract_lets +onlyGivenNames v1
  extract_lets +onlyGivenNames v2
  have h3 : Keeps p v2 := keeps_rest h
  clear_value v2
  extract_lets +onlyGivenNames v4
  have h5 : Keeps p v4 := by
    unfold v4
    refine foldl_keeps (fun s8 a6 h7 => ?_) h3
    split
    · exact State.holdover_keeps h7
    · exact h7
  clear_value v4
  extract_lets +onlyGivenNames v9
  split
  · exact h
  · exact State.hubEvent_keeps (State.event_keeps h5)

theorem State.domainsKept_keeps {p s} (h : Keeps p s) : Keeps p (State.domainsKept s) := by
  unfold State.domainsKept
  refine foldl_keeps (fun s3 a1 h2 => ?_) h
  extract_lets +onlyGivenNames v4
  extract_lets +onlyGivenNames v5
  have h6 : Keeps p v5 := State.setE_keeps h2
  clear_value v5
  extract_lets +onlyGivenNames v7
  have h8 : Keeps p v7 := State.setE_keeps (State.setE_keeps (State.setE_keeps (State.setE_keeps h6)))
  clear_value v7
  exact State.setDom_keeps h8

theorem State.servoWrites_keeps {p s d v} (h : Keeps p s) : Keeps p (State.servoWrites s d v) := by
  unfold State.servoWrites
  extract_lets +onlyGivenNames v1
  have h2 : Keeps p v1 := State.setInc_keeps h
  clear_value v1
  exact State.setDom_keeps h2

theorem State.servoUpdate_keeps {p s d o n} (h : Keeps p s) : Keeps p (State.servoUpdate s d o n) := by
  unfold State.servoUpdate
  extract_lets +onlyGivenNames v1
  extract_lets +onlyGivenNames v2
  extract_lets +onlyGivenNames v3
  exact State.servoWrites_keeps (State.setDom_keeps h)

theorem State.countRuns_keeps {p s d o} (h : Keeps p s) : Keeps p (State.countRuns s d o) := by
  unfold State.countRuns
  extract_lets +onlyGivenNames v1
  exact State.setDom_keeps h

theorem State.lockRule_keeps {p s d} (h : Keeps p s) : Keeps p (State.lockRule s d) := by
  unfold State.lockRule
  extract_lets +onlyGivenNames v1
  split
  · split
    · exact State.setE_keeps h
    · exact h
  · split
    · exact State.setE_keeps h
    · exact h

theorem State.preloaded_keeps {p s d} (h : Keeps p s) : Keeps p (State.preloaded s d) := by
  unfold State.preloaded
  exact State.setDom_keeps h

theorem State.servoActs_keeps {p s d o} (h : Keeps p s) : Keeps p (State.servoActs s d o) := by
  unfold State.servoActs
  extract_lets +onlyGivenNames v1
  split
  · exact h
  · split
    · exact State.setDom_keeps h
    · split
      · split
        · exact State.setDom_keeps h
        · exact State.servoWrites_keeps (State.stepRefused_keeps h)
      · exact State.servoUpdate_keeps h

theorem State.servo_keeps {p s d o} (h : Keeps p s) : Keeps p (State.servo s d o) := by
  unfold State.servo
  extract_lets +onlyGivenNames v1
  have h2 : Keeps p v1 := by
    unfold v1
    split
    · exact State.setE_keeps h
    · exact h
  clear_value v1
  exact State.lockRule_keeps (State.servoActs_keeps (State.countRuns_keeps (State.preloaded_keeps h2)))

theorem State.postTiming_keeps {p s p2 t} (h : Keeps p s) : Keeps p (State.postTiming s p2 t) := by
  unfold State.postTiming
  extract_lets +onlyGivenNames v1
  split
  · exact State.setPort_keeps h
  · exact h

theorem State.masterRule_keeps {p s d id} (h : Keeps p s) : Keeps p (State.masterRule s d id).1 := by
  unfold State.masterRule
  extract_lets +onlyGivenNames v1
  extract_lets +onlyGivenNames v2
  extract_lets +onlyGivenNames v3
  have h4 : Keeps p v3 := State.setE_keeps (State.flag_keeps h)
  clear_value v3
  extract_lets +onlyGivenNames v5
  split
  · exact State.setDom_keeps h
  · split
    · exact State.setE_keeps h
    · split
      · exact h
      · exact State.setDom_keeps (State.runsAnew_keeps h4)

theorem State.timingTaken_keeps {p s p2 d} (h : Keeps p s) : Keeps p (State.timingTaken s p2 d).2 := by
  unfold State.timingTaken
  split
  · exact h
  · split
    · exact h
    · exact State.bump_keeps h

theorem State.takeSync_keeps {p s p2 m dly} (h : Keeps p s) : Keeps p (State.takeSync s p2 m dly) := by
  unfold State.takeSync
  extract_lets +onlyGivenNames v1
  extract_lets +onlyGivenNames v2
  have h3 : Keeps p v2.2 := State.timingTaken_keeps h
  clear_value v2
  extract_lets +onlyGivenNames v4
  have h5 : Keeps p v4.1 := State.masterRule_keeps h
  clear_value v4
  extract_lets +onlyGivenNames v6
  have h7 : Keeps p v6 := h5
  clear_value v6
  extract_lets +onlyGivenNames v8
  extract_lets +onlyGivenNames v9
  extract_lets +onlyGivenNames v10
  extract_lets +onlyGivenNames v11
  have h12 : Keeps p v11 := State.setDom_keeps h7
  clear_value v11
  extract_lets +onlyGivenNames v13
  have h14 : Keeps p v13 := State.flag_keeps h12
  clear_value v13
  extract_lets +onlyGivenNames v15
  have h16 : Keeps p v15 := by
    unfold v15
    split
    · exact State.setE_keeps h14
    · exact h14
  clear_value v15
  split
  · exact h3
  · exact State.postTiming_keeps h16

theorem State.takeDelayReq_keeps {p s p2 m dly} (h : Keeps p s) : Keeps p (State.takeDelayReq s p2 m dly) := by
  unfold State.takeDelayReq
  extract_lets +onlyGivenNames v1
  split
  · exact h
  · split
    · exact State.postTiming_keeps h
    · exact State.bump_keeps h

theorem State.report_keeps {p s d o mean} (h : Keeps p s) : Keeps p (State.report s d o mean) := by
  unfold State.report
  extract_lets +onlyGivenNames v1
  have h2 : Keeps p v1 := State.wrapAdd_keeps (State.setE_keeps (State.setE_keeps h))
  clear_value v1
  extract_lets +onlyGivenNames v3
  extract_lets +onlyGivenNames v4
  have h5 : Keeps p v4 := State.setDom_keeps h2
  clear_value v4
  exact State.flag_keeps h5

theorem State.takeDelayResp_keeps {p s p2 m} (h : Keeps p s) : Keeps p (State.takeDelayResp s p2 m) := by
  unfold State.takeDelayResp
  extract_lets +onlyGivenNames v1
  extract_lets +onlyGivenNames v2
  have h3 : Keeps p v2.2 := State.timingTaken_keeps h
  clear_value v2
  extract_lets +onlyGivenNames v4
  have h5 : Keeps p v4.1 := State.masterRule_keeps h
  clear_value v4
  extract_lets +onlyGivenNames v6
  have h7 : Keeps p v6 := h5
  clear_value v6
  split
  · exact h3
  · split
    · extract_lets +onlyGivenNames v10
      extract_lets +onlyGivenNames v11
      have h12 : Keeps p v11 := State.report_keeps h7
      clear_value v11
      split
      · exact h7
      · split
        · exact State.servo_keeps h12
        · refine State.countRuns_keeps ?_
          split
          · exact State.setE_keeps h12
          · exact h12
    · exact h7

theorem State.sendSync_keeps {p s d} (h : Keeps p s) : Keeps p (State.sendSync s d) := by
  unfold State.sendSync
  extract_lets +onlyGivenNames v1
  extract_lets +onlyGivenNames v2
  extract_lets +onlyGivenNames v3
  extract_lets +onlyGivenNames v4
  have h5 : Keeps p v4 := keeps_rest h
  clear_value v4
  extract_lets +onlyGivenNames v6
  have h7 : Keeps p v6 := State.setDom_keeps h5
  clear_value v6
  exact foldl_keeps (fun _ _ h9 => State.postTiming_keeps h9) h7

theorem State.ackMaster_keeps {p s d} (h : Keeps p s) : Keeps p (State.ackMaster s d) := by
  unfold State.ackMaster
  extract_lets +onlyGivenNames v1
  extract_lets +onlyGivenNames v2
  have h3 : Keeps p v2 := by
    unfold v2
    split
    · exact State.setE_keeps h
    · exact h
  clear_value v2
  extract_lets +onlyGivenNames v4
  have h5 : Keeps p v4 := State.setDom_keeps h3
  clear_value v4
  split
  · exact h
  · exact State.setE_keeps h5

theorem State.setMode_keeps {p s v} (h : Keeps p s) : Keeps p (State.setMode s v) := by
  unfold State.setMode
  extract_lets +onlyGivenNames v1
  exact foldl_keeps (fun _ _ h3 => State.setFine_keeps h3) (State.setE_keeps h)

theorem State.setServo_keeps {p s v} (h : Keeps p s) : Keeps p (State.setServo s v) := by
  unfold State.setServo
  extract_lets +onlyGivenNames v1
  extract_lets +onlyGivenNames v2
  have h3 : Keeps p v2 := State.setE_keeps h
  clear_value v2
  refine foldl_keeps (fun s6 a4 h5 => ?_) h3
  extract_lets +onlyGivenNames v7
  extract_lets +onlyGivenNames v8
  have h9 : Keeps p v8 := by
    unfold v8
    split
    · exact State.setDom_keeps (State.runsAnew_keeps h5)
    · exact h5
  clear_value v8
  split
  · exact h9
  · split
    · exact State.setE_keeps h9
    · split
      · exact State.setE_keeps h9
      · exact h9

theorem State.ppsRises_keeps {p s} (h : Keeps p s) : Keeps p (State.ppsRises s) := by
  unfold State.ppsRises
  exact keeps_rest h

theorem State.twinBit_keeps {p s i b} (h : Keeps p s) : Keeps p (State.twinBit s i b) := by
  unfold State.twinBit
  exact State.flag_keeps h

theorem State.twinCmd_keeps {p s code args} (h : Keeps p s) : Keeps p (State.twinCmd s code args) := by
  unfold State.twinCmd
  exact State.post_keeps h

theorem State.sendHeartbeat_keeps {p s} (h : Keeps p s) : Keeps p (State.sendHeartbeat s) := by
  unfold State.sendHeartbeat
  extract_lets +onlyGivenNames v1
  extract_lets +onlyGivenNames v2
  extract_lets +onlyGivenNames v3
  have h4 : Keeps p v3 := keeps_rest h
  clear_value v3
  exact State.sendItem_keeps h4

theorem State.sendPairEnd_keeps {p s} (h : Keeps p s) : Keeps p (State.sendPairEnd s) := by
  unfold State.sendPairEnd
  extract_lets +onlyGivenNames v1
  extract_lets +onlyGivenNames v2
  have h3 : Keeps p v2 := keeps_rest h
  clear_value v2
  exact State.twinCmd_keeps h3

theorem State.twinFill_keeps {p s} (h : Keeps p s) : Keeps p (State.twinFill s) := by
  unfold State.twinFill
  extract_lets +onlyGivenNames v1
  extract_lets +onlyGivenNames v2
  split
  · exact h
  · split
    · exact State.post_keeps (keeps_rest h)
    · split
      · exact State.twinCmd_keeps (keeps_rest h)
      · split
        · exact State.sendPairEnd_keeps h
        · exact h

theorem State.copyProgress_keeps {p s f} (h : Keeps p s) : Keeps p (State.copyProgress s f) := by
  unfold State.copyProgress
  extract_lets +onlyGivenNames v1
  extract_lets +onlyGivenNames v2
  split
  · exact State.opProgress_keeps (keeps_rest h)
  · exact h

theorem State.sendWords_keeps {p s} (h : Keeps p s) : Keeps p (State.sendWords s) := by
  unfold State.sendWords
  extract_lets +onlyGivenNames v1
  extract_lets +onlyGivenNames v2
  extract_lets +onlyGivenNames v3
  split
  · exact h
  · split
    · exact State.transmit_keeps (keeps_rest h)
    · exact h

theorem State.twinTurn_keeps {p s} (h : Keeps p s) : Keeps p (State.twinTurn s) := by
  unfold State.twinTurn
  extract_lets +onlyGivenNames v1
  split
  · split
    · exact State.sendWords_keeps h
    · split
      · exact State.copyProgress_keeps (State.transmit_keeps (State.setPort_keeps h))
      · exact h
  · exact State.sendWords_keeps h

theorem State.boundaryT_keeps {p s} (h : Keeps p s) : Keeps p (State.boundaryT s) := by
  unfold State.boundaryT
  extract_lets +onlyGivenNames v1
  have h2 : Keeps p v1 := State.openBoundary_keeps h
  clear_value v1
  extract_lets +onlyGivenNames v3
  have h4 : Keeps p v3 := State.answerSets_keeps (State.twinFill_keeps h2)
  clear_value v3
  split
  · exact State.idleFill_keeps (State.answerSets_keeps h2)
  · refine State.idleFill_keeps ?_
    split
    · exact State.retransmit_keeps h4
    · exact State.twinTurn_keeps h4

theorem State.setRole_keeps {p s r} (h : Keeps p s) : Keeps p (State.setRole s r) := by
  unfold State.setRole
  exact State.setE_keeps h

theorem State.discardBlocks_keeps {p s} (h : Keeps p s) : Keeps p (State.discardBlocks s) := by
  unfold State.discardBlocks
  extract_lets +onlyGivenNames v1
  have h2 : Keeps p v1 := foldl_keeps (fun _ _ h4 => State.setStream_keeps h4) h
  clear_value v1
  exact keeps_rest h2

theorem State.unfeed_keeps {p s} (h : Keeps p s) : Keeps p (State.unfeed s) := by
  unfold State.unfeed
  exact keeps_rest h

theorem State.stepDown_keeps {p s} (h : Keeps p s) : Keeps p (State.stepDown s) := by
  unfold State.stepDown
  extract_lets +onlyGivenNames v1
  have h2 : Keeps p v1 := State.announce_keeps (State.setRole_keeps (State.unfeed_keeps (State.allOff_keeps (State.discardBlocks_keeps (State.abortSweep_keeps h)))))
  clear_value v1
  exact keeps_rest h2

theorem State.hoursAnew_keeps {p s} (h : Keeps p s) : Keeps p (State.hoursAnew s) := by
  unfold State.hoursAnew
  exact State.twinBit_keeps (State.setE_keeps (keeps_rest h))

theorem State.takeRole_keeps {p s} (h : Keeps p s) : Keeps p (State.takeRole s) := by
  unfold State.takeRole
  extract_lets +onlyGivenNames v1
  extract_lets +onlyGivenNames v2
  have h3 : Keeps p v2 := keeps_rest h
  split
  · exact State.setRole_keeps h3
  · split
    · exact State.setRole_keeps h3
    · exact State.twinBit_keeps (State.setRole_keeps h3)

theorem State.judgePartner_keeps {p s h2} (h : Keeps p s) : Keeps p (State.judgePartner s h2) := by
  unfold State.judgePartner
  extract_lets +onlyGivenNames v1
  extract_lets +onlyGivenNames v2
  extract_lets +onlyGivenNames v3
  extract_lets +onlyGivenNames v4
  have h5 : Keeps p v4 := by
    unfold v4
    split
    · exact State.event_keeps h
    · exact h
  clear_value v4
  extract_lets +onlyGivenNames v6
  have h7 : Keeps p v6 := by
    unfold v6
    split
    · exact State.event_keeps h5
    · exact h5
  clear_value v6
  extract_lets +onlyGivenNames v8
  have h9 : Keeps p v8 := State.twinBit_keeps (State.setE_keeps h7)
  clear_value v8
  exact keeps_rest h9

theorem State.pairedNow_keeps {p s} (h : Keeps p s) : Keeps p (State.pairedNow s) := by
  unfold State.pairedNow
  exact State.setRole_keeps (State.opDone_keeps h)

theorem State.followRole_keeps {p s r} (h : Keeps p s) : Keeps p (State.followRole s r) := by
  unfold State.followRole
  extract_lets +onlyGivenNames v1
  have h2 : Keeps p v1 := State.setRole_keeps h
  clear_value v1
  extract_lets +onlyGivenNames v3
  split
  · split
    · exact State.pairedNow_keeps h
    · split
      · exact keeps_rest h2
      · exact h
  · split
    · exact State.setRole_keeps (State.unfeed_keeps h)
    · exact h

theorem State.takeHeartbeat_keeps {p s h2} (h : Keeps p s) : Keeps p (State.takeHeartbeat s h2) := by
  unfold State.takeHeartbeat
  extract_lets +onlyGivenNames v1
  extract_lets +onlyGivenNames v2
  have h3 : Keeps p v2 := keeps_rest h
  clear_value v2
  extract_lets +onlyGivenNames v4
  have h5 : Keeps p v4 := State.followRole_keeps (State.judgePartner_keeps (State.twinBit_keeps (State.twinBit_keeps h3)))
  clear_value v4
  split
  · exact State.sendHeartbeat_keeps h5
  · exact h5

theorem State.deferPorts_keeps {p s} (h : Keeps p s) : Keeps p (State.deferPorts s) := by
  unfold State.deferPorts
  extract_lets +onlyGivenNames v1
  extract_lets +onlyGivenNames v2
  have h3 : Keeps p v2 := foldl_keeps (fun _ _ h5 => State.setXport_keeps h5) h
  clear_value v2
  split
  · exact h3
  · exact State.twinBit_keeps h3

theorem State.closeSource_keeps {p s n} (h : Keeps p s) : Keeps p (State.closeSource s n) := by
  unfold State.closeSource
  split
  · exact State.pad_keeps h
  · exact State.closeOpen_keeps h

theorem ownAfter_length (s : State) (g : Nat) (rs : List Raw) : (s.ownAfter g rs).length ≤ rs.length := by
  unfold State.ownAfter
  exact Nat.le_trans (List.length_filter_le _ _) (by simpa using List.length_filter_le _ rs)

theorem State.skipOwn_keeps {p s g} (h : Keeps p s) : Keeps p (State.skipOwn s g) := by
  unfold State.skipOwn
  exact State.setGroup_keeps (Nat.le_trans (ownAfter_length s g _) (buf_le h g)) h

theorem State.takeGroup_keeps {p s g} (h : Keeps p s) : Keeps p (State.takeGroup s g) := by
  unfold State.takeGroup
  extract_lets +onlyGivenNames v1
  extract_lets +onlyGivenNames v2
  have h3 : Keeps p v2 := State.skipOwn_keeps h
  clear_value v2
  extract_lets +onlyGivenNames v4
  have h5 : Keeps p v4 := State.startMills_keeps h3
  clear_value v4
  extract_lets +onlyGivenNames v6
  have h7 : Keeps p v6 := by
    unfold v6
    split
    · exact State.oweAnchor_keeps h5
    · exact h5
  clear_value v6
  extract_lets +onlyGivenNames v8
  have h9 : Keeps p v8 := foldl_keeps (fun _ _ h11 => State.mirrorRaw_keeps h11) h7
  clear_value v8
  exact foldl_keeps (fun _ _ h14 => State.takeRecord_keeps h14) h9

theorem State.readAnew_keeps {p s} (h : Keeps p s) : Keeps p (State.readAnew s) := by
  unfold State.readAnew
  extract_lets +onlyGivenNames v1
  have h2 : Keeps p v1 := foldl_keeps (fun _ _ h4 => State.setHq_keeps h4) (State.rewindAll_keeps h)
  clear_value v1
  exact State.setE_keeps h2

theorem State.takeover_keeps {p s cause} (h : Keeps p s) : Keeps p (State.takeover s cause) := by
  unfold State.takeover
  extract_lets +onlyGivenNames v1
  extract_lets +onlyGivenNames v2
  have h3 : Keeps p v2 := State.setRole_keeps h
  clear_value v2
  extract_lets +onlyGivenNames v4
  extract_lets +onlyGivenNames v5
  have h6 : Keeps p v5 := keeps_rest h3
  clear_value v5
  extract_lets +onlyGivenNames v7
  have h8 : Keeps p v7 := foldl_keeps (fun _ _ h10 => State.closeSource_keeps h10) h6
  clear_value v7
  extract_lets +onlyGivenNames v12
  have h13 : Keeps p v12 := foldl_keeps (fun _ _ h15 => State.setStream_keeps h15) h8
  clear_value v12
  extract_lets +onlyGivenNames v17
  have h18 : Keeps p v17 := by
    unfold v17
    split
    · exact State.finishPlan_keeps h13
    · exact foldl_keeps (fun _ _ h20 => State.takeGroup_keeps h20) h13
  clear_value v17
  extract_lets +onlyGivenNames v22
  have h23 : Keeps p v22 := keeps_rest h18
  clear_value v22
  extract_lets +onlyGivenNames v24
  have h25 : Keeps p v24 := State.readAnew_keeps h23
  clear_value v24
  extract_lets +onlyGivenNames v26
  have h27 : Keeps p v26 := State.setE_keeps (State.setE_keeps (State.bump_keeps h25))
  clear_value v26
  extract_lets +onlyGivenNames v28
  have h29 : Keeps p v28 := by
    unfold v28
    split
    · exact State.hoursAnew_keeps h27
    · exact h27
  clear_value v28
  extract_lets +onlyGivenNames v30
  have h31 : Keeps p v30 := by
    unfold v30
    split
    · exact State.levels_keeps (State.suspendAll_keeps h29)
    · exact State.levels_keeps h29
  clear_value v30
  exact State.announce_keeps (State.deferPorts_keeps (State.twinBit_keeps h31))

theorem State.enableDeferred_keeps {p s g} (h : Keeps p s) : Keeps p (State.enableDeferred s g) := by
  unfold State.enableDeferred
  extract_lets +onlyGivenNames v1
  extract_lets +onlyGivenNames v2
  have h3 : Keeps p v2 := State.setXport_keeps h
  clear_value v2
  split
  · exact h
  · exact State.deferredLeft_keeps (State.comeOn_keeps h3)

theorem State.discardHopper_keeps {p s} (h : Keeps p s) : Keeps p (State.discardHopper s) := by
  unfold State.discardHopper
  exact keeps_hop ((by decide)) h

theorem State.onSilence_keeps {p s} (h : Keeps p s) : Keeps p (State.onSilence s) := by
  unfold State.onSilence
  extract_lets +onlyGivenNames v1
  extract_lets +onlyGivenNames v2
  have h3 : Keeps p v2 := State.bump_keeps (keeps_rest h)
  clear_value v2
  extract_lets +onlyGivenNames v4
  have h5 : Keeps p v4 := by
    unfold v4
    split
    · exact State.unfeed_keeps (State.opAbort_keeps h3)
    · exact h3
  clear_value v4
  split
  · exact State.takeover_keeps h5
  · exact State.setRole_keeps (State.discardHopper_keeps h5)
  · exact State.stepDown_keeps h5
  · exact State.unfeed_keeps h5

theorem State.seamGroup_keeps {p s x g} (h : Keeps p s) : Keeps p (State.seamGroup s x g) := by
  unfold State.seamGroup
  extract_lets +onlyGivenNames v1
  extract_lets +onlyGivenNames v2
  extract_lets +onlyGivenNames v3
  have h4 : Keeps p v3 := foldl_keeps (fun _ _ h6 => State.mirrorRaw_keeps h6) h
  clear_value v3
  extract_lets +onlyGivenNames v8
  have h9 : Keeps p v8 := foldl_keeps (fun _ _ h11 => State.takeRecord_keeps h11) h4
  clear_value v8
  exact State.setGroup_keeps ((by simp)) h9

theorem State.swapOut_keeps {p s x} (h : Keeps p s) : Keeps p (State.swapOut s x) := by
  unfold State.swapOut
  extract_lets +onlyGivenNames v1
  have h2 : Keeps p v1 := foldl_keeps (fun _ _ h4 => State.seamGroup_keeps h4) h
  clear_value v1
  extract_lets +onlyGivenNames v6
  have h7 : Keeps p v6 := foldl_keeps (fun _ _ h9 => State.closeSource_keeps h9) h2
  clear_value v6
  extract_lets +onlyGivenNames v11
  have h12 : Keeps p v11 := by
    unfold v11
    split
    · exact h7
    · exact foldl_keeps (fun _ _ h14 => State.startMills_keeps h14) h7
  clear_value v11
  extract_lets +onlyGivenNames v16
  have h17 : Keeps p v16 := State.setRole_keeps (State.hoursAnew_keeps (State.allOff_keeps (State.abortSweep_keeps h12)))
  clear_value v16
  extract_lets +onlyGivenNames v18
  extract_lets +onlyGivenNames v19
  have h20 : Keeps p v19 := keeps_rest h17
  clear_value v19
  exact keeps_rest h20

theorem State.swapNow_keeps {p s} (h : Keeps p s) : Keeps p (State.swapNow s) := by
  unfold State.swapNow
  extract_lets +onlyGivenNames v1
  split
  · exact h
  · split
    · exact h
    · split
      · exact State.swapOut_keeps h
      · split
        · exact State.takeover_keeps h
        · exact keeps_rest h

theorem State.sendSwap_keeps {p s x} (h : Keeps p s) : Keeps p (State.sendSwap s x) := by
  unfold State.sendSwap
  exact State.twinCmd_keeps h

theorem State.planSwap_keeps {p s} (h : Keeps p s) : Keeps p (State.planSwap s) := by
  unfold State.planSwap
  extract_lets +onlyGivenNames v1
  exact State.twinCmd_keeps (keeps_rest h)

theorem State.setTwinCmp_keeps {p s c x} (h : Keeps p s) : Keeps p (State.setTwinCmp s c x) := by
  unfold State.setTwinCmp
  exact keeps_rest h

theorem State.deviationBit_keeps {p s} (h : Keeps p s) : Keeps p (State.deviationBit s) := by
  unfold State.deviationBit
  exact State.twinBit_keeps h

theorem State.judgeWindow_keeps {p s c} (h : Keeps p s) : Keeps p (State.judgeWindow s c) := by
  unfold State.judgeWindow
  extract_lets +onlyGivenNames v1
  extract_lets +onlyGivenNames v2
  extract_lets +onlyGivenNames v3
  extract_lets +onlyGivenNames v4
  extract_lets +onlyGivenNames v5
  extract_lets +onlyGivenNames v6
  have h7 : Keeps p v6 := State.setTwinCmp_keeps h
  clear_value v6
  split
  · exact State.event_keeps (State.bump_keeps (State.twinBit_keeps (State.setE_keeps h7)))
  · split
    · exact State.deviationBit_keeps (State.setE_keeps h7)
    · exact h7

theorem State.keepPair_keeps {p s c own act} (h : Keeps p s) : Keeps p (State.keepPair s c own act) := by
  unfold State.keepPair
  extract_lets +onlyGivenNames v1
  extract_lets +onlyGivenNames v2
  have h3 : Keeps p v2 := State.setTwinCmp_keeps h
  clear_value v2
  split
  · split
    · exact State.judgeWindow_keeps h3
    · exact h3
  · exact h

theorem State.compareTwin_keeps {p s c isOwn t} (h : Keeps p s) : Keeps p (State.compareTwin s c isOwn t) := by
  unfold State.compareTwin
  extract_lets +onlyGivenNames v1
  extract_lets +onlyGivenNames v2
  extract_lets +onlyGivenNames v3
  extract_lets +onlyGivenNames v4
  have h5 : Keeps p v4 := State.setTwinCmp_keeps h
  clear_value v4
  split
  · exact h
  · split
    · split
      · exact State.keepPair_keeps h5
      · exact State.keepPair_keeps h5
    · exact State.setTwinCmp_keeps h

theorem State.wordsStep_keeps {p s g cs tnew} (h : Keeps p s) : Keeps p (State.wordsStep s g cs tnew) := by
  unfold State.wordsStep
  extract_lets +onlyGivenNames v1
  extract_lets +onlyGivenNames v2
  have h3 : Keeps p v2 := State.dropTaps_keeps (State.restartMills_keeps h)
  clear_value v2
  exact foldl_keeps (fun _ _ h5 => State.stepStream_keeps h5) h3

theorem State.placeWord_keeps {p s c entry k after t} (h : Keeps p s) : Keeps p (State.placeWord s c entry k after t) := by
  unfold State.placeWord
  extract_lets +onlyGivenNames v1
  exact keeps_rest h

theorem State.sampleWord_keeps {p s w} (h : Keeps p s) : Keeps p (State.sampleWord s w) := by
  unfold State.sampleWord
  extract_lets +onlyGivenNames v1
  extract_lets +onlyGivenNames v2
  extract_lets +onlyGivenNames v3
  extract_lets +onlyGivenNames v4
  extract_lets +onlyGivenNames v5
  extract_lets +onlyGivenNames v6
  extract_lets +onlyGivenNames v7
  have h8 : Keeps p v7 := by
    unfold v7
    split
    · exact State.wordsStep_keeps h
    · exact h
  clear_value v7
  extract_lets +onlyGivenNames v9
  extract_lets +onlyGivenNames v10
  have h11 : Keeps p v10 := State.excursion_keeps (State.placeWord_keeps h8)
  clear_value v10
  extract_lets +onlyGivenNames v12
  extract_lets +onlyGivenNames v13
  have h14 : Keeps p v13 := State.setChan_keeps h11
  clear_value v13
  extract_lets +onlyGivenNames v15
  have h16 : Keeps p v15 := by
    unfold v15
    split
    · exact State.setE_keeps h14
    · exact h14
  clear_value v15
  exact State.takeRecord_keeps (State.compareTwin_keeps h16)

theorem State.gapWord_keeps {p s w} (h : Keeps p s) : Keeps p (State.gapWord s w) := by
  unfold State.gapWord
  extract_lets +onlyGivenNames v1
  extract_lets +onlyGivenNames v2
  extract_lets +onlyGivenNames v3
  extract_lets +onlyGivenNames v4
  extract_lets +onlyGivenNames v5
  exact State.takeRecord_keeps (State.placeWord_keeps h)

theorem State.checkWord_keeps {p s w} (h : Keeps p s) : Keeps p (State.checkWord s w) := by
  unfold State.checkWord
  extract_lets +onlyGivenNames v1
  extract_lets +onlyGivenNames v2
  extract_lets +onlyGivenNames v3
  extract_lets +onlyGivenNames v4
  extract_lets +onlyGivenNames v5
  extract_lets +onlyGivenNames v6
  extract_lets +onlyGivenNames v7
  have h8 : Keeps p v7 := State.setChan_keeps h
  clear_value v7
  extract_lets +onlyGivenNames v9
  split
  · exact State.wireBreak_keeps (State.setChan_keeps h8)
  · exact State.cleanEvidence_keeps (State.setE_keeps (State.setChan_keeps h8))

theorem State.takeWord_keeps {p s w} (h : Keeps p s) : Keeps p (State.takeWord s w) := by
  unfold State.takeWord
  split
  · exact State.sampleWord_keeps h
  · exact State.gapWord_keeps h
  · exact State.checkWord_keeps h
  · exact h

theorem State.setAnchor_keeps {p s g r convs} (h : Keeps p s) : Keeps p (State.setAnchor s g r convs) := by
  unfold State.setAnchor
  exact keeps_rest h

theorem State.anchorWord_keeps {p s g r} (h : Keeps p s) : Keeps p (State.anchorWord s g r) := by
  unfold State.anchorWord
  extract_lets +onlyGivenNames v1
  have h2 : Keeps p v1 := State.setAnchor_keeps h
  clear_value v1
  split
  · exact State.startMills_keeps (State.setAnchor_keeps h)
  · exact State.setAnchor_keeps h
  · split
    · split
      · exact State.startMills_keeps h2
      · exact h2
    · split
      · exact h2
      · exact State.wordsStep_keeps h2

theorem State.twinWord_keeps {p s w} (h : Keeps p s) : Keeps p (State.twinWord s w) := by
  unfold State.twinWord
  extract_lets +onlyGivenNames v1
  split
  · exact keeps_rest h
  · exact State.anchorWord_keeps (keeps_rest h)
  · split
    · exact keeps_rest h
    · exact State.takeWord_keeps h

theorem State.ownRaw_keeps {p s r} (h : Keeps p s) : Keeps p (State.ownRaw s r) := by
  unfold State.ownRaw
  extract_lets +onlyGivenNames v1
  have h2 : Keeps p v1 := by
    unfold v1
    split
    · exact h
    · exact State.compareTwin_keeps h
  clear_value v1
  extract_lets +onlyGivenNames v3
  extract_lets +onlyGivenNames v4
  split
  · exact h2
  · exact keeps_rest h2

theorem State.sendConfirm_keeps {p s q num} (h : Keeps p s) : Keeps p (State.sendConfirm s q num) := by
  unfold State.sendConfirm
  exact State.sendItem_keeps h

theorem State.digestMismatch_keeps {p s q num} (h : Keeps p s) : Keeps p (State.digestMismatch s q num) := by
  unfold State.digestMismatch
  exact State.setRole_keeps (State.event_keeps (State.bump_keeps (State.twinBit_keeps h)))

theorem State.commitOwn_keeps {p s q num n b r} (h : Keeps p s) : Keeps p (State.commitOwn s q num n b r) := by
  unfold State.commitOwn
  extract_lets +onlyGivenNames v1
  extract_lets +onlyGivenNames v2
  have h3 : Keeps p v2 := State.setStream_keeps h
  clear_value v2
  extract_lets +onlyGivenNames v4
  have h5 : Keeps p v4 := State.keepValues_keeps (State.keepFixed_keeps h3)
  clear_value v4
  exact State.sendConfirm_keeps (State.tryStop_keeps (State.levels_keeps (State.commitRec_keeps h5)))

theorem State.takeCommit_keeps {p s m} (h : Keeps p s) : Keeps p (State.takeCommit s m) := by
  unfold State.takeCommit
  extract_lets +onlyGivenNames v1
  have h2 : Keeps p v1 := by
    unfold v1
    split
    · exact State.finishPlan_keeps h
    · exact h
  clear_value v1
  split
  · exact h
  · split
    · split
      · exact State.digestMismatch_keeps h2
      · exact State.commitOwn_keeps h2
    · split
      · exact h2
      · exact State.digestMismatch_keeps h2

theorem State.cutGap_keeps {p s n first count} (h : Keeps p s) : Keeps p (State.cutGap s n first count) := by
  unfold State.cutGap
  extract_lets +onlyGivenNames v1
  extract_lets +onlyGivenNames v2
  extract_lets +onlyGivenNames v3
  have h4 : Keeps p v3 := keeps_rest h
  clear_value v3
  split
  · exact State.setStream_keeps h4
  · exact h

theorem State.followMarker_keeps {p s r} (h : Keeps p s) : Keeps p (State.followMarker s r) := by
  unfold State.followMarker
  split
  · split
    · exact State.cutGap_keeps h
    · split
      · exact State.finishPlan_keeps h
      · exact h
  · exact h

theorem State.takeRecordItem_keeps {p s q b} (h : Keeps p s) : Keeps p (State.takeRecordItem s q b) := by
  unfold State.takeRecordItem
  extract_lets +onlyGivenNames v1
  extract_lets +onlyGivenNames v2
  split
  · exact State.sendConfirm_keeps (State.levels_keeps (State.commitRec_keeps (State.followMarker_keeps h)))
  · exact h

theorem State.takeDrop_keeps {p s n first} (h : Keeps p s) : Keeps p (State.takeDrop s n first) := by
  unfold State.takeDrop
  extract_lets +onlyGivenNames v1
  extract_lets +onlyGivenNames v2
  extract_lets +onlyGivenNames v3
  have h4 : Keeps p v3 := State.setStream_keeps h
  clear_value v3
  split
  · exact foldl_keeps (fun _ _ h6 => State.gapBlock_keeps h6) h4
  · exact h

theorem State.takeConfirm_keeps {p s q num} (h : Keeps p s) : Keeps p (State.takeConfirm s q num) := by
  unfold State.takeConfirm
  extract_lets +onlyGivenNames v1
  extract_lets +onlyGivenNames v2
  split
  · exact keeps_rest h
  · exact h

theorem State.applyCredit_keeps {p s m} (h : Keeps p s) : Keeps p (State.applyCredit s m) := by
  unfold State.applyCredit
  extract_lets +onlyGivenNames v1
  have h2 : Keeps p v1 := by
    unfold v1
    split
    · exact h
    · exact State.creditReleases_keeps h
  clear_value v1
  split
  · exact State.creditLimit_keeps (State.creditRewind_keeps h2)
  · exact h2

theorem State.startPairing_keeps {p s} (h : Keeps p s) : Keeps p (State.startPairing s) := by
  unfold State.startPairing
  extract_lets +onlyGivenNames v1
  extract_lets +onlyGivenNames v2
  extract_lets +onlyGivenNames v3
  extract_lets +onlyGivenNames v4
  have h5 : Keeps p v4 := keeps_rest h
  clear_value v4
  extract_lets +onlyGivenNames v6
  have h7 : Keeps p v6 := State.twinCmd_keeps h5
  clear_value v6
  exact foldl_keeps (fun _ _ h9 => foldl_keeps (fun _ _ h12 => State.copyRec_keeps h12) h9) h7

theorem State.dropPairing_keeps {p s} (h : Keeps p s) : Keeps p (State.dropPairing s) := by
  unfold State.dropPairing
  exact State.twinCmd_keeps (State.unfeed_keeps h)

theorem State.unpair_keeps {p s} (h : Keeps p s) : Keeps p (State.unpair s) := by
  unfold State.unpair
  exact State.setRole_keeps (State.discardHopper_keeps h)

theorem State.putRec_keeps {p s q r} (h : Keeps p s) : Keeps p (State.putRec s q r) := by
  unfold State.putRec
  extract_lets +onlyGivenNames v1
  exact State.setHq_keeps h

theorem State.baseQueue_keeps {p s q num} (h : Keeps p s) : Keeps p (State.baseQueue s q num) := by
  unfold State.baseQueue
  extract_lets +onlyGivenNames v1
  extract_lets +onlyGivenNames v2
  extract_lets +onlyGivenNames v3
  extract_lets +onlyGivenNames v4
  have h5 : Keeps p v4 := State.setHq_keeps h
  clear_value v4
  exact keeps_rest h5

theorem State.recordCopied_keeps {p s q num b} (h : Keeps p s) : Keeps p (State.recordCopied s q num b) := by
  unfold State.recordCopied
  extract_lets +onlyGivenNames v1
  have h2 : Keeps p v1 := by
    unfold v1
    split
    · exact State.baseQueue_keeps h
    · exact h
  clear_value v1
  extract_lets +onlyGivenNames v3
  have h4 : Keeps p v3 := State.levels_keeps (State.putRec_keeps h2)
  clear_value v3
  split
  · split
    · exact State.sendConfirm_keeps h4
    · exact h4
  · exact h2

theorem State.takeCopy_keeps {p s q num off b} (h : Keeps p s) : Keeps p (State.takeCopy s q num off b) := by
  unfold State.takeCopy
  split
  · exact h
  · extract_lets +onlyGivenNames had all tw keep
    have hk : ∀ r, Keeps p (keep r) := fun _ => keeps_rest h
    clear_value keep
    split
    · exact keeps_if (State.recordCopied_keeps (hk _)) (hk _)
    · exact hk _

theorem State.linkRefs_keeps {p s} (h : Keeps p s) : Keeps p (State.linkRefs s) := by
  unfold State.linkRefs
  exact foldl_keeps (fun _ _ h2 => State.setHq_keeps h2) h

theorem State.takePairEnd_keeps {p s points} (h : Keeps p s) : Keeps p (State.takePairEnd s points) := by
  unfold State.takePairEnd
  extract_lets +onlyGivenNames v1
  have h2 : Keeps p v1 := by
    unfold v1
    refine foldl_keeps (fun s5 a3 h4 => ?_) h
    split
    · exact h4
    · exact State.baseQueue_keeps h4
  clear_value v1
  extract_lets +onlyGivenNames v6
  have h7 : Keeps p v6 := State.setRole_keeps (State.linkRefs_keeps h2)
  clear_value v6
  extract_lets +onlyGivenNames v8
  split
  · exact h
  · split
    · exact State.sendHeartbeat_keeps (keeps_rest h7)
    · exact h2

theorem State.pairBegun_keeps {p s} (h : Keeps p s) : Keeps p (State.pairBegun s) := by
  unfold State.pairBegun
  split
  · exact State.setRole_keeps (State.discardHopper_keeps h)
  · exact h

theorem State.sailTakeBy_keeps {p f s n k} (h : Keeps p s) : Keeps p (State.sailTakeBy f s n k) := by
  induction f generalizing s with
  | zero => exact h
  | succ f ih =>
    unfold State.sailTakeBy
    dsimp only
    split
    · exact h
    · refine ih (State.emit_keeps ?_)
      split
      · exact State.streamEvent_keeps (State.setSail_keeps (MarkQueue.pop_length _ (queue_le h n)) h)
      · exact State.setSail_keeps (MarkQueue.pop_length _ (queue_le h n)) h

theorem State.sailTake_keeps {p s n} (h : Keeps p s) : Keeps p (State.sailTake s n) := by
  unfold State.sailTake
  split
  · split
    · exact State.sailTakeBy_keeps h
    · exact h
  · exact h

theorem State.sailPush_keeps {p s n r seq} (h : Keeps p s) : Keeps p (State.sailPush s n r seq) := by
  unfold State.sailPush
  extract_lets +onlyGivenNames v1
  extract_lets +onlyGivenNames v2
  extract_lets +onlyGivenNames v3
  split
  · exact State.flag_keeps (State.bump_keeps (State.setSail_keeps (MarkQueue.push_length _ (queue_le h _)) h))
  · exact State.sailTake_keeps (State.setSail_keeps (MarkQueue.push_length _ (queue_le h _)) h)

theorem State.sailOpen_keeps {p s n} (h : Keeps p s) : Keeps p (State.sailOpen s n) := by
  unfold State.sailOpen
  extract_lets +onlyGivenNames v1
  split
  · exact h
  · split
    · exact State.setSail_keeps (queue_le h _) h
    · exact State.bump_keeps (State.setSail_keeps (queue_le h _) h)

theorem State.sailRetry_keeps {p s n} (h : Keeps p s) : Keeps p (State.sailRetry s n) := by
  unfold State.sailRetry
  split
  · exact State.sailOpen_keeps h
  · exact h

theorem State.sailRecords_keeps {p s n x timeout} (h : Keeps p s) : Keeps p (State.sailRecords s n x timeout) := by
  unfold State.sailRecords
  extract_lets +onlyGivenNames v1
  extract_lets +onlyGivenNames v2
  extract_lets +onlyGivenNames v3
  extract_lets +onlyGivenNames v4
  refine foldl_keeps (fun s7 a5 h6 => ?_) (State.sailPush_keeps h)
  extract_lets +onlyGivenNames v8
  extract_lets +onlyGivenNames v9
  extract_lets +onlyGivenNames v10
  exact State.sailPush_keeps h6

theorem State.sailClose_keeps {p s n timeout} (h : Keeps p s) : Keeps p (State.sailClose s n timeout) := by
  unfold State.sailClose
  extract_lets +onlyGivenNames v1
  extract_lets +onlyGivenNames v2
  have h3 : Keeps p v2 := State.setSail_keeps (queue_le h _) h
  clear_value v2
  extract_lets +onlyGivenNames v4
  extract_lets +onlyGivenNames v5
  have h6 : Keeps p v5 := State.setSail_keeps (queue_le h3 _) h3
  clear_value v5
  extract_lets +onlyGivenNames v7
  have h8 : Keeps p v7 := by
    unfold v7
    split
    · exact State.sailRecords_keeps h6
    · exact h3
  clear_value v7
  split
  · exact h
  · split
    · exact State.sailOpen_keeps h8
    · exact h8

theorem State.gateLevel_keeps {p s g level ticks} (h : Keeps p s) : Keeps p (State.gateLevel s g level ticks) := by
  unfold State.gateLevel
  extract_lets +onlyGivenNames v1
  extract_lets +onlyGivenNames v2
  have h3 : Keeps p v2 := keeps_rest h
  split
  · exact h
  · split
    · exact h3
    · split
      · exact foldl_keeps (fun _ _ h7 => State.sailOpen_keeps h7) h3
      · split
        · exact foldl_keeps (fun _ _ h10 => State.sailClose_keeps h10) h3
        · exact h3

theorem State.gateMode_keeps {p s g v} (h : Keeps p s) : Keeps p (State.gateMode s g v) := by
  unfold State.gateMode
  extract_lets +onlyGivenNames v1
  have h2 : Keeps p v1 := State.setE_keeps h
  clear_value v1
  split
  · exact foldl_keeps (fun _ _ h4 => State.sailOpen_keeps h4) h2
  · split
    · exact foldl_keeps (fun _ _ h7 => State.sailClose_keeps h7) h2
    · exact h2

theorem State.sailStart_keeps {p s n} (h : Keeps p s) : Keeps p (State.sailStart s n) := by
  unfold State.sailStart
  extract_lets +onlyGivenNames v1
  extract_lets +onlyGivenNames v2
  extract_lets +onlyGivenNames v3
  have h4 : Keeps p v3 := State.setSail_keeps (queue_le h _) h
  clear_value v3
  extract_lets +onlyGivenNames v5
  split
  · split
    · exact State.sailOpen_keeps h4
    · split
      · exact State.sailOpen_keeps h4
      · exact h4
  · exact h4

theorem State.intervalEdge_keeps {p s m isStart isStop e} (h : Keeps p s) : Keeps p (State.intervalEdge s m isStart isStop e) := by
  unfold State.intervalEdge
  extract_lets +onlyGivenNames v1
  extract_lets +onlyGivenNames v2
  extract_lets +onlyGivenNames v3
  have h4 : Keeps p v3 := by
    unfold v3
    split
    · exact State.setSail_keeps (queue_le h _) h
    · split
      · exact State.setSail_keeps (queue_le h _) h
      · exact State.bump_keeps h
  clear_value v3
  extract_lets +onlyGivenNames v5
  split
  · exact State.bump_keeps h
  · split
    · exact State.sailClose_keeps h4
    · exact h4

theorem State.stampEdge_keeps {p s n e} (h : Keeps p s) : Keeps p (State.stampEdge s n e) := by
  unfold State.stampEdge
  extract_lets +onlyGivenNames v1
  split
  · exact State.bump_keeps h
  · exact State.sailPush_keeps (State.setSail_keeps (queue_le h _) h)

theorem State.windowEdge_keeps {p s n e} (h : Keeps p s) : Keeps p (State.windowEdge s n e) := by
  unfold State.windowEdge
  extract_lets +onlyGivenNames v1
  split
  · exact h
  · split
    · exact State.setSail_keeps (queue_le h _) h
    · split
      · exact State.setSail_keeps (queue_le h _) h
      · exact h

theorem State.windowEnd_keeps {p s n at_} (h : Keeps p s) : Keeps p (State.windowEnd s n at_) := by
  unfold State.windowEnd
  extract_lets +onlyGivenNames v1
  extract_lets +onlyGivenNames v2
  extract_lets +onlyGivenNames v3
  extract_lets +onlyGivenNames v4
  extract_lets +onlyGivenNames v5
  extract_lets +onlyGivenNames v6
  extract_lets +onlyGivenNames v7
  extract_lets +onlyGivenNames v8
  extract_lets +onlyGivenNames v9
  extract_lets +onlyGivenNames v10
  extract_lets +onlyGivenNames v11
  have h12 : Keeps p v11 := State.setSail_keeps (queue_le h _) h
  clear_value v11
  extract_lets +onlyGivenNames v13
  have h14 : Keeps p v13 := State.sailPush_keeps h12
  clear_value v13
  exact State.sailPush_keeps h14

theorem State.firstWindow_keeps {p s n} (h : Keeps p s) : Keeps p (State.firstWindow s n) := by
  unfold State.firstWindow
  extract_lets +onlyGivenNames v1
  split
  · split
    · exact State.setSail_keeps (queue_le h _) h
    · exact h
  · exact h

theorem State.sailArrives_keeps {p s n rising f} (h : Keeps p s) : Keeps p (State.sailArrives s n rising f).2 := by
  unfold State.sailArrives
  extract_lets +onlyGivenNames v1
  extract_lets +onlyGivenNames v2
  extract_lets +onlyGivenNames v3
  have h4 : Keeps p v3 := State.setSail_keeps (queue_le h _) h
  clear_value v3
  extract_lets +onlyGivenNames v5
  extract_lets +onlyGivenNames v6
  have h7 : Keeps p v6 := State.wrapAdd_keeps (State.setSail_keeps (queue_le h4 _) h4)
  clear_value v6
  split
  · exact h
  · split
    · dsimp only
      split
      · exact State.setSail_keeps (queue_le h _) h
      · exact h
    · split
      · split
        · exact State.flag_keeps (State.bump_keeps h4)
        · exact h7
      · split
        · exact State.flag_keeps (State.bump_keeps h4)
        · exact h7

theorem State.sailUse_keeps {p s n e} (h : Keeps p s) : Keeps p (State.sailUse s n e) := by
  unfold State.sailUse
  extract_lets +onlyGivenNames v1
  extract_lets +onlyGivenNames v2
  extract_lets +onlyGivenNames v3
  have h4 : Keeps p v3 := by
    unfold v3
    split
    · exact State.stampEdge_keeps h
    · split
      · exact State.windowEdge_keeps h
      · split
        · exact State.intervalEdge_keeps h
        · exact h
  clear_value v3
  exact foldl_keeps (fun _ _ h6 => State.intervalEdge_keeps h6) h4

theorem State.calibrated_keeps {p s t} (h : Keeps p s) : Keeps p (State.calibrated s t) := by
  unfold State.calibrated
  exact State.setE_keeps (State.setE_keeps h)

theorem State.sailCalibrated_keeps {p s n t} (h : Keeps p s) : Keeps p (State.sailCalibrated s n t) := by
  unfold State.sailCalibrated
  refine State.calibrated_keeps (State.setSail_keeps ?_ h)
  unfold SailRun.swapped
  split
  · exact queue_le h n
  · exact queue_le h n

theorem State.startCalibrated_keeps {p s t} (h : Keeps p s) : Keeps p (State.startCalibrated s t) := by
  unfold State.startCalibrated
  extract_lets +onlyGivenNames v1
  split
  · exact h
  · exact State.calibrated_keeps (foldl_keeps (fun _ _ h4 => State.setSail_keeps (queue_le h4 _) h4) (keeps_rest h))

theorem State.sailsLost_keeps {p s} (h : Keeps p s) : Keeps p (State.sailsLost s) := by
  unfold State.sailsLost
  exact keeps_sails (Tbl.wf_map _ h.2.1.2.2.2.2.2.2.2.2.1)
    (Tbl.forall_map (P := fun y : SailRun => y.queue.items.length ≤ 1024) _ _ (fun _ _ _ => Nat.zero_le _) h.2.2.2.1) h

theorem State.sailsStart_keeps {p s} (h : Keeps p s) : Keeps p (State.sailsStart s) := by
  unfold State.sailsStart
  exact foldl_keeps (fun _ _ h2 => State.sailStart_keeps h2) h

theorem State.setGridState_keeps {p s a v} (h : Keeps p s) : Keeps p (State.setGridState s a v) := by
  unfold State.setGridState
  exact State.setE_keeps h

theorem State.gridItem_keeps {p s n a speed p5} (h : Keeps p s) : Keeps p (State.gridItem s n a speed p5) := by
  unfold State.gridItem
  extract_lets +onlyGivenNames v1
  have h2 : Keeps p v1 := State.gridMark_keeps h
  clear_value v1
  extract_lets +onlyGivenNames v3
  split
  · split
    · exact h2
    · split
      · exact State.fillAt_keeps h2
      · exact State.streamInput_keeps h2
  · exact State.pump_keeps (State.setStream_keeps h)

theorem State.gridItems_keeps {p s a speed p4} (h : Keeps p s) : Keeps p (State.gridItems s a speed p4) := by
  unfold State.gridItems
  exact foldl_keeps (fun _ _ h2 => State.gridItem_keeps h2) h

theorem State.producePoint_keeps {p s a b rev ang pitch step j} (h : Keeps p s) : Keeps p (State.producePoint s a b rev ang pitch step j) := by
  unfold State.producePoint
  extract_lets +onlyGivenNames v1
  extract_lets +onlyGivenNames v2
  extract_lets +onlyGivenNames v3
  extract_lets +onlyGivenNames v4
  extract_lets +onlyGivenNames v5
  extract_lets +onlyGivenNames v6
  extract_lets +onlyGivenNames v7
  extract_lets +onlyGivenNames v8
  extract_lets +onlyGivenNames v9
  split
  · exact h
  · extract_lets +onlyGivenNames v11
    extract_lets +onlyGivenNames v12
    extract_lets +onlyGivenNames v13
    have h14 : Keeps p v13 := State.gridItems_keeps h
    clear_value v13
    extract_lets +onlyGivenNames v15
    exact State.setGrid_keeps h14

theorem State.pointsAt_keeps {p s a b} (h : Keeps p s) : Keeps p (State.pointsAt s a b) := by
  unfold State.pointsAt
  extract_lets +onlyGivenNames v1
  extract_lets +onlyGivenNames v2
  extract_lets +onlyGivenNames v3
  extract_lets +onlyGivenNames v4
  extract_lets +onlyGivenNames v5
  split
  · exact h
  · extract_lets +onlyGivenNames v7
    extract_lets +onlyGivenNames v8
    extract_lets +onlyGivenNames v9
    exact foldl_keeps (fun _ _ h11 => State.producePoint_keeps h11) h

theorem State.points_keeps {p s a} (h : Keeps p s) : Keeps p (State.points s a) := by
  unfold State.points
  extract_lets +onlyGivenNames v1
  split
  · extract_lets +onlyGivenNames v3
    extract_lets +onlyGivenNames v4
    have h5 : Keeps p v4 := foldl_keeps (fun _ _ h7 => State.pointsAt_keeps h7) h
    clear_value v4
    extract_lets +onlyGivenNames v9
    split
    · exact State.setGrid_keeps h5
    · exact h
  · exact h

theorem State.syncLostGrid_keeps {p s a reason} (h : Keeps p s) : Keeps p (State.syncLostGrid s a reason) := by
  unfold State.syncLostGrid
  extract_lets +onlyGivenNames v1
  extract_lets +onlyGivenNames v2
  extract_lets +onlyGivenNames v3
  extract_lets +onlyGivenNames v4
  have h5 : Keeps p v4 := State.gridItems_keeps h
  clear_value v4
  exact State.flag_keeps (State.bump_keeps (State.setGrid_keeps h5))

theorem State.leave_keeps {p s a reason} (h : Keeps p s) : Keeps p (State.leave s a reason) := by
  unfold State.leave
  split
  · exact State.syncLostGrid_keeps h
  · exact h

theorem State.gridWarm_keeps {p s a} (h : Keeps p s) : Keeps p (State.gridWarm s a) := by
  unfold State.gridWarm
  exact State.flag_keeps h

theorem State.search_keeps {p s a} (h : Keeps p s) : Keeps p (State.search s a) := by
  unfold State.search
  exact State.gridWarm_keeps (State.setGridState_keeps (State.setGrid_keeps h))

theorem State.toothError_keeps {p s a} (h : Keeps p s) : Keeps p (State.toothError s a) := by
  unfold State.toothError
  exact State.search_keeps (State.bump_keeps (State.leave_keeps h))

theorem State.synced_keeps {p s a z0} (h : Keeps p s) : Keeps p (State.synced s a z0) := by
  unfold State.synced
  extract_lets +onlyGivenNames v1
  extract_lets +onlyGivenNames v2
  have h3 : Keeps p v2 := by
    unfold v2
    split
    · exact State.setE_keeps h
    · exact h
  clear_value v2
  extract_lets +onlyGivenNames v4
  have h5 : Keeps p v4 := State.setGrid_keeps h3
  clear_value v4
  extract_lets +onlyGivenNames v6
  have h7 : Keeps p v6 := by
    unfold v6
    split
    · exact State.flag_keeps h5
    · exact h5
  clear_value v6
  exact State.setGridState_keeps h7

theorem State.found_keeps {p s a z0} (h : Keeps p s) : Keeps p (State.found s a z0) := by
  unfold State.found
  extract_lets +onlyGivenNames v1
  extract_lets +onlyGivenNames v2
  have h3 : Keeps p v2 := State.setGrid_keeps h
  clear_value v2
  split
  · exact State.setGridState_keeps h3
  · exact State.synced_keeps h3

theorem State.recognised_keeps {p s a} (h : Keeps p s) : Keeps p (State.recognised s a) := by
  unfold State.recognised
  split
  · exact h
  · exact State.wrapAdd_keeps h

theorem State.nextCycle_keeps {p s a q z0} (h : Keeps p s) : Keeps p (State.nextCycle s a q z0).1 := by
  unfold State.nextCycle
  extract_lets +onlyGivenNames v1
  extract_lets +onlyGivenNames v2
  extract_lets +onlyGivenNames v3
  extract_lets +onlyGivenNames v4
  have h5 : Keeps p v4 := by
    unfold v4
    split
    · exact State.flag_keeps (State.flag_keeps h)
    · split
      · exact State.flag_keeps h
      · exact h
  clear_value v4
  split
  · exact h
  · split
    · exact State.setGrid_keeps h5
    · split
      · exact State.setGrid_keeps h
      · exact h

theorem State.revolution_keeps {p s a count} (h : Keeps p s) : Keeps p (State.revolution s a count) := by
  unfold State.revolution
  extract_lets +onlyGivenNames v1
  extract_lets +onlyGivenNames v2
  have h3 : Keeps p v2 := State.setGrid_keeps h
  clear_value v2
  split
  · exact State.setE_keeps h3
  · exact h3

theorem State.overspeed_keeps {p s a z0 d} (h : Keeps p s) : Keeps p (State.overspeed s a z0 d) := by
  unfold State.overspeed
  extract_lets +onlyGivenNames v1
  split
  · exact h
  · split
    · exact State.setGridState_keeps (State.leave_keeps h)
    · split
      · exact State.setGridState_keeps (State.setGrid_keeps h)
      · exact h

theorem State.toothZero_keeps {p s a z0} (h : Keeps p s) : Keeps p (State.toothZero s a z0) := by
  unfold State.toothZero
  extract_lets +onlyGivenNames v1
  extract_lets +onlyGivenNames v2
  extract_lets +onlyGivenNames v3
  have h4 : Keeps p v3 := State.wrapAdd_keeps h
  clear_value v3
  extract_lets +onlyGivenNames v5
  have h6 : Keeps p v5.1 := State.nextCycle_keeps h4
  clear_value v5
  extract_lets +onlyGivenNames v7
  have h8 : Keeps p v7 := h6
  clear_value v7
  extract_lets +onlyGivenNames v9
  split
  · exact State.synced_keeps (State.setGrid_keeps h)
  · split
    · exact State.setGrid_keeps h
    · split
      · split
        · exact State.synced_keeps (State.setGrid_keeps h4)
        · exact State.setGrid_keeps h4
      · exact State.setGrid_keeps h8

theorem State.acceptTooth_keeps {p s a at_ e} (h : Keeps p s) : Keeps p (State.acceptTooth s a at_ e) := by
  unfold State.acceptTooth
  extract_lets +onlyGivenNames v1
  exact State.gridWarm_keeps (State.setGrid_keeps h)

theorem State.firstTooth_keeps {p s a e} (h : Keeps p s) : Keeps p (State.firstTooth s a e) := by
  unfold State.firstTooth
  extract_lets +onlyGivenNames v1
  extract_lets +onlyGivenNames v2
  have h3 : Keeps p v2 := State.acceptTooth_keeps (State.setGrid_keeps h)
  clear_value v2
  extract_lets +onlyGivenNames v4
  split
  · exact State.revolution_keeps (State.setGrid_keeps (State.recognised_keeps h3))
  · exact h3

theorem State.placedTooth_keeps {p s a e r} (h : Keeps p s) : Keeps p (State.placedTooth s a e r) := by
  unfold State.placedTooth
  extract_lets +onlyGivenNames v1
  extract_lets +onlyGivenNames v2
  extract_lets +onlyGivenNames v3
  extract_lets +onlyGivenNames v4
  split
  · extract_lets +onlyGivenNames v6
    extract_lets +onlyGivenNames v7
    extract_lets +onlyGivenNames v8
    extract_lets +onlyGivenNames v9
    extract_lets +onlyGivenNames v10
    extract_lets +onlyGivenNames v11
    extract_lets +onlyGivenNames v12
    have h13 : Keeps p v12 := State.acceptTooth_keeps h
    clear_value v12
    extract_lets +onlyGivenNames v14
    extract_lets +onlyGivenNames v15
    have h16 : Keeps p v15 := State.revolution_keeps (State.toothZero_keeps (State.setGrid_keeps h13))
    clear_value v15
    split
    · exact State.firstTooth_keeps (State.toothError_keeps h)
    · split
      · refine State.firstTooth_keeps ?_
        refine State.toothError_keeps ?_
        split
        · exact State.bump_keeps h
        · exact h
      · split
        · refine State.firstTooth_keeps ?_
          refine State.toothError_keeps ?_
          split
          · exact State.bump_keeps h
          · exact h
        · split
          · exact State.overspeed_keeps (State.points_keeps h16)
          · exact State.points_keeps h13
  · exact h

theorem State.searchTooth_keeps {p s a e r} (h : Keeps p s) : Keeps p (State.searchTooth s a e r) := by
  have k {i j c} := State.revolution_keeps (a := a) (count := c) (State.recognised_keeps (a := a)
    (State.setGrid_keeps (a := a) (x := j) (State.acceptTooth_keeps (a := a) (at_ := i) (e := e) h)))
  unfold State.searchTooth
  dsimp only
  split
  · exact State.firstTooth_keeps h
  · exact keeps_if (keeps_if (State.overspeed_keeps (State.found_keeps k)) k)
      (keeps_if (keeps_if (State.overspeed_keeps (State.found_keeps k)) k)
        (State.setGrid_keeps (State.acceptTooth_keeps h)))

theorem State.toothEdge_keeps {p s a e} (h : Keeps p s) : Keeps p (State.toothEdge s a e) := by
  unfold State.toothEdge
  extract_lets +onlyGivenNames v1
  extract_lets +onlyGivenNames v2
  have h3 : Keeps p v2 := by
    unfold v2
    split
    · exact State.search_keeps h
    · exact h
  clear_value v2
  split
  · exact State.setGrid_keeps h
  · split
    · exact h
    · split
      · exact State.bump_keeps h3
      · exact State.firstTooth_keeps (State.toothError_keeps h3)
      · split
        · exact State.placedTooth_keeps h3
        · exact State.searchTooth_keeps h3
      · exact State.searchTooth_keeps h3

theorem State.placedReference_keeps {p s a e t u z0} (h : Keeps p s) : Keeps p (State.placedReference s a e t u z0) := by
  unfold State.placedReference
  extract_lets +onlyGivenNames v1
  extract_lets +onlyGivenNames v2
  extract_lets +onlyGivenNames v3
  split
  · exact State.setGrid_keeps h
  · split
    · exact State.setGrid_keeps h
    · refine State.toothError_keeps ?_
      split
      · exact State.bump_keeps h
      · exact h

theorem State.referenceEdge_keeps {p s a e} (h : Keeps p s) : Keeps p (State.referenceEdge s a e) := by
  unfold State.referenceEdge
  extract_lets +onlyGivenNames v1
  extract_lets +onlyGivenNames v2
  have h3 : Keeps p v2 := State.recognised_keeps (State.setGrid_keeps h)
  clear_value v2
  split
  · exact h
  · split
    · split
      · exact State.placedReference_keeps h
      · exact h
    · split
      · split
        · extract_lets +onlyGivenNames v8
          have h9 : Keeps p v8 := State.found_keeps h3
          clear_value v8
          extract_lets +onlyGivenNames v10
          extract_lets +onlyGivenNames v11
          have h12 : Keeps p v11 := State.setGrid_keeps h9
          clear_value v11
          split
          · exact h12
          · exact h3
        · exact h3
      · exact h

theorem State.camEdge_keeps {p s a} (h : Keeps p s) : Keeps p (State.camEdge s a) := by
  unfold State.camEdge
  extract_lets +onlyGivenNames v1
  split
  · exact State.setGrid_keeps h
  · exact h

theorem State.gridEdge_keeps {p s n e} (h : Keeps p s) : Keeps p (State.gridEdge s n e) := by
  unfold State.gridEdge
  refine foldl_keeps (fun s3 a1 h2 => ?_) h
  extract_lets +onlyGivenNames v4
  have h5 : Keeps p v4 := by
    unfold v4
    split
    · exact State.referenceEdge_keeps h2
    · exact h2
  clear_value v4
  extract_lets +onlyGivenNames v6
  have h7 : Keeps p v6 := by
    unfold v6
    split
    · exact State.camEdge_keeps h5
    · exact h5
  clear_value v6
  split
  · exact State.toothEdge_keeps h7
  · exact h7

theorem State.standStill_keeps {p s a} (h : Keeps p s) : Keeps p (State.standStill s a) := by
  unfold State.standStill
  exact State.setE_keeps (State.setGridState_keeps (State.leave_keeps h))

theorem State.suspendGrid_keeps {p s a v} (h : Keeps p s) : Keeps p (State.suspendGrid s a v) := by
  unfold State.suspendGrid
  extract_lets +onlyGivenNames v1
  have h2 : Keeps p v1 := State.setE_keeps h
  clear_value v1
  split
  · exact State.setGridState_keeps (State.leave_keeps h2)
  · split
    · exact State.search_keeps h2
    · exact h2

theorem State.gridsStart_keeps {p s} (h : Keeps p s) : Keeps p (State.gridsStart s) := by
  unfold State.gridsStart
  refine foldl_keeps (fun s3 a1 h2 => ?_) h
  split
  · exact State.setE_keeps (State.search_keeps (State.setGrid_keeps h2))
  · exact h2

theorem State.gridsStop_keeps {p s} (h : Keeps p s) : Keeps p (State.gridsStop s) := by
  unfold State.gridsStop
  exact foldl_keeps (fun _ _ h2 => State.gridWarm_keeps (State.setGridState_keeps (State.setGrid_keeps h2))) h

theorem State.stepGrids_keeps {p s} (h : Keeps p s) : Keeps p (State.stepGrids s) := by
  unfold State.stepGrids
  refine foldl_keeps (fun s3 a1 h2 => ?_) h
  extract_lets +onlyGivenNames v4
  split
  · exact h2
  · exact State.setGrid_keeps h2

theorem State.replaceRec_keeps {p s q pos r} (h : Keeps p s) : Keeps p (State.replaceRec s q pos r) := by
  unfold State.replaceRec
  extract_lets +onlyGivenNames v1
  exact State.setHq_keeps h

theorem State.forgetBlock_keeps {p s lost} (h : Keeps p s) : Keeps p (State.forgetBlock s lost) := by
  unfold State.forgetBlock
  extract_lets +onlyGivenNames v1
  split
  · exact State.setStream_keeps h
  · exact h

theorem State.dependants_keeps {p s q lost} (h : Keeps p s) : Keeps p (State.dependants s q lost).1 := by
  unfold State.dependants
  extract_lets +onlyGivenNames v1
  extract_lets +onlyGivenNames v2
  exact State.setHq_keeps h

theorem State.dependantsWaiting_keeps {p s lost} (h : Keeps p s) : Keeps p (State.dependantsWaiting s lost).1 := by
  unfold State.dependantsWaiting
  extract_lets +onlyGivenNames v1
  exact keeps_rest h

theorem State.loseBy_keeps {p k s l} (h : Keeps p s) : Keeps p (State.loseBy k s l) := by
  induction k generalizing s l with
  | zero => exact h
  | succ k ih =>
    cases l with
    | nil => exact h
    | cons a rest =>
      unfold State.loseBy
      refine ih (foldl_keeps_fst (fun s a h' => ?_) (State.dependantsWaiting_keeps (State.forgetBlock_keeps h)))
      exact State.dependants_keeps h'

theorem State.loseFrom_keeps {p s lost} (h : Keeps p s) : Keeps p (State.loseFrom s lost) := by
  unfold State.loseFrom
  exact State.loseBy_keeps h

theorem State.relinquish_keeps {p s} (h : Keeps p s) : Keeps p (State.relinquish s) := by
  unfold State.relinquish
  split
  · exact State.stepDown_keeps (State.twinCmd_keeps h)
  · exact h

theorem State.hopperFatal_keeps {p s q num pos r} (h : Keeps p s) : Keeps p (State.hopperFatal s q num pos r) := by
  unfold State.hopperFatal
  extract_lets +onlyGivenNames v1
  extract_lets +onlyGivenNames v2
  have h3 : Keeps p v2 := State.replaceRec_keeps (State.event_keeps (State.flag_keeps h))
  clear_value v2
  split
  · exact h3
  · exact State.relinquish_keeps h3

theorem State.badCopy_keeps {p s q num pos r field second} (h : Keeps p s) : Keeps p (State.badCopy s q num pos r field second) := by
  unfold State.badCopy
  split
  · exact State.hopperFatal_keeps h
  · split
    · exact h
    · exact State.replaceRec_keeps h

theorem State.recordLost_keeps {p s q num pos r header} (h : Keeps p s) : Keeps p (State.recordLost s q num pos r header) := by
  unfold State.recordLost
  split
  · exact h
  · split
    · exact State.loseFrom_keeps (State.replaceRec_keeps h)
    · exact State.replaceRec_keeps h

theorem State.wordLost_keeps {p s q num pos site} (h : Keeps p s) : Keeps p (State.wordLost s q num pos site) := by
  unfold State.wordLost
  split
  · exact h
  · split
    · exact State.recordLost_keeps h
    · exact State.recordLost_keeps h
    · exact State.hopperFatal_keeps h
    · exact State.badCopy_keeps h

theorem State.memoryError_keeps {p s e} (h : Keeps p s) : Keeps p (State.memoryError s e) := by
  unfold State.memoryError
  exact State.wordLost_keeps h

theorem State.scrub_keeps {p s corrected free errors} (h : Keeps p s) : Keeps p (State.scrub s corrected free errors) := by
  unfold State.scrub
  extract_lets +onlyGivenNames v1
  have h2 : Keeps p v1 := State.setE_keeps (State.bump_keeps (State.bump_keeps h))
  clear_value v1
  exact foldl_keeps (fun _ _ h4 => State.memoryError_keeps h4) h2

theorem State.readErrors_keeps {p s q m} (h : Keeps p s) : Keeps p (State.readErrors s q m) := by
  unfold State.readErrors
  extract_lets +onlyGivenNames v1
  have h2 : Keeps p v1 := State.bump_keeps h
  clear_value v1
  split
  · exact h2
  · exact State.wordLost_keeps (State.bump_keeps h2)

end Sys2Proof.Machine
end

