-- ==== Sys2Proof/Laws/KeepsPower.lean ====
section
/-! SUPPORT. What the operations keep (Laws/Keeps.lean): the admission check, power states, resets and long operations. -/

namespace Sys2Proof.Machine

theorem State.reportStream_keeps {p s n engine} (h : Keeps p s) : Keeps p (State.reportStream s n engine) := by
  unfold State.reportStream
  extract_lets +onlyGivenNames v1
  extract_lets +onlyGivenNames v2
  have h3 : Keeps p v2 := State.setE_keeps (State.setE_keeps (State.setE_keeps h))
  clear_value v2
  exact foldl_keeps (fun _ _ h5 => State.setE_keeps h5) h3

theorem State.verdict_keeps {p s fault} (h : Keeps p s) : Keeps p (State.verdict s fault) := by
  unfold State.verdict
  extract_lets +onlyGivenNames v1
  extract_lets +onlyGivenNames v2
  extract_lets +onlyGivenNames v3
  extract_lets +onlyGivenNames v4
  extract_lets +onlyGivenNames v5
  have h6 : Keeps p v5 := State.setE_keeps (State.setE_keeps (State.setE_keeps (State.setE_keeps h)))
  clear_value v5
  extract_lets +onlyGivenNames v7
  have h8 : Keeps p v7 := State.setE_keeps (State.setE_keeps h6)
  clear_value v7
  extract_lets +onlyGivenNames v9
  have h10 : Keeps p v9 := foldl_keeps (fun _ _ h12 => State.setE_keeps h12) h8
  clear_value v9
  split
  · exact State.setE_keeps (State.setE_keeps (State.setE_keeps (State.setE_keeps h)))
  · exact foldl_keeps (fun _ _ h15 => State.reportStream_keeps h15) h10

theorem State.writeVerdict_keeps {p s} (h : Keeps p s) : Keeps p (State.writeVerdict s) := by
  unfold State.writeVerdict
  extract_lets +onlyGivenNames v1
  have h2 : Keeps p v1 := State.setE_keeps h
  clear_value v1
  exact State.verdict_keeps h2

theorem State.checkAdvances_keeps {p s} (h : Keeps p s) : Keeps p (State.checkAdvances s) := by
  unfold State.checkAdvances
  extract_lets +onlyGivenNames v1
  extract_lets +onlyGivenNames v2
  extract_lets +onlyGivenNames v3
  exact State.fresh_keeps (State.opProgress_keeps h)

theorem State.paceRegion_keeps {p s i sub margin} (h : Keeps p s) : Keeps p (State.paceRegion s i sub margin) := by
  unfold State.paceRegion
  extract_lets +onlyGivenNames v1
  have h2 : Keeps p v1 := State.setE_keeps h
  extract_lets +onlyGivenNames v3
  extract_lets +onlyGivenNames v4
  extract_lets +onlyGivenNames v5
  extract_lets +onlyGivenNames v6
  have h7 : Keeps p v6 := keeps_rest h2
  split
  · exact State.paceBit_keeps h7
  · split
    · exact State.flag_keeps h7
    · exact h7

theorem State.paceMeasured_keeps {p s intake screed hopper} (h : Keeps p s) : Keeps p (State.paceMeasured s intake screed hopper) := by
  unfold State.paceMeasured
  extract_lets +onlyGivenNames v1
  extract_lets +onlyGivenNames v2
  extract_lets +onlyGivenNames v3
  extract_lets +onlyGivenNames v4
  extract_lets +onlyGivenNames v5
  have h6 : Keeps p v5 := State.setE_keeps (State.setE_keeps (State.setE_keeps h))
  clear_value v5
  exact State.paceRegion_keeps (State.paceRegion_keeps (State.paceRegion_keeps h6))

theorem State.keepE_keeps {p s keep} (h : Keeps p s) : Keeps p (State.keepE s keep) := by
  unfold State.keepE
  exact keeps_dict h

theorem State.regionsLost_keeps {p s} (h : Keeps p s) : Keeps p (State.regionsLost s) := by
  unfold State.regionsLost
  refine foldl_keeps (fun _ _ h' => State.takeBlank_keeps h') (State.sailsLost_keeps ?_)
  exact keeps_rest (c := s.sailCal) (keeps_chans (Tbl.wf_map _ h.2.1.2.2.1) (keeps_groups (l := []) rfl (fun _ e => by cases e)
    (keeps_tones rfl (keeps_mills rfl (keeps_grids rfl (keeps_cmps rfl (keeps_blanks rfl h)))))))

theorem State.governorReset_keeps {p s kind} (h : Keeps p s) : Keeps p (State.governorReset s kind) := by
  have hd : Keeps p s.domainsKept := State.domainsKept_keeps h
  unfold State.governorReset
  generalize s.domainsKept = d at hd ⊢
  exact keeps_if (keeps_gov rfl h) (keeps_gov hd.2.1.2.2.2.2.2.2.2.2.2.2.2.2.1 hd)

theorem State.hardReset_keeps {p s kind} (h : Keeps p s) : Keeps p (State.hardReset s kind) := by
  have k1 : ∀ t : State, Keeps p t → Keeps p { t with
      blobs := [], chans := [], xports := Tbl.map XPort.reset
        (fun _ x => { XPort.reset with discharging := x.discharging, dischargeFail := x.dischargeFail }) t.xports
      orders := 0, blanks := [], windows := [], groups := [], evtFire := []
      tones := [], mills := [], dieTemps := [], sails := [], sailCal := false, grids := [], streams := []
      hop := Hop.reset (restartKind kind), leat := Leat.reset, svc := Svc.reset, twin := Twin.reset, inputs := []
      cmps := [], trips := [], scrims := [], safeOn := false, safeTicks := 0, log := MarkQueue.empty
      flash := { Flash.reset with copies := t.flash.copies }
      power := { Power.reset with phase := if kind = 1 then .awaitPll else .awaitStart, kind := kind }
      pins := { t.pins with twrqN := true, twrqEnd := 0, pps := if kind = 1 then false else t.pins.pps } } := by
    intro t ht
    exact ⟨ht.1, ⟨ht.2.1.1, rfl, rfl, Tbl.wf_map _ ht.2.1.2.2.2.1, rfl, rfl, rfl, rfl, rfl, rfl, rfl, rfl,
      ht.2.1.2.2.2.2.2.2.2.2.2.2.2.2.1, rfl, rfl, rfl, rfl⟩, Nat.zero_le _, (fun _ e => by cases e), (fun _ e => by cases e),
      Nat.zero_le _⟩
  unfold State.hardReset
  exact State.setE_keeps (State.setE_keeps (State.setE_keeps (k1 _ (State.keepE_keeps
    (State.governorReset_keeps (State.allOff_keeps (State.pinsLow_keeps h)))))))

theorem State.hold_keeps {p s} (h : Keeps p s) : Keeps p (State.hold s) := by
  unfold State.hold
  extract_lets +onlyGivenNames v1
  have h2 : Keeps p v1 := State.allOff_keeps (State.safetyStop_keeps h)
  clear_value v1
  extract_lets +onlyGivenNames v3
  have h4 : Keeps p v3 := foldl_keeps (fun _ _ h6 => State.portOff'_keeps h6) h2
  clear_value v3
  exact keeps_power ((by simp)) h4

theorem State.excitationBack_keeps {p s} (h : Keeps p s) : Keeps p (State.excitationBack s) := by
  unfold State.excitationBack
  split
  · exact h
  · exact foldl_keeps (fun _ _ h2 => State.comeOn_keeps h2) h

theorem State.setTrans_keeps {p s t} (h : Keeps p s) : Keeps p (State.setTrans s t) := by
  unfold State.setTrans
  exact keeps_rest h

theorem State.mirrorStop_keeps {p s target} (h : Keeps p s) : Keeps p (State.mirrorStop s target) := by
  unfold State.mirrorStop
  split
  · exact State.twinCmd_keeps h
  · exact h

theorem State.enterIdle_keeps {p s fromStill} (h : Keeps p s) : Keeps p (State.enterIdle s fromStill) := by
  unfold State.enterIdle
  extract_lets +onlyGivenNames v1
  have h2 : Keeps p v1 := State.setTrans_keeps (State.setE_keeps h)
  clear_value v1
  split
  · exact State.portsWait_keeps (State.allOff_keeps h2)
  · split
    · exact State.excitationBack_keeps (State.portsWait_keeps h2)
    · exact h2

theorem State.enterStill_keeps {p s} (h : Keeps p s) : Keeps p (State.enterStill s) := by
  unfold State.enterStill
  exact State.setTrans_keeps (State.setE_keeps (State.allOff_keeps h))

theorem State.park_keeps {p s} (h : Keeps p s) : Keeps p (State.park s) := by
  unfold State.park
  exact foldl_keeps (fun _ _ h2 => State.setTrip_keeps (State.tripTo_keeps h2)) h

theorem State.leaveStill_keeps {p s} (h : Keeps p s) : Keeps p (State.leaveStill s) := by
  unfold State.leaveStill
  extract_lets +onlyGivenNames v1
  have h2 : Keeps p v1 := foldl_keeps (fun _ _ h4 => State.setE_keeps (State.setTrip_keeps h4)) h
  clear_value v1
  exact foldl_keeps (fun _ _ h7 => State.setSail_keeps (queue_le h7 _) h7) h2

theorem State.encodeAll_keeps {p k s} (h : Keeps p s) : Keeps p (State.encodeAll k s) := by
  induction k generalizing s with
  | zero => exact h
  | succ k ih => exact ih (foldl_keeps (fun _ _ h' => State.blockEncode_keeps h') h)

theorem State.drainStreams_keeps {p s} (h : Keeps p s) : Keeps p (State.drainStreams s) := by
  unfold State.drainStreams
  extract_lets +onlyGivenNames v1
  extract_lets +onlyGivenNames v2
  have h3 : Keeps p v2 := State.encodeAll_keeps h
  clear_value v2
  refine foldl_keeps (fun s6 a4 h5 => ?_) h3
  extract_lets +onlyGivenNames v7
  extract_lets +onlyGivenNames v8
  extract_lets +onlyGivenNames v9
  have h10 : Keeps p v9 := State.setStream_keeps h5
  clear_value v9
  exact State.tryStop_keeps (foldl_keeps (fun _ _ h12 => State.dropBlock_keeps h12) h10)

theorem State.warmDone_keeps {p s twin} (h : Keeps p s) : Keeps p (State.warmDone s twin) := by
  have k1 : ∀ t : State, Keeps p t → Keeps p { t with flash :=
      { t.flash with snapshot := none, since := [], staged := none, install := none, testing := none } } := fun _ ht => ht
  have k2 : ∀ t : State, Keeps p t → Keeps p (if twin then
      ({ t with hop := { Hop.reset 1 with restartDue := none }, twin := { t.twin with parts := [], items := [], words := [] } }.allOff).setRole 1
      else t.rewindAll) := fun t ht => keeps_if (State.setRole_keeps (State.allOff_keeps
        (keeps_hop (s := { t with twin := { t.twin with parts := [], items := [], words := [] } })
          (x := { Hop.reset 1 with restartDue := none }) rfl ht))) (State.rewindAll_keeps ht)
  have k3 : ∀ t : State, Keeps p t → Keeps p { t with power := { t.power with
      trans := .none, skewBad := 0, skewGood := 0, tempBad := 0, tempGood := 0, lowRuns := [], highRuns := [] } } :=
    fun t ht => keeps_power (x := { t.power with
      trans := .none, skewBad := 0, skewGood := 0, tempBad := 0, tempGood := 0, lowRuns := [], highRuns := [] }) ht.2.2.2.2.2 ht
  have k4 : ∀ t : State, Keeps p t → Keeps p { t with blobs := t.blobs.filter (fun p => decide (survOf p.1 ≠ Surv.W)) } :=
    fun _ ht => keeps_blobs (Tbl.wf_filter _ ht.2.1.2.1) ht
  unfold State.warmDone
  exact State.sailsStart_keeps (State.safetyStart_keeps (State.setE_keeps (State.setE_keeps (k3 _ (k2 _ (k1 _
    (State.regionsLost_keeps (k4 _ (State.keepE_keeps (State.domainsKept_keeps (State.pinsLow_keeps
      (State.drainStreams_keeps h))))))))))))

theorem State.settlePower_keeps {p s} (h : Keeps p s) : Keeps p (State.settlePower s) := by
  unfold State.settlePower
  extract_lets +onlyGivenNames v1
  have h2 : Keeps p v1 := by
    unfold v1
    split
    · exact State.planDone_keeps h
    · exact h
  clear_value v1
  split
  · exact h2
  · split
    · exact State.enterIdle_keeps h2
    · exact State.enterStill_keeps h2
    · exact State.warmDone_keeps h2
    · exact h2

theorem State.beginStop_keeps {p s t} (h : Keeps p s) : Keeps p (State.beginStop s t) := by
  unfold State.beginStop
  extract_lets +onlyGivenNames v1
  have h2 : Keeps p v1 := State.setTrans_keeps (State.gridsStop_keeps (State.planStop_keeps (State.abortSweep_keeps h)))
  clear_value v1
  exact State.settlePower_keeps (State.setE_keeps h2)

theorem State.enterDormant_keeps {p s} (h : Keeps p s) : Keeps p (State.enterDormant s) := by
  unfold State.enterDormant
  extract_lets +onlyGivenNames v1
  have h2 : Keeps p v1 := State.allOff_keeps (State.safetyStop_keeps h)
  clear_value v1
  extract_lets +onlyGivenNames v3
  have h4 : Keeps p v3 := by
    unfold v3
    refine foldl_keeps (fun s7 a5 h6 => ?_) h2
    split
    · exact h6
    · exact State.portOff'_keeps h6
  clear_value v3
  extract_lets +onlyGivenNames v8
  have h9 : Keeps p v8 := foldl_keeps (fun _ _ h11 => State.holdover_keeps h11) h4
  clear_value v8
  extract_lets +onlyGivenNames v13
  have h14 : Keeps p v13 := State.setE_keeps (State.sailsLost_keeps h9)
  clear_value v13
  exact keeps_rest h14

theorem State.dormantBoundary_keeps {p s p2} (h : Keeps p s) : Keeps p (State.dormantBoundary s p2) := by
  unfold State.dormantBoundary
  extract_lets +onlyGivenNames v1
  split
  · exact State.portOff'_keeps h
  · split
    · exact State.transmit_keeps (State.setPort_keeps h)
    · exact State.portOff'_keeps h

theorem State.beginWarm_keeps {p s twin} (h : Keeps p s) : Keeps p (State.beginWarm s twin) := by
  unfold State.beginWarm
  extract_lets +onlyGivenNames v1
  have h2 : Keeps p v1 := by
    unfold v1
    split
    · exact State.dropPairing_keeps (State.opAbort_keeps h)
    · exact h
  clear_value v1
  extract_lets +onlyGivenNames v3
  have h4 : Keeps p v3 := by
    unfold v3
    split
    · exact h2
    · exact State.mirrorStop_keeps h2
  clear_value v3
  extract_lets +onlyGivenNames v5
  have h6 : Keeps p v5 := State.setE_keeps (keeps_rest h4)
  clear_value v5
  exact State.beginStop_keeps (State.opsReset_keeps h6)

theorem State.runTests_keeps {p s} (h : Keeps p s) : Keeps p (State.runTests s).2 := by
  unfold State.runTests
  extract_lets +onlyGivenNames v1
  have h2 : Keeps p v1 := State.reactions_keeps h
  clear_value v1
  extract_lets +onlyGivenNames v3
  have h4 : Keeps p v3 := State.setE_keeps (State.setE_keeps h2)
  clear_value v3
  split
  · exact h2
  · split
    · exact State.setE_keeps (State.setE_keeps h2)
    · split
      · exact h4
      · split
        · exact h4
        · exact h4

theorem State.startCheck_keeps {p s} (h : Keeps p s) : Keeps p (State.startCheck s) := by
  unfold State.startCheck
  extract_lets +onlyGivenNames v1
  have h2 : Keeps p v1 := State.opStart_keeps h
  clear_value v1
  exact State.opProgress_keeps h2

theorem State.beginRun_keeps {p s txn} (h : Keeps p s) : Keeps p (State.beginRun s txn) := by
  unfold State.beginRun
  extract_lets +onlyGivenNames v1
  have h2 : Keeps p v1 := by
    unfold v1
    split
    · exact State.dropPairing_keeps (State.opAbort_keeps h)
    · exact h
  clear_value v1
  exact State.setTrans_keeps (State.startCheck_keeps h2)

theorem State.runPassed_keeps {p s} (h : Keeps p s) : Keeps p (State.runPassed s) := by
  unfold State.runPassed
  extract_lets +onlyGivenNames v1
  have h2 : Keeps p v1 := State.fixStart_keeps h
  clear_value v1
  extract_lets +onlyGivenNames v3
  have h4 : Keeps p v3 := by
    unfold v3
    split
    · exact State.twinCmd_keeps h2
    · exact h2
  clear_value v3
  exact State.setTrans_keeps (State.setE_keeps (State.excitationBack_keeps (State.portsWait_keeps h4)))

theorem State.runVerdict_keeps {p s passed} (h : Keeps p s) : Keeps p (State.runVerdict s passed) := by
  unfold State.runVerdict
  extract_lets +onlyGivenNames v1
  have h2 : Keeps p v1 := State.setTrans_keeps h
  clear_value v1
  split
  · split
    · exact State.answer_keeps h2
    · split
      · exact State.answer_keeps h2
      · split
        · exact State.answer_keeps h2
        · exact State.answer_keeps (State.runPassed_keeps h2)
  · exact h

theorem State.planBegins_keeps {p s} (h : Keeps p s) : Keeps p (State.planBegins s) := by
  unfold State.planBegins
  extract_lets +onlyGivenNames a
  extract_lets +onlyGivenNames t
  have ht : Keeps p t := State.drainStreams_keeps h
  clear_value t
  extract_lets +onlyGivenNames reset owed
  extract_lets +onlyGivenNames twin u
  have hu : Keeps p u := by
    have k := keeps_groups (l := []) rfl (fun _ e => by cases e) ht
    unfold u
    exact ⟨k.1, k.2⟩
  clear_value u
  exact foldl_keeps (fun _ _ h' => State.sailRetry_keeps (State.sailTake_keeps h')) (State.gridsStart_keeps
    (foldl_keeps (fun _ _ h' => State.startGroup_keeps h') (foldl_keeps (fun _ _ h' => State.startChan_keeps h')
    (foldl_keeps (fun _ _ h' => State.startStream_keeps h') (State.restartMarkers_keeps
    (State.setE_keeps (State.setTrans_keeps (State.setE_keeps hu))))))))

theorem State.stopForRails_keeps {p s} (h : Keeps p s) : Keeps p (State.stopForRails s) := by
  unfold State.stopForRails
  split
  · exact State.beginStop_keeps (State.mirrorStop_keeps h)
  · exact h

theorem State.railsMeasured_keeps {p s m} (h : Keeps p s) : Keeps p (State.railsMeasured s m) := by
  unfold State.railsMeasured
  extract_lets +onlyGivenNames v1
  extract_lets +onlyGivenNames v2
  have h3 : Keeps p v2 := foldl_keeps (fun _ _ h5 => State.setE_keeps h5) h
  clear_value v2
  extract_lets +onlyGivenNames v7
  extract_lets +onlyGivenNames v8
  extract_lets +onlyGivenNames v9
  extract_lets +onlyGivenNames v10
  have h11 : Keeps p v10 := keeps_rest h3
  clear_value v10
  extract_lets +onlyGivenNames v12
  have h13 : Keeps p v12 := by
    unfold v12
    split
    · exact State.flag_keeps h11
    · split
      · exact State.flag_keeps h11
      · exact h11
  clear_value v12
  extract_lets +onlyGivenNames v14
  extract_lets +onlyGivenNames v15
  have h16 : Keeps p v15 := by
    unfold v15
    split
    · exact State.paceBit_keeps h13
    · exact h13
  clear_value v15
  split
  · exact State.stopForRails_keeps (State.flag_keeps h16)
  · split
    · exact State.flag_keeps h16
    · exact h16

theorem State.soundResult_keeps {p s c v} (h : Keeps p s) : Keeps p (State.soundResult s c v) := by
  unfold State.soundResult
  exact State.setE_keeps (State.setE_keeps h)

theorem State.soundNext_go_keeps {p die s l} (h : Keeps p s) : Keeps p (State.soundNext.go die s l) := by
  induction l generalizing s with
  | nil => exact State.setTone_keeps h
  | cons c r ih =>
    unfold State.soundNext.go
    split
    · exact State.toneStart_keeps (State.setTone_keeps h)
    · exact ih (State.soundResult_keeps h)

theorem State.soundNext_keeps {p s die} (h : Keeps p s) : Keeps p (State.soundNext s die) := by
  unfold State.soundNext
  exact State.soundNext_go_keeps h

theorem State.soundProgress_keeps {p s} (h : Keeps p s) : Keeps p (State.soundProgress s) := by
  unfold State.soundProgress
  cases s.soundLeft with
  | nil => exact State.opDone_keeps h
  | cons c r => exact State.opProgress_keeps h

theorem State.sweepDie_keeps {p s die total cs} (h : Keeps p s) : Keeps p (State.sweepDie s die total cs) := by
  unfold State.sweepDie
  extract_lets +onlyGivenNames v1
  extract_lets +onlyGivenNames v2
  split
  · exact State.setTone_keeps h
  · exact State.soundNext_keeps (State.setTone_keeps h)

theorem State.startSweep_keeps {p s} (h : Keeps p s) : Keeps p (State.startSweep s) := by
  unfold State.startSweep
  extract_lets +onlyGivenNames v1
  extract_lets +onlyGivenNames v2
  extract_lets +onlyGivenNames v3
  exact State.soundProgress_keeps (State.sweepDie_keeps (State.sweepDie_keeps (State.opStart_keeps h)))

theorem State.soundDone_keeps {p s die z} (h : Keeps p s) : Keeps p (State.soundDone s die z) := by
  unfold State.soundDone
  extract_lets +onlyGivenNames v1
  extract_lets +onlyGivenNames v2
  split
  · exact h
  · extract_lets +onlyGivenNames v4
    have h5 : Keeps p v4 := by
      unfold v4
      split
      · exact State.soundResult_keeps h
      · exact State.setE_keeps (State.setE_keeps (State.soundResult_keeps h))
    clear_value v4
    extract_lets +onlyGivenNames v6
    have h7 : Keeps p v6 := State.soundNext_keeps h5
    clear_value v6
    split
    · exact State.soundProgress_keeps h7
    · exact h7

theorem State.cancelOp_keeps {p s code} (h : Keeps p s) : Keeps p (State.cancelOp s code).2 := by
  unfold State.cancelOp
  extract_lets +onlyGivenNames v1
  have h2 : Keeps p v1 := State.setE_keeps h
  clear_value v1
  split
  · dsimp only
    split
    · exact foldl_keeps (fun _ _ h4 => State.toneFalls_keeps h4) h2
    · exact h2
  · exact h

theorem State.countDirty_keeps {p s} (h : Keeps p s) : Keeps p (State.countDirty s) := by
  unfold State.countDirty
  exact State.setE_keeps h

theorem State.noteWrite_keeps {p s key} (h : Keeps p s) : Keeps p (State.noteWrite s key) := by
  unfold State.noteWrite
  extract_lets +onlyGivenNames v1
  split
  · exact State.countDirty_keeps (keeps_rest h)
  · exact h

theorem State.noteDefaults_keeps {p s} (h : Keeps p s) : Keeps p (State.noteDefaults s) := by
  unfold State.noteDefaults
  extract_lets +onlyGivenNames v1
  extract_lets +onlyGivenNames v2
  exact State.countDirty_keeps (keeps_rest h)

theorem State.eraseCopy_keeps {p s type} (h : Keeps p s) : Keeps p (State.eraseCopy s type) := by
  unfold State.eraseCopy
  exact keeps_rest h

theorem State.writeCopy_keeps {p s type entries} (h : Keeps p s) : Keeps p (State.writeCopy s type entries) := by
  unfold State.writeCopy
  extract_lets +onlyGivenNames v1
  extract_lets +onlyGivenNames v2
  exact State.setE_keeps (keeps_rest h)

theorem State.flashEnds_keeps {p s failed} (h : Keeps p s) : Keeps p (State.flashEnds s failed) := by
  unfold State.flashEnds
  exact State.setE_keeps (keeps_rest h)

theorem State.persistStart_keeps {p s} (h : Keeps p s) : Keeps p (State.persistStart s) := by
  unfold State.persistStart
  extract_lets +onlyGivenNames v1
  extract_lets +onlyGivenNames v2
  have h3 : Keeps p v2 := keeps_rest h
  clear_value v2
  exact foldl_keeps (fun _ _ h5 => State.eraseCopy_keeps h5) (State.setE_keeps (State.opStart_keeps h3))

theorem State.imageReport_keeps {p s type code block} (h : Keeps p s) : Keeps p (State.imageReport s type code block) := by
  unfold State.imageReport
  exact State.setE_keeps (State.setE_keeps (State.setE_keeps h))

theorem State.reportFound_keeps {p s type e} (h : Keeps p s) : Keeps p (State.reportFound s type e) := by
  unfold State.reportFound
  exact State.imageReport_keeps h

theorem State.persistEnd_keeps {p s result found} (h : Keeps p s) : Keeps p (State.persistEnd s result found) := by
  unfold State.persistEnd
  extract_lets +onlyGivenNames v1
  extract_lets +onlyGivenNames v2
  have h3 : Keeps p v2 := by
    unfold v2
    split
    · exact State.reportFound_keeps h
    · exact h
  clear_value v2
  split
  · exact h
  · split
    · exact h
    · extract_lets +onlyGivenNames v6
      have h7 : Keeps p v6 := foldl_keeps (fun _ _ h9 => State.writeCopy_keeps h9) h
      clear_value v6
      extract_lets +onlyGivenNames v11
      have h12 : Keeps p v11 := State.bump_keeps (State.setE_keeps (State.flashEnds_keeps h7))
      clear_value v11
      extract_lets +onlyGivenNames v13
      split
      · exact State.opDone_keeps (State.imageReport_keeps (State.countDirty_keeps (keeps_rest h12)))
      · split
        · exact State.opAbort_keeps (State.flashEnds_keeps h)
        · exact State.opDone_keeps (State.flashEnds_keeps h3)

theorem State.imageTestStart_keeps {p s type} (h : Keeps p s) : Keeps p (State.imageTestStart s type) := by
  unfold State.imageTestStart
  extract_lets +onlyGivenNames v1
  have h2 : Keeps p v1 := State.opStart_keeps h
  clear_value v1
  exact keeps_rest h2

theorem State.imageTestEnd_keeps {p s errors} (h : Keeps p s) : Keeps p (State.imageTestEnd s errors) := by
  unfold State.imageTestEnd
  extract_lets +onlyGivenNames v1
  extract_lets +onlyGivenNames v2
  have h3 : Keeps p v2 := State.opDone_keeps (State.imageReport_keeps h)
  clear_value v2
  extract_lets +onlyGivenNames v4
  split
  · exact h
  · exact keeps_rest h3

theorem State.imageInstallStart_keeps {p s} (h : Keeps p s) : Keeps p (State.imageInstallStart s) := by
  unfold State.imageInstallStart
  extract_lets +onlyGivenNames v1
  have h2 : Keeps p v1 := State.opStart_keeps h
  clear_value v1
  split
  · exact State.opDone_keeps (State.imageReport_keeps h2)
  · extract_lets +onlyGivenNames v4
    have h5 : Keeps p v4 := State.imageReport_keeps h2
    clear_value v4
    extract_lets +onlyGivenNames v6
    extract_lets +onlyGivenNames v7
    have h8 : Keeps p v7 := keeps_rest h5
    clear_value v7
    split
    · exact State.setE_keeps (State.eraseCopy_keeps h8)
    · exact State.opDone_keeps (State.imageReport_keeps h2)

theorem State.enterTest_keeps {p s p2 x} (h : Keeps p s) : Keeps p (State.enterTest s p2 x) := by
  unfold State.enterTest
  exact State.setE_keeps (State.setE_keeps (State.setPort_keeps h))

theorem State.laneTestStart_keeps {p s p2} (h : Keeps p s) : Keeps p (State.laneTestStart s p2) := by
  unfold State.laneTestStart
  extract_lets +onlyGivenNames v1
  have h2 : Keeps p v1 := State.opStart_keeps h
  clear_value v1
  extract_lets +onlyGivenNames v3
  exact State.enterTest_keeps h2

theorem State.laneTestDone_keeps {p s p2 result bits e0 e1} (h : Keeps p s) : Keeps p (State.laneTestDone s p2 result bits e0 e1) := by
  unfold State.laneTestDone
  extract_lets +onlyGivenNames v1
  extract_lets +onlyGivenNames v2
  have h3 : Keeps p v2 := State.setE_keeps (State.setE_keeps (State.setE_keeps (State.setE_keeps h)))
  clear_value v2
  extract_lets +onlyGivenNames v4
  extract_lets +onlyGivenNames v5
  have h6 : Keeps p v5 := by
    unfold v5
    split
    · exact State.retrainPort_keeps (State.setPort_keeps h3)
    · exact State.train_keeps h3
  clear_value v5
  split
  · exact h6
  · split
    · exact State.opCancelled_keeps h6
    · split
      · exact State.opDone_keeps h6
      · exact h6

theorem State.laneTestDown_keeps {p s p2} (h : Keeps p s) : Keeps p (State.laneTestDown s p2) := by
  unfold State.laneTestDown
  split
  · exact State.opAbort_keeps h
  · exact h

theorem State.cancelDone_keeps {p s code} (h : Keeps p s) : Keeps p (State.cancelDone s code) := by
  unfold State.cancelDone
  extract_lets +onlyGivenNames v1
  have h2 : Keeps p v1 := State.opCancelled_keeps h
  clear_value v1
  extract_lets +onlyGivenNames v3
  split
  · split
    · exact State.dropPairing_keeps h2
    · split
      · exact State.flashEnds_keeps h2
      · split
        · exact keeps_rest h2
        · split
          · exact State.runVerdict_keeps (State.setE_keeps (State.setE_keeps h2))
          · exact h2
  · exact h

end Sys2Proof.Machine
end

