-- ==== Sys2Proof/Laws/KeepsService.lean ====
section
/-! SUPPORT. What the operations keep (Laws/Keeps.lean): host writes, reads, restores and SERVICE requests. -/

namespace Sys2Proof.Machine

theorem State.done_keeps {p s} (h : Keeps p s) : Keeps p (State.done s).2 := by
  unfold State.done
  exact h

theorem State.no_keeps {p s code} (h : Keeps p s) : Keeps p (State.no s code).2 := by
  unfold State.no
  exact h

theorem State.unless_keeps {p s bad code t} (h : Keeps p s) (h4 : Keeps p t) : Keeps p (State.unless s bad code t).2 := by
  unfold State.unless
  split
  · exact State.no_keeps h
  · exact State.done_keeps h4

theorem State.orRefuse_keeps {p s code t} (h : Keeps p s) (ht : KeepsOpt p t) : Keeps p (State.orRefuse s code t).2 := by
  cases t with
  | none => exact h
  | some t => exact ht t rfl

theorem State.settingTest_keeps {p s t g} (h : Keeps p s) (_ht : Keeps p t) : Keeps p (State.settingTest s t g).2 := by
  unfold State.settingTest
  split
  · exact State.flag_keeps h
  · split
    · split
      · exact h
      · dsimp only
        split
        · exact State.flag_keeps h
        · exact h
    · exact h

theorem State.settingWrite_keeps {p s t g settles} (h : Keeps p s) (ht : Keeps p t) : Keeps p (State.settingWrite s t g settles).2 := by
  unfold State.settingWrite
  have hr := State.settingTest_keeps (g := g) h ht
  revert hr
  generalize s.settingTest t g = r
  intro hr
  refine keeps_ite (keeps_snd hr) (State.done_keeps (State.reportDissipation_keeps ?_))
  exact keeps_if (State.settle_keeps ht) ht

theorem State.portModeWrite_keeps {p s g v} (h : Keeps p s) : Keeps p (State.portModeWrite s g v).2 := by
  unfold State.portModeWrite
  extract_lets +onlyGivenNames v1
  extract_lets +onlyGivenNames v2
  have h3 : Keeps p v2 := State.setE_keeps h
  clear_value v2
  split
  · exact State.flag_keeps h
  · split
    · exact State.done_keeps (State.setE_keeps (State.setE_keeps (State.portOff_keeps h)))
    · exact State.done_keeps h3

theorem State.enableWrite_keeps {p s g v} (h : Keeps p s) : Keeps p (State.enableWrite s g v).2 := by
  unfold State.enableWrite
  extract_lets +onlyGivenNames v1
  extract_lets +onlyGivenNames v2
  extract_lets +onlyGivenNames v3
  have h4 : Keeps p v3 := State.setXport_keeps (State.setE_keeps h)
  clear_value v3
  split
  · exact State.done_keeps (State.portOff_keeps (State.setE_keeps h))
  · split
    · exact State.done_keeps (State.setE_keeps h)
    · split
      · dsimp only
        split
        · exact State.flag_keeps h
        · exact h
      · split
        · exact State.done_keeps (State.portOn_keeps h4)
        · exact State.done_keeps h4

theorem State.detectorsFollow_keeps {p s c} (h : Keeps p s) : Keeps p (State.detectorsFollow s c) := by
  unfold State.detectorsFollow
  extract_lets +onlyGivenNames v1
  extract_lets +onlyGivenNames v2
  split
  · exact State.setE_keeps (State.setChan_keeps h)
  · exact h

theorem State.channelWrite_keeps {p s c sub v} (h : Keeps p s) : Keeps p (State.channelWrite s c sub v).2 := by
  unfold State.channelWrite
  extract_lets +onlyGivenNames v1
  extract_lets +onlyGivenNames v2
  have h3 : Keeps p v2 := State.setE_keeps h
  clear_value v2
  extract_lets +onlyGivenNames v4
  extract_lets +onlyGivenNames v5
  have h6 : Keeps p v5 := by
    unfold v5
    split
    · exact h3
    · exact State.setChan_keeps h3
  clear_value v5
  split
  · exact State.settingWrite_keeps h h3
  · split
    · exact State.done_keeps (State.reportDissipation_keeps h6)
    · split
      · refine State.done_keeps ?_
        split
        · exact h3
        · exact State.rangeStep_keeps h3
      · split
        · refine State.done_keeps ?_
          split
          · exact h3
          · exact State.startHold_keeps h3
        · split
          · exact State.done_keeps (State.detectorsFollow_keeps h3)
          · exact State.done_keeps h3

theorem State.loadSet_keeps {p s k data} (h : Keeps p s) : Keeps p (State.loadSet s k data) := by
  unfold State.loadSet
  extract_lets +onlyGivenNames v1
  extract_lets +onlyGivenNames v2
  have h3 : Keeps p v2 := State.setBlob_keeps h
  clear_value v2
  extract_lets +onlyGivenNames v4
  have h5 : Keeps p v4 := State.setE_keeps (State.setE_keeps h3)
  clear_value v4
  exact State.setE_keeps (State.setE_keeps h5)

theorem State.loadTable_keeps {p s u data} (h : Keeps p s) : Keeps p (State.loadTable s u data) := by
  unfold State.loadTable
  extract_lets +onlyGivenNames v1
  extract_lets +onlyGivenNames v2
  have h3 : Keeps p v2 := State.setE_keeps (State.setBlob_keeps h)
  clear_value v2
  exact State.setE_keeps h3

theorem State.loadBlock_keeps {p s c data} (h : Keeps p s) : Keeps p (State.loadBlock s c data) := by
  unfold State.loadBlock
  extract_lets +onlyGivenNames v1
  extract_lets +onlyGivenNames v2
  extract_lets +onlyGivenNames v3
  have h4 : Keeps p v3 := State.setMill_keeps h
  clear_value v3
  exact foldl_keeps (fun _ _ h6 => State.setE_keeps h6) h4

theorem State.streamWrite_keeps {p s n sub v} (h : Keeps p s) : Keeps p (State.streamWrite s n sub v).2 := by
  unfold State.streamWrite
  extract_lets +onlyGivenNames v1
  have h2 : Keeps p v1 := State.setE_keeps h
  clear_value v1
  split
  · exact State.no_keeps h
  · split
    · exact State.no_keeps h
    · exact State.done_keeps h2

theorem State.allocate_keeps {p s} (h : Keeps p s) : Keeps p (State.allocate s).2 := by
  unfold State.allocate
  split
  · exact State.no_keeps h
  · extract_lets +onlyGivenNames v2
    exact State.done_keeps (State.setE_keeps (State.setE_keeps (State.keepE_keeps h)))

theorem State.sourceFollow_keeps {p s d} (h : Keeps p s) : Keeps p (State.sourceFollow s d) := by
  unfold State.sourceFollow
  extract_lets +onlyGivenNames v1
  extract_lets +onlyGivenNames v2
  have h3 : Keeps p v2 := State.setDom_keeps (State.runsAnew_keeps h)
  clear_value v2
  extract_lets +onlyGivenNames v4
  extract_lets +onlyGivenNames v5
  have h6 : Keeps p v5 := State.setDom_keeps h
  clear_value v5
  split
  · split
    · exact State.setE_keeps h3
    · exact h3
  · split
    · exact h6
    · exact State.setE_keeps h6

theorem State.domainWrite_keeps {p s d sub v} (h : Keeps p s) : Keeps p (State.domainWrite s d sub v).2 := by
  unfold State.domainWrite
  extract_lets +onlyGivenNames v1
  have h2 : Keeps p v1 := State.setE_keeps h
  clear_value v1
  extract_lets +onlyGivenNames v3
  have h4 : Keeps p v3.2 := State.requestStep_keeps h
  clear_value v3
  extract_lets +onlyGivenNames v5
  have h6 : Keeps p v5.2 := State.requestStep_keeps h
  clear_value v5
  split
  · exact State.done_keeps (State.setInc_keeps h)
  · split
    · refine State.done_keeps ?_
      split
      · exact h2
      · exact State.sourceFollow_keeps h2
    · split
      · exact h4
      · split
        · exact h6
        · split
          · exact State.done_keeps (State.ackMaster_keeps h)
          · exact State.done_keeps (State.setE_keeps h)

theorem State.logCommand_keeps {p s op v} (h : Keeps p s) : Keeps p (State.logCommand s op v).2 := by
  unfold State.logCommand
  refine State.orRefuse_keeps h (KeepsOpt.map (fun q e => ?_))
  exact keeps_log (markCommand_length e h.2.2.1) h

theorem State.sailCommand_keeps {p s n op v} (h : Keeps p s) : Keeps p (State.sailCommand s n op v).2 := by
  unfold State.sailCommand
  refine State.orRefuse_keeps h (KeepsOpt.map (fun q e => ?_))
  exact State.sailRetry_keeps (State.setSail_keeps (markCommand_length e (queue_le h n)) h)

theorem State.hopperCommand_keeps {p s q sub v} (h : Keeps p s) : Keeps p (State.hopperCommand s q sub v).2 := by
  have k : KeepsAns p (State.hopperCommand s q sub v) := by
    unfold State.hopperCommand
    have hr := State.releaseThrough_keeps (q := q) (r := v) h
    revert hr
    generalize s.releaseThrough q v = r
    intro hr
    exact KeepsAns.ite (State.done_keeps (State.setMark_keeps h))
      (KeepsAns.ite (State.orRefuse_keeps h (State.rewindMark_keeps h))
      (KeepsAns.ite (State.orRefuse_keeps h (State.releaseMark_keeps h))
      (KeepsAns.ite (KeepsAns.ite (keeps_snd hr) (State.done_keeps hr))
        (State.orRefuse_keeps h (State.rewindQueue_keeps h)))))
  exact k

theorem State.sailWrite_keeps {p s n sub v} (h : Keeps p s) : Keeps p (State.sailWrite s n sub v).2 := by
  unfold State.sailWrite
  split
  · exact State.sailCommand_keeps h
  · split
    · split
      · exact State.no_keeps h
      · split
        · exact State.done_keeps (State.sailOpen_keeps h)
        · exact State.sailOpen_keeps h
    · split
      · exact State.done_keeps (State.sailStart_keeps (State.setE_keeps h))
      · exact State.done_keeps (State.setE_keeps h)

theorem State.gridWrite_keeps {p s a sub v} (h : Keeps p s) : Keeps p (State.gridWrite s a sub v).2 := by
  unfold State.gridWrite
  extract_lets +onlyGivenNames v1
  split
  · exact State.done_keeps (State.setGrid_keeps h)
  · split
    · exact State.done_keeps (State.suspendGrid_keeps h)
    · exact State.done_keeps (State.setE_keeps h)

theorem State.ladderFollow_keeps {p s v} (h : Keeps p s) : Keeps p (State.ladderFollow s v) := by
  unfold State.ladderFollow
  extract_lets +onlyGivenNames v1
  have h2 : Keeps p v1 := State.setRole_keeps h
  clear_value v1
  extract_lets +onlyGivenNames v3
  extract_lets +onlyGivenNames v4
  have h5 : Keeps p v4 := State.setE_keeps (State.setRole_keeps h)
  extract_lets +onlyGivenNames v6
  have h7 : Keeps p v6 := keeps_rest h5
  split
  · exact keeps_rest h2
  · split
    · exact State.excitationBack_keeps h7
    · exact h7

theorem State.portEnable_keeps {p s p2 v} (h : Keeps p s) : Keeps p (State.portEnable s p2 v) := by
  unfold State.portEnable
  extract_lets +onlyGivenNames v1
  extract_lets +onlyGivenNames v2
  have h3 : Keeps p v2 := State.setE_keeps h
  clear_value v2
  extract_lets +onlyGivenNames v4
  extract_lets +onlyGivenNames v5
  have h6 : Keeps p v5 := by
    unfold v5
    split
    · exact State.ladderFollow_keeps (State.laneTestDown_keeps h3)
    · exact State.laneTestDown_keeps h3
  clear_value v5
  extract_lets +onlyGivenNames v7
  have h8 : Keeps p v7 := by
    unfold v7
    split
    · exact State.rewindAll_keeps h6
    · exact h6
  clear_value v7
  split
  · exact State.setPort_keeps h3
  · split
    · exact State.train_keeps h6
    · split
      · exact State.pathDown_keeps (State.portOff'_keeps h8)
      · exact State.portOff'_keeps h8

theorem State.powerCommand_keeps {p s txn v} (h : Keeps p s) : Keeps p (State.powerCommand s txn v).2 := by
  have k1 : Keeps p (((s.mirrorStop 3).answer txn 0).enterDormant) :=
    State.enterDormant_keeps (State.answer_keeps (State.mirrorStop_keeps h))
  have kr : Keeps p s.runTests.2 := State.runTests_keeps h
  have k3 : Keeps p (((s.park).mirrorStop 2).beginStop .toStill) :=
    State.beginStop_keeps (State.mirrorStop_keeps (State.park_keeps h))
  have k4 : Keeps p ((s.mirrorStop 0).beginStop .toIdle) := State.beginStop_keeps (State.mirrorStop_keeps h)
  have k5 : Keeps p (((s.mirrorStop 0).leaveStill).enterIdle true) :=
    State.enterIdle_keeps (State.leaveStill_keeps (State.mirrorStop_keeps h))
  unfold State.powerCommand
  revert k1 kr k3 k4 k5
  generalize s.powerRefusal v = c
  generalize s.runTests = r
  generalize ((s.mirrorStop 3).answer txn 0).enterDormant = t1
  generalize ((s.park).mirrorStop 2).beginStop .toStill = t3
  generalize (s.mirrorStop 0).beginStop .toIdle = t4
  generalize ((s.mirrorStop 0).leaveStill).enterIdle true = t5
  intro k1 kr k3 k4 k5
  exact keeps_ite (State.no_keeps h) (keeps_ite (keeps_ite (keeps_snd (State.beginRun_keeps kr)) (keeps_snd kr))
    (keeps_ite (keeps_ite (State.done_keeps k5) (State.done_keeps k4))
    (keeps_ite (keeps_ite (State.no_keeps h) (State.done_keeps k3)) (keeps_ite (State.no_keeps h) (keeps_snd k1)))))

theorem State.warmCommand_keeps {p s txn} (h : Keeps p s) : Keeps p (State.warmCommand s txn).2 := by
  unfold State.warmCommand
  split
  · exact State.no_keeps h
  · split
    · exact State.no_keeps h
    · exact keeps_snd (State.beginWarm_keeps (State.answer_keeps h))

theorem State.partnerReset_keeps {p s} (h : Keeps p s) : Keeps p (State.partnerReset s) := by
  unfold State.partnerReset
  exact keeps_rest h

theorem State.swapCommand_keeps {p s forced} (h : Keeps p s) : Keeps p (State.swapCommand s forced).2 := by
  unfold State.swapCommand
  extract_lets +onlyGivenNames v1
  split
  · exact State.no_keeps h
  · split
    · exact State.no_keeps h
    · split
      · exact State.done_keeps (State.sendSwap_keeps h)
      · exact State.done_keeps (State.planSwap_keeps h)

theorem State.stepDownCommand_keeps {p s} (h : Keeps p s) : Keeps p (State.stepDownCommand s).2 := by
  unfold State.stepDownCommand
  split
  · split
    · exact State.done_keeps (State.stepDown_keeps (State.twinCmd_keeps h))
    · exact State.done_keeps (State.stepDown_keeps h)
    · exact State.done_keeps (State.stepDown_keeps h)
    · exact State.done_keeps (State.stepDown_keeps h)
    · exact State.no_keeps h
  · exact State.done_keeps (State.stepDown_keeps h)

theorem State.opBegin_keeps {p s code arg} (h : Keeps p s) : Keeps p (State.opBegin s code arg) := by
  unfold State.opBegin
  split
  · exact State.persistStart_keeps h
  · split
    · exact State.imageTestStart_keeps h
    · split
      · exact State.imageInstallStart_keeps h
      · split
        · exact State.startCheck_keeps h
        · split
          · exact State.startSweep_keeps h
          · split
            · exact State.laneTestStart_keeps h
            · split
              · exact State.startPairing_keeps (State.opStart_keeps h)
              · exact State.opStart_keeps h

theorem State.opWrite_keeps {p s code sub v} (h : Keeps p s) : Keeps p (State.opWrite s code sub v).2 := by
  unfold State.opWrite
  extract_lets +onlyGivenNames v1
  have h2 : Keeps p v1.2 := State.cancelOp_keeps h
  clear_value v1
  split
  · exact h2
  · split
    · exact State.no_keeps h
    · exact State.done_keeps (State.opBegin_keeps h)

theorem State.inputAckWrite_keeps {p s i txn} (h : Keeps p s) : Keeps p (State.inputAckWrite s i txn).2 := by
  unfold State.inputAckWrite
  extract_lets +onlyGivenNames v1
  split
  · exact State.no_keeps h
  · exact State.setInput_keeps h

theorem State.tripAckWrite_keeps {p s n txn} (h : Keeps p s) : Keeps p (State.tripAckWrite s n txn).2 := by
  unfold State.tripAckWrite
  extract_lets +onlyGivenNames v1
  split
  · exact State.no_keeps h
  · exact State.setTrip_keeps h

theorem State.scrimWrite_keeps {p s k sub v} (h : Keeps p s) : Keeps p (State.scrimWrite s k sub v).2 := by
  unfold State.scrimWrite
  extract_lets +onlyGivenNames v1
  have h2 : Keeps p v1 := State.setE_keeps h
  clear_value v1
  split
  · exact State.done_keeps (State.scrimBegin_keeps h2)
  · split
    · refine State.done_keeps ?_
      split
      · exact State.scrimBegin_keeps h
      · exact h
    · exact State.done_keeps h2

theorem State.entryEffect_keeps {p s txn idx sub data} (h : Keeps p s) : Keeps p (State.entryEffect s txn idx sub data).2 := by
  unfold State.entryEffect
  extract_lets +onlyGivenNames v
  extract_lets +onlyGivenNames t
  have ht : Keeps p t := State.setE_keeps h
  clear_value v t
  refine keeps_ite ?_ (keeps_ite ?_ (keeps_ite ?_ (keeps_ite ?_ (keeps_ite ?_ (keeps_ite ?_ (keeps_ite ?_ (keeps_ite ?_
    (keeps_ite ?_ (keeps_ite ?_ (keeps_ite ?_ (keeps_ite ?_ (keeps_ite ?_ (keeps_ite ?_ (keeps_ite ?_ (keeps_ite ?_
    (keeps_ite ?_ (keeps_ite ?_ (keeps_ite ?_ (keeps_ite ?_ (keeps_ite ?_ (keeps_ite ?_ (keeps_ite ?_ (keeps_ite ?_ ?_)))))))))))))))))))))))
  · exact keeps_ite (State.powerCommand_keeps h) (keeps_ite (State.warmCommand_keeps h)
      (keeps_ite (State.done_keeps (State.partnerReset_keeps h)) (State.done_keeps ht)))
  · exact State.opWrite_keeps h
  · exact State.logCommand_keeps h
  · exact State.done_keeps (keeps_if (State.setMode_keeps h) (keeps_if (State.setServo_keeps h) ht))
  · exact State.domainWrite_keeps h
  · exact State.channelWrite_keeps h
  · exact keeps_ite (State.portModeWrite_keeps h) (keeps_ite (State.enableWrite_keeps h)
      (keeps_ite (State.settingWrite_keeps h ht) (State.done_keeps ht)))
  · exact State.done_keeps (foldl_keeps (fun _ _ h' => State.takeBlank_keeps h') ht)
  · exact State.unless_keeps h ht
  · exact State.done_keeps (State.loadBlock_keeps h)
  · exact State.unless_keeps h (State.loadSet_keeps h)
  · exact State.sailWrite_keeps h
  · exact State.done_keeps (State.gateMode_keeps h)
  · exact State.gridWrite_keeps h
  · exact State.allocate_keeps h
  · exact keeps_ite (State.no_keeps h) (State.unless_keeps h (State.loadTable_keeps h))
  · exact State.done_keeps (State.levels_keeps ht)
  · exact State.hopperCommand_keeps h
  · exact keeps_ite (State.done_keeps (State.portEnable_keeps h)) (keeps_ite (State.done_keeps (State.setE_keeps ht)) (State.done_keeps ht))
  · exact keeps_ite (State.stepDownCommand_keeps h) (State.swapCommand_keeps h)
  · exact keeps_ite (State.inputAckWrite_keeps h) (State.done_keeps ht)
  · exact keeps_ite (State.tripAckWrite_keeps h) (State.done_keeps ht)
  · exact State.done_keeps (State.setE_keeps (State.setCmp_keeps ht))
  · exact State.scrimWrite_keeps h
  · exact keeps_ite (State.streamWrite_keeps h) (State.done_keeps ht)

theorem State.applyEntry_keeps {p s txn idx sub data} (h : Keeps p s) : Keeps p (State.applyEntry s txn idx sub data).2 := by
  unfold State.applyEntry
  extract_lets +onlyGivenNames v1
  have h2 : Keeps p v1.2 := State.entryEffect_keeps h
  clear_value v1
  extract_lets +onlyGivenNames v3
  have h4 : Keeps p v3 := by
    unfold v3
    split
    · exact State.reactions_keeps h2
    · exact h2
  clear_value v3
  split
  · exact h2
  · split
    · exact State.done_keeps (foldl_keeps (fun _ _ h6 => State.noteWrite_keeps h6) h4)
    · exact State.done_keeps (State.noteWrite_keeps h4)

theorem State.setOwn_keeps {p s idx sub v} (h : Keeps p s) : Keeps p (State.setOwn s idx sub v) := by
  unfold State.setOwn
  extract_lets +onlyGivenNames v1
  have h2 : Keeps p v1 := State.setE_keeps h
  clear_value v1
  extract_lets +onlyGivenNames v3
  split
  · exact keeps_rest h2
  · exact h2

theorem State.restoreEntry_keeps {p s starting p3} (h : Keeps p s) : KeepsOpt p (State.restoreEntry s starting p3) := by
  unfold State.restoreEntry
  extract_lets +onlyGivenNames v1
  extract_lets +onlyGivenNames v2
  extract_lets +onlyGivenNames v3
  have h4 : Keeps p v3.2 := State.entryEffect_keeps h
  clear_value v3
  split
  · split
    · exact KeepsOpt.some (State.setOwn_keeps h)
    · exact KeepsOpt.none
  · split
    · exact KeepsOpt.none
    · split
      · exact KeepsOpt.some (State.setE_keeps h)
      · split
        · exact KeepsOpt.some h4
        · exact KeepsOpt.none

theorem State.restoreList_keeps {p s starting l} (h : Keeps p s) : Keeps p (State.restoreList s starting l).1 := by
  induction l generalizing s with
  | nil => exact h
  | cons e r ih =>
    unfold State.restoreList
    split
    · next t ht => exact ih (State.restoreEntry_keeps h t ht)
    · exact ih h

theorem State.restorePasses_keeps {p k s starting l} (h : Keeps p s) : Keeps p (State.restorePasses k s starting l).1 := by
  induction k generalizing s l with
  | zero => exact h
  | succ k ih =>
    unfold State.restorePasses
    dsimp only
    split
    · exact State.restoreList_keeps h
    · exact ih (State.restoreList_keeps h)

theorem State.restoreImages_keeps {p s starting entries} (h : Keeps p s) : Keeps p (State.restoreImages s starting entries).1 := by
  unfold State.restoreImages
  exact State.bump_keeps (State.restorePasses_keeps (State.restoreList_keeps h))

theorem State.decodeReports_keeps {p s errors type} (h : Keeps p s) : Keeps p (State.decodeReports s errors type) := by
  unfold State.decodeReports
  extract_lets +onlyGivenNames gen
  extract_lets +onlyGivenNames order
  clear_value order
  cases order with
  | nil => exact h
  | cons c r =>
    dsimp only
    split
    · exact State.imageReport_keeps h
    · cases r with
      | nil => exact State.imageReport_keeps h
      | cons d r =>
        dsimp only
        split
        · exact State.imageReport_keeps h
        · exact State.imageReport_keeps h

theorem State.restoreStart_keeps {p s answers errors} (h : Keeps p s) : Keeps p (State.restoreStart s answers errors) := by
  unfold State.restoreStart
  extract_lets +onlyGivenNames v1
  extract_lets +onlyGivenNames v2
  extract_lets +onlyGivenNames v3
  extract_lets +onlyGivenNames v4
  have h5 : Keeps p v4 := State.setE_keeps (State.setE_keeps (State.setE_keeps h))
  clear_value v4
  extract_lets +onlyGivenNames v6
  have h7 : Keeps p v6 := by
    unfold v6
    split
    · exact foldl_keeps (fun _ _ h9 => State.decodeReports_keeps h9) h5
    · exact h5
  clear_value v6
  extract_lets +onlyGivenNames v11
  have h12 : Keeps p v11 := by
    unfold v11
    split
    · exact State.flag_keeps h7
    · exact h7
  clear_value v11
  extract_lets +onlyGivenNames v13
  have h14 : Keeps p v13 := by
    unfold v13
    split
    · exact State.setE_keeps h12
    · exact h12
  clear_value v13
  exact State.restoreImages_keeps h14

theorem State.installEnd_keeps {p s result found} (h : Keeps p s) : Keeps p (State.installEnd s result found) := by
  unfold State.installEnd
  split
  · exact h
  · split
    · exact h
    · extract_lets +onlyGivenNames v3
      have h4 : Keeps p v3 := State.flashEnds_keeps (State.writeCopy_keeps h)
      clear_value v3
      extract_lets +onlyGivenNames v5
      have h6 : Keeps p v5.1 := State.restoreImages_keeps h4
      clear_value v5
      extract_lets +onlyGivenNames v7
      have h8 : Keeps p v7 := h6
      clear_value v7
      extract_lets +onlyGivenNames v9
      extract_lets +onlyGivenNames v10
      have h11 : Keeps p v10 := keeps_rest h8
      clear_value v10
      extract_lets +onlyGivenNames v12
      have h13 : Keeps p v12 := by
        unfold v12
        split
        · exact State.reportFound_keeps h
        · exact h
      clear_value v12
      split
      · exact State.opDone_keeps (State.imageReport_keeps (State.reactions_keeps (State.countDirty_keeps h11)))
      · split
        · exact State.opAbort_keeps (State.flashEnds_keeps h)
        · exact State.opDone_keeps (State.flashEnds_keeps h13)

theorem State.defaultEntry_keeps {p s key} (h : Keeps p s) : Keeps p (State.defaultEntry s key) := by
  unfold State.defaultEntry
  extract_lets +onlyGivenNames v1
  extract_lets +onlyGivenNames v2
  extract_lets +onlyGivenNames v3
  extract_lets +onlyGivenNames v4
  have h5 : Keeps p v4.2 := State.entryEffect_keeps h
  clear_value v4
  split
  · split
    · exact State.loadSet_keeps h
    · exact h
  · split
    · split
      · exact State.loadTable_keeps h
      · exact h
    · split
      · exact State.setE_keeps h
      · exact h5

theorem State.restoreDefaults_keeps {p s} (h : Keeps p s) : Keeps p (State.restoreDefaults s) := by
  unfold State.restoreDefaults
  exact State.noteDefaults_keeps (State.reactions_keeps (State.setOwn_keeps (foldl_keeps (fun _ _ h2 => State.defaultEntry_keeps h2) h)))

theorem State.applyWrite_keeps {p s txn idx sub data} (h : Keeps p s) : Keeps p (State.applyWrite s txn idx sub data).2 := by
  unfold State.applyWrite
  extract_lets +onlyGivenNames v1
  split
  · split
    · exact State.no_keeps h
    · exact State.done_keeps (State.restoreDefaults_keeps (State.opStart_keeps h))
  · exact State.applyEntry_keeps h

theorem State.opAdvances_keeps {p s code} (h : Keeps p s) : Keeps p (State.opAdvances s code) := by
  unfold State.opAdvances
  extract_lets +onlyGivenNames v1
  extract_lets +onlyGivenNames v2
  split
  · exact h
  · split
    · exact State.checkAdvances_keeps h
    · split
      · exact State.fresh_keeps (State.opProgress_keeps h)
      · exact h

theorem State.readEntry_keeps {p s idx sub r} (h : Keeps p s) : Keeps p (State.readEntry s idx sub r).2 := by
  unfold State.readEntry
  extract_lets +onlyGivenNames v1
  have h2 : Keeps p v1 := by
    unfold v1
    split
    · exact State.opAdvances_keeps h
    · exact h
  clear_value v1
  extract_lets +onlyGivenNames v3
  extract_lets +onlyGivenNames v4
  have h5 : Keeps p v4 := foldl_keeps (fun _ _ h7 => State.flag_keeps h7) h2
  clear_value v4
  extract_lets +onlyGivenNames v9
  have h10 : Keeps p v9 := by
    unfold v9
    split
    · exact State.announce_keeps h5
    · exact h5
  clear_value v9
  split
  · exact h
  · dsimp only
    split
    · exact State.fresh_keeps h10
    · exact h10

theorem State.readRecord_keeps {p s idx o} (h : Keeps p s) : Keeps p (State.readRecord s idx o).2 := by
  unfold State.readRecord
  refine foldl_keeps_snd (fun s9 a7 h8 => ?_) h
  extract_lets +onlyGivenNames v10
  have h11 : Keeps p v10.2 := State.readEntry_keeps h8
  clear_value v10
  split
  · exact h8
  · exact h11

theorem State.popEntry_keeps {p s idx} (h : Keeps p s) : Keeps p (State.popEntry s idx).2 := by
  unfold State.popEntry
  split
  · exact keeps_log (MarkQueue.pop_length _ h.2.2.1) h
  · exact State.sailRetry_keeps (State.setSail_keeps (MarkQueue.pop_length _ (queue_le h _)) h)

theorem State.readValue_keeps {p s idx sub} (h : Keeps p s) : Keeps p (State.readValue s idx sub).2.2 := by
  unfold State.readValue
  split
  · exact h
  · split
    · exact h
    · split
      · exact State.readRecord_keeps h
      · split
        · exact h
        · split
          · exact h
          · split
            · split
              · exact h
              · exact State.popEntry_keeps h
            · exact State.readEntry_keeps h

theorem State.takeService_keeps {p s b} (h : Keeps p s) : Keeps p (State.takeService s b) := by
  unfold State.takeService
  exact State.take_keeps h

theorem State.defer_keeps {p s r idx sub i} (h : Keeps p s) : Keeps p (State.defer s r idx sub i) := by
  unfold State.defer
  split
  · refine keeps_power ?_ h
    simp
    omega
  · exact State.reject_keeps h

theorem State.request_keeps {p s i r idx sub b act} (h : Keeps p s) (ha : ∀ t, Keeps p t → Keeps p (act t)) : Keeps p (State.request s i r idx sub b act) := by
  unfold State.request
  split
  · exact h
  · have h1 := State.takeService_keeps (b := b) h
    dsimp only
    split
    · exact State.defer_keeps h1
    · split
      · exact State.reject_keeps h1
      · split
        · exact State.sendResponse_keeps (State.bump_keeps h1)
        · exact ha _ h1

theorem State.opening_keeps {p s r idx sub act} (h : Keeps p s) (ha : ∀ t, Keeps p t → Keeps p (act t)) : Keeps p (State.opening s r idx sub act) := by
  unfold State.opening
  split
  · exact State.reject_keeps h
  · split
    · exact State.reject_keeps h
    · exact ha _ h

theorem State.setTxn_keeps {p s r x idx sub b} (h : Keeps p s) : Keeps p (State.setTxn s r x idx sub b) := by
  unfold State.setTxn
  exact State.setTxns_keeps h

theorem State.reply_keeps {p s r cmd idx sub toggle data} (h : Keeps p s) : Keeps p (State.reply s r cmd idx sub toggle data) := by
  unfold State.reply
  exact State.sendResponse_keeps h

theorem State.writeNow_keeps {p s r idx sub data b} (h : Keeps p s) : Keeps p (State.writeNow s r idx sub data b) := by
  unfold State.writeNow
  extract_lets +onlyGivenNames v1
  have h2 : Keeps p v1 := State.setTxn_keeps h
  clear_value v1
  extract_lets +onlyGivenNames v3
  split
  · exact State.answer_keeps h2
  · split
    · rename_i x4 x5 x6 x7
      have h8 := (congrArg (fun q => Keeps p q.2) x7).mp (State.applyWrite_keeps h2)
      dsimp only at h8
      exact State.answer_keeps h8
    · rename_i x9 x10 x11
      have h12 := (congrArg (fun q => Keeps p q.2) x11).mp (State.applyWrite_keeps h2)
      dsimp only at h12
      exact h12

theorem State.hostWrite_keeps {p s i r idx sub data} (h : Keeps p s) : Keeps p (State.hostWrite s i r idx sub data) := by
  unfold State.hostWrite
  extract_lets +onlyGivenNames v1
  exact State.request_keeps h (fun _ h3 => State.opening_keeps h3 (fun _ h5 => State.writeNow_keeps h5))

theorem State.writeRequest_keeps {p s i r idx sub total last data} (h : Keeps p s) : Keeps p (State.writeRequest s i r idx sub total last data) := by
  unfold State.writeRequest
  extract_lets +onlyGivenNames v1
  refine State.request_keeps h ?_
  intro t2 h3
  refine State.opening_keeps h3 ?_
  intro t4 h5
  split
  · exact State.writeNow_keeps h5
  · split
    · exact State.refuse_keeps h5
    · exact State.reply_keeps (State.setTxn_keeps h5)

theorem State.downloadRequest_keeps {p s i r idx sub toggle last data} (h : Keeps p s) : Keeps p (State.downloadRequest s i r idx sub toggle last data) := by
  unfold State.downloadRequest
  refine State.request_keeps h (fun t h1 => ?_)
  dsimp only
  generalize t.svc.txns.lookup r.txn.toNat = o
  cases o with
  | none => exact State.reject_keeps h1
  | some x =>
    obtain ⟨x, idx', sub', so, rq, since⟩ := x
    cases x with
    | download total sofar was seg =>
      dsimp only
      split
      · split
        · exact State.reply_keeps (State.setTxn_keeps h1)
        · exact State.refuse_keeps h1
      · split
        · exact State.refuse_keeps h1
        · split
          · exact State.writeNow_keeps h1
          · exact State.reply_keeps (State.setTxn_keeps h1)
    | upload => exact State.reject_keeps h1
    | domain => exact State.reject_keeps h1
    | executing => exact State.reject_keeps h1

theorem State.readRequest_keeps {p s i r idx sub} (h : Keeps p s) : Keeps p (State.readRequest s i r idx sub) := by
  unfold State.readRequest
  extract_lets +onlyGivenNames v1
  refine State.request_keeps h ?_
  intro t2 h3
  refine State.opening_keeps h3 ?_
  intro t4 h5
  extract_lets +onlyGivenNames v6
  have h7 : Keeps p v6.2.2 := State.readValue_keeps h5
  clear_value v6
  extract_lets +onlyGivenNames v8
  split
  · exact State.refuse_keeps h5
  · split
    · exact State.complete_keeps h7
    · exact State.sendResponse_keeps (State.setTxn_keeps h7)

theorem State.uploadRequest_keeps {p s i r idx sub toggle} (h : Keeps p s) : Keeps p (State.uploadRequest s i r idx sub toggle) := by
  unfold State.uploadRequest
  refine State.request_keeps h (fun t h1 => ?_)
  dsimp only
  generalize t.svc.txns.lookup r.txn.toNat = o
  cases o with
  | none => exact State.reject_keeps h1
  | some x =>
    obtain ⟨x, idx', sub', so, rq, since⟩ := x
    cases x with
    | upload data pos was seg =>
      dsimp only
      split
      · cases seg with
        | none => exact State.refuse_keeps h1
        | some d => exact State.reply_keeps (State.setTxn_keeps h1)
      · split
        · exact State.complete_keeps h1
        · exact State.reply_keeps (State.setTxn_keeps h1)
    | download => exact State.reject_keeps h1
    | domain => exact State.reject_keeps h1
    | executing => exact State.reject_keeps h1

theorem State.stage_keeps {p s data} (h : Keeps p s) : Keeps p (State.stage s data) := by
  unfold State.stage
  extract_lets +onlyGivenNames v1
  extract_lets +onlyGivenNames v2
  have h3 : Keeps p v2 := keeps_rest h
  clear_value v2
  split
  · exact State.setE_keeps (State.setE_keeps h3)
  · exact State.setE_keeps (State.setE_keeps h3)

theorem State.domainStartRequest_keeps {p s i r idx sub total} (h : Keeps p s) : Keeps p (State.domainStartRequest s i r idx sub total) := by
  unfold State.domainStartRequest
  refine State.request_keeps h (fun t h1 => ?_)
  dsimp only
  split
  · exact State.reject_keeps h1
  · refine State.opening_keeps h1 (fun u h2 => ?_)
    split
    · exact State.refuse_keeps h2
    · exact State.reply_keeps (State.setTxn_keeps (State.stage_keeps h2))

theorem State.domainSegmentRequest_keeps {p s i r idx sub num last data} (h : Keeps p s) : Keeps p (State.domainSegmentRequest s i r idx sub num last data) := by
  unfold State.domainSegmentRequest
  refine State.request_keeps h (fun t h1 => ?_)
  dsimp only
  generalize t.svc.txns.lookup r.txn.toNat = o
  cases o with
  | none => exact State.reject_keeps h1
  | some x =>
    obtain ⟨x, idx', sub', so, rq, since⟩ := x
    cases x with
    | domain total sofar next ended =>
      dsimp only
      split
      · exact State.reply_keeps (State.setTxn_keeps h1)
      · split
        · exact State.reply_keeps (State.setTxn_keeps h1)
        · exact State.setTxn_keeps h1
    | download => exact State.reject_keeps h1
    | upload => exact State.reject_keeps h1
    | executing => exact State.reject_keeps h1

theorem State.domainEndRequest_keeps {p s i r idx sub crc} (h : Keeps p s) : Keeps p (State.domainEndRequest s i r idx sub crc) := by
  unfold State.domainEndRequest
  extract_lets +onlyGivenNames v1
  refine State.request_keeps h ?_
  intro t2 h3
  split
  · split
    · exact State.refuse_keeps (State.stage_keeps h3)
    · split
      · exact State.refuse_keeps (State.stage_keeps h3)
      · exact State.complete_keeps (State.stage_keeps h3)
  · exact State.reject_keeps h3

theorem State.cancelRequest_keeps {p s i r idx sub} (h : Keeps p s) : Keeps p (State.cancelRequest s i r idx sub) := by
  unfold State.cancelRequest
  extract_lets +onlyGivenNames v1
  refine State.request_keeps h ?_
  intro t2 h3
  split
  · exact State.reject_keeps h3
  · split
    · exact State.reject_keeps h3
    · exact State.refuse_keeps h3

theorem State.closeTimedOut_keeps {p s txn} (h : Keeps p s) : Keeps p (State.closeTimedOut s txn) := by
  unfold State.closeTimedOut
  split
  · split
    · exact State.reject_keeps (State.setTxns_keeps h)
    · exact h
  · exact h

end Sys2Proof.Machine
end

