-- ==== Sys2Proof/Laws/KeepsCommands.lean ====
section
/-! SUPPORT. What the operations keep (Laws/Keeps.lean): the commands' own operations. -/

namespace Sys2Proof.Machine

theorem State.live_keeps {p s cond f} (h : Keeps p s) (hf : ∀ t, Keeps p t → Keeps p (f t)) : Keeps p (State.live s cond f) := by
  unfold State.live
  split
  · exact hf _ h
  · exact h

theorem State.island_keeps {p s cond f} (h : Keeps p s) (hf : ∀ t, Keeps p t → Keeps p (f t)) : Keeps p (State.island s cond f) := by
  unfold State.island
  split
  · exact hf _ h
  · exact h

theorem State.checkBudget_keeps {p s a b} (h : Keeps p s) : Keeps p (State.checkBudget s a b) := by
  unfold State.checkBudget
  extract_lets +onlyGivenNames v1
  have h2 : Keeps p v1 := State.shed_keeps (State.setE_keeps h)
  clear_value v1
  split
  · exact h2
  · exact State.shed_keeps (State.setE_keeps h2)

theorem State.settled_keeps {p s g} (h : Keeps p s) : Keeps p (State.settled s g) := by
  unfold State.settled
  exact State.setXport_keeps h

theorem State.iepeLevel_keeps {p s c bias} (h : Keeps p s) : Keeps p (State.iepeLevel s c bias) := by
  unfold State.iepeLevel
  extract_lets +onlyGivenNames v1
  extract_lets +onlyGivenNames v2
  extract_lets +onlyGivenNames v3
  have h4 : Keeps p v3 := State.setChan_keeps h
  clear_value v3
  split
  · exact State.event_keeps h4
  · exact h4

theorem State.hangOver_keeps {p s k} (h : Keeps p s) : Keeps p (State.hangOver s k) := by
  unfold State.hangOver
  dsimp only
  split
  · split
    · exact keeps_blanks (Tbl.wf_set _ _ h.2.1.2.2.2.2.1) h
    · exact h
  · exact h

theorem State.noteWindow_keeps {p s w} (h : Keeps p s) : Keeps p (State.noteWindow s w) := by
  unfold State.noteWindow
  exact keeps_rest h

theorem State.classLost_keeps {p s} (h : Keeps p s) : Keeps p (State.classLost s) := by
  unfold State.classLost
  extract_lets +onlyGivenNames v1
  have h2 : Keeps p v1 := State.allOff_keeps h
  clear_value v1
  extract_lets +onlyGivenNames v3
  have h4 : Keeps p v3 := foldl_keeps (fun _ _ h6 => State.setE_keeps h6) h2
  clear_value v3
  exact keeps_rest h4

theorem State.sealSeen_keeps {p s now} (h : Keeps p s) : Keeps p (State.sealSeen s now) := by
  unfold State.sealSeen
  extract_lets +onlyGivenNames v1
  extract_lets +onlyGivenNames v2
  extract_lets +onlyGivenNames v3
  extract_lets +onlyGivenNames v4
  have h5 : Keeps p v4 := State.setE_keeps (keeps_rest h)
  clear_value v4
  extract_lets +onlyGivenNames v6
  have h7 : Keeps p v6 := by
    unfold v6
    split
    · exact State.event_keeps h5
    · exact h5
  clear_value v6
  extract_lets +onlyGivenNames v8
  have h9 : Keeps p v8 := by
    unfold v8
    split
    · exact State.safetyFault_keeps (State.flag_keeps h7)
    · exact h7
  clear_value v8
  split
  · exact State.classLost_keeps h9
  · exact h9

theorem State.stepOverStart_keeps {p s} (h : Keeps p s) : Keeps p (State.stepOverStart s) := by
  unfold State.stepOverStart
  split
  · exact foldl_keeps (fun _ _ h1 => State.skipTo_keeps h1) (State.planBegins_keeps h)
  · exact h

theorem State.stepNow_keeps {p s d} (h : Keeps p s) : Keeps p (State.stepNow s d) := by
  unfold State.stepNow
  extract_lets +onlyGivenNames v1
  extract_lets +onlyGivenNames v2
  have h3 : Keeps p v2 := State.applyStep_keeps h
  clear_value v2
  split
  · exact State.stepGrids_keeps (State.stepPlan_keeps h3)
  · split
    · exact State.stepOverStart_keeps h3
    · exact h3

theorem State.trainTaken_keeps {p s p2 t} (h : Keeps p s) : Keeps p (State.trainTaken s p2 t) := by
  unfold State.trainTaken
  extract_lets +onlyGivenNames v1
  have h2 : Keeps p v1 := State.lanes_keeps h
  clear_value v1
  extract_lets +onlyGivenNames v3
  extract_lets +onlyGivenNames v4
  extract_lets +onlyGivenNames v5
  split
  · split
    · exact State.setPort_keeps h2
    · exact h2
  · split
    · split
      · split
        · exact State.enterTest_keeps h2
        · exact h2
      · split
        · exact State.retrainPort_keeps h2
        · exact h2
    · split
      · exact State.trained_keeps h2
      · exact h2

theorem State.refuseLate_keeps {p s} (h : Keeps p s) : Keeps p (State.refuseLate s) := by
  unfold State.refuseLate
  split
  · extract_lets +onlyGivenNames v2
    split
    · exact State.runVerdict_keeps h
    · exact h
  · exact h

theorem State.fallBack_keeps {p s p2} (h : Keeps p s) : Keeps p (State.fallBack s p2) := by
  unfold State.fallBack
  exact State.train_keeps (State.bump_keeps h)

theorem State.answerUnknown_keeps {p s} (h : Keeps p s) : Keeps p (State.answerUnknown s) := by
  unfold State.answerUnknown
  extract_lets +onlyGivenNames v1
  extract_lets +onlyGivenNames v2
  extract_lets +onlyGivenNames v3
  have h4 : Keeps p v3 := keeps_rest h
  clear_value v3
  extract_lets +onlyGivenNames v5
  split
  · exact h
  · exact foldl_keeps (fun _ _ h7 => State.reject_keeps h7) h4

theorem State.answerTaken_keeps {p s p2 seq window f} (h : Keeps p s) : Keeps p (State.answerTaken s p2 seq window f) := by
  unfold State.answerTaken
  split
  · exact State.setPort_keeps h
  · exact State.bump_keeps h

theorem State.replayFrom_keeps {p s p2} (h : Keeps p s) : Keeps p (State.replayFrom s p2) := by
  unfold State.replayFrom
  split
  · exact State.setPort_keeps h
  · exact h

theorem State.readAhead_keeps {p s p2 m} (h : Keeps p s) : Keeps p (State.readAhead s p2 m) := by
  unfold State.readAhead
  split
  · split
    · exact State.readErrors_keeps h
    · exact h
  · exact h

theorem State.frameBoundary_keeps {p s p2 m} (h : Keeps p s) : Keeps p (State.frameBoundary s p2 m) := by
  unfold State.frameBoundary
  split
  · split
    · exact State.dormantBoundary_keeps h
    · exact h
  · split
    · exact h
    · split
      · split
        · exact State.trainBoundary_keeps h
        · exact h
      · split
        · exact State.boundaryT_keeps h
        · exact State.boundary_keeps (State.readAhead_keeps h)

theorem State.takeCredit_keeps {p s m} (h : Keeps p s) : Keeps p (State.takeCredit s m) := by
  unfold State.takeCredit
  extract_lets +onlyGivenNames v1
  have h2 : Keeps p v1 := State.applyCredit_keeps h
  clear_value v1
  extract_lets +onlyGivenNames v3
  split
  · split
    · exact State.sendBehind_keeps h2
    · exact State.sendItem_keeps h2
  · exact h2

theorem State.takeUnplace_keeps {p s} (h : Keeps p s) : Keeps p (State.takeUnplace s) := by
  unfold State.takeUnplace
  split
  · exact h
  · exact State.unplaced_keeps h

theorem State.readStraps_keeps {p s} (h : Keeps p s) : Keeps p (State.readStraps s) := by
  unfold State.readStraps
  exact State.setE_keeps (State.setE_keeps h)

theorem State.opsEnded_keeps {p s} (h : Keeps p s) : Keeps p (State.opsEnded s) := by
  unfold State.opsEnded
  extract_lets +onlyGivenNames v1
  have h2 : Keeps p v1 := by
    unfold v1
    split
    · exact State.setE_keeps (State.setE_keeps h)
    · exact h
  clear_value v1
  extract_lets +onlyGivenNames v3
  have h4 : Keeps p v3 := by
    unfold v3
    split
    · exact State.dropPairing_keeps h2
    · exact h2
  clear_value v3
  extract_lets +onlyGivenNames v5
  have h6 : Keeps p v5 := State.abortSweep_keeps h4
  clear_value v5
  extract_lets +onlyGivenNames v7
  have h8 : Keeps p v7 := by
    unfold v7
    split
    · exact State.flashEnds_keeps h6
    · exact h6
  clear_value v7
  exact State.opsReset_keeps (keeps_rest h8)

theorem State.linkResetNow_keeps {p s} (h : Keeps p s) : Keeps p (State.linkResetNow s) := by
  unfold State.linkResetNow
  extract_lets +onlyGivenNames v1
  have h2 : Keeps p v1 := State.rewindAll_keeps (State.opsEnded_keeps h)
  clear_value v1
  extract_lets +onlyGivenNames v3
  have h4 : Keeps p v3 := State.keepE_keeps h2
  clear_value v3
  extract_lets +onlyGivenNames v5
  have h6 : Keeps p v5 := State.setE_keeps (State.setE_keeps (State.setE_keeps h4))
  clear_value v5
  extract_lets +onlyGivenNames v7
  extract_lets +onlyGivenNames v8
  have h9 : Keeps p v8 := keeps_rest h6
  clear_value v8
  extract_lets +onlyGivenNames v10
  have h11 : Keeps p v10 := State.bump_keeps (State.readStraps_keeps h9)
  clear_value v10
  exact foldl_keeps (fun _ _ h13 => State.train_keeps h13) h11

theorem State.pathBit_keeps {p s south lost} (h : Keeps p s) : Keeps p (State.pathBit s south lost) := by
  unfold State.pathBit
  split
  · exact State.chainBit_keeps h
  · exact h

theorem State.convertChannel_keeps {p s g i second sched code beyond} (h : Keeps p s) : Keeps p (State.convertChannel s g i second sched code beyond) := by
  unfold State.convertChannel
  extract_lets +onlyGivenNames v1
  extract_lets +onlyGivenNames v2
  extract_lets +onlyGivenNames v3
  have h4 : Keeps p v3.2 := State.sample_keeps h
  clear_value v3
  extract_lets +onlyGivenNames v5
  split
  · exact State.setGroup_keeps (buf_le h _) h
  · exact State.pushRaw_keeps h4

theorem State.checkEntry_keeps {p s g i sched code} (h : Keeps p s) : Keeps p (State.checkEntry s g i sched code) := by
  unfold State.checkEntry
  extract_lets +onlyGivenNames v1
  extract_lets +onlyGivenNames v2
  extract_lets +onlyGivenNames v3
  extract_lets +onlyGivenNames v4
  have h5 : Keeps p v4 := State.checkConversion_keeps h
  clear_value v4
  split
  · exact h
  · refine State.fresh_keeps ?_
    split
    · exact State.mirrorCheck_keeps h5
    · exact h5

theorem State.convert_keeps {p s g second code beyond} (h : Keeps p s) : Keeps p (State.convert s g second code beyond) := by
  unfold State.convert
  extract_lets +onlyGivenNames v1
  split
  · exact h
  · split
    · exact h
    · extract_lets +onlyGivenNames v4
      extract_lets +onlyGivenNames v5
      have h6 : Keeps p v5 := by
        unfold v5
        split
        · exact State.convertChannel_keeps h
        · exact State.checkEntry_keeps h
      clear_value v5
      split
      · exact h
      · exact State.advance_keeps h6

theorem State.stopGroup_keeps {p s g} (h : Keeps p s) : Keeps p (State.stopGroup s g) := by
  unfold State.stopGroup
  extract_lets +onlyGivenNames v1
  have h2 : Keeps p v1 := State.endRotation_keeps (State.drain_keeps h)
  clear_value v1
  exact State.settlePower_keeps (State.setGroup_keeps (buf_le h2 _) h2)

theorem State.takeRaw_keeps {p s g} (h : Keeps p s) : Keeps p (State.takeRaw s g) := by
  unfold State.takeRaw
  split
  · exact h
  · rename_i x2 x3 x4 x5
    have h6 := State.popRaw_keeps h _ _ x5
    split
    · exact State.ownRaw_keeps h6
    · exact State.takeRecord_keeps h6

theorem State.dieRead_keeps {p s die v} (h : Keeps p s) : Keeps p (State.dieRead s die v) := by
  unfold State.dieRead
  exact keeps_rest h

theorem State.fromTwin_keeps {p s ftype f} (h : Keeps p s) (hf : ∀ t, Keeps p t → Keeps p (f t)) : Keeps p (State.fromTwin s ftype f) := by
  unfold State.fromTwin
  exact State.live_keeps h (fun _ h' => hf _ (State.take_keeps h'))

theorem State.takeWords_keeps {p s ws} (h : Keeps p s) : Keeps p (State.takeWords s ws) := by
  unfold State.takeWords
  split
  · exact h
  · refine foldl_keeps (fun s3 a1 h2 => ?_) ?_
    · exact State.twinWord_keeps h2
    · split
      · exact State.planBegins_keeps h
      · exact h

theorem State.noteSwap_keeps {p s t} (h : Keeps p s) : Keeps p (State.noteSwap s t) := by
  unfold State.noteSwap
  extract_lets +onlyGivenNames v1
  split
  · exact keeps_rest h
  · split
    · exact State.planSwap_keeps h
    · exact h

theorem State.twinStart_keeps {p s t} (h : Keeps p s) : Keeps p (State.twinStart s t) := by
  unfold State.twinStart
  split
  · exact State.setTrans_keeps (State.setE_keeps (State.setE_keeps h))
  · exact h

theorem State.twinFollow_keeps {p s target} (h : Keeps p s) : Keeps p (State.twinFollow s target) := by
  unfold State.twinFollow
  split
  · exact State.unpair_keeps h
  · split
    · exact h
    · split
      · split
        · exact State.enterIdle_keeps (State.leaveStill_keeps h)
        · split
          · exact h
          · exact State.beginStop_keeps h
      · split
        · exact h
        · exact State.beginStop_keeps (State.park_keeps h)
      · split
        · exact State.enterDormant_keeps h
        · exact h
      · exact h

theorem State.clockLost_keeps {p s} (h : Keeps p s) : Keeps p (State.clockLost s) := by
  unfold State.clockLost
  extract_lets +onlyGivenNames v1
  extract_lets +onlyGivenNames v2
  have h3 : Keeps p v2 := keeps_rest h
  clear_value v2
  split
  · exact h3
  · exact State.hardReset_keeps h3

theorem State.resetHeld_keeps {p s} (h : Keeps p s) : Keeps p (State.resetHeld s) := by
  unfold State.resetHeld
  extract_lets +onlyGivenNames v1
  extract_lets +onlyGivenNames v2
  have h3 : Keeps p v2 := keeps_rest h
  clear_value v2
  split
  · exact h3
  · exact State.hold_keeps h3

theorem State.resetReleased_keeps {p s} (h : Keeps p s) : Keeps p (State.resetReleased s) := by
  unfold State.resetReleased
  extract_lets +onlyGivenNames v1
  extract_lets +onlyGivenNames v2
  have h3 : Keeps p v2 := keeps_rest h
  clear_value v2
  split
  · exact State.hardReset_keeps h3
  · exact h3

theorem State.locked_keeps {p s} (h : Keeps p s) : Keeps p (State.locked s) := by
  unfold State.locked
  exact keeps_rest h

theorem State.tapGiven_keeps {p s i} (h : Keeps p s) : Keeps p (State.tapGiven s i) := by
  unfold State.tapGiven
  extract_lets +onlyGivenNames v1
  extract_lets +onlyGivenNames v2
  extract_lets +onlyGivenNames v3
  have h4 : Keeps p v3 := keeps_rest h
  clear_value v3
  split
  · split
    · exact h4
    · exact State.hold_keeps h4
  · split
    · exact State.hardReset_keeps h4
    · exact h4

theorem State.pinsRead_keeps {p s} (h : Keeps p s) : Keeps p (State.pinsRead s) := by
  unfold State.pinsRead
  extract_lets +onlyGivenNames v1
  extract_lets +onlyGivenNames v2
  exact State.setE_keeps (State.setE_keeps (State.setE_keeps (State.readStraps_keeps h)))

theorem State.portsBegin_keeps {p s} (h : Keeps p s) : Keeps p (State.portsBegin s) := by
  unfold State.portsBegin
  extract_lets +onlyGivenNames v1
  have h2 : Keeps p v1 := foldl_keeps (fun _ _ h4 => State.train_keeps h4) h
  clear_value v1
  extract_lets +onlyGivenNames v6
  have h7 : Keeps p v6 := State.setRole_keeps h2
  clear_value v6
  extract_lets +onlyGivenNames v8
  split
  · exact keeps_rest h7
  · exact State.setRole_keeps h2

theorem State.starts_keeps {p s flashAnswers errors} (h : Keeps p s) : Keeps p (State.starts s flashAnswers errors) := by
  unfold State.starts
  extract_lets +onlyGivenNames v1
  have h2 : Keeps p v1 := State.restoreStart_keeps (State.pinsRead_keeps h)
  clear_value v1
  extract_lets +onlyGivenNames v3
  have h4 : Keeps p v3 := State.sailsStart_keeps (State.safetyStart_keeps (State.sealCompare_keeps h2))
  clear_value v3
  extract_lets +onlyGivenNames v5
  have h6 : Keeps p v5 := State.setE_keeps (State.portsBegin_keeps h4)
  clear_value v5
  exact keeps_rest h6

theorem State.wake_keeps {p s w} (h : Keeps p s) : Keeps p (State.wake s w) := by
  unfold State.wake
  exact State.setE_keeps (State.hardReset_keeps h)

theorem State.nextDeferred_keeps {p s} (h : Keeps p s) : KeepsPair p (State.nextDeferred s) := by
  unfold State.nextDeferred
  split
  · exact KeepsPair.none
  · next i r _ hd _ =>
    refine KeepsPair.some (keeps_power ?_ h)
    have := h.2.2.2.2.2
    rw [hd] at this
    exact Nat.le_trans (Nat.le_succ _) this
  · exact KeepsPair.none

theorem State.replayed_keeps {p s} (h : Keeps p s) : Keeps p (State.replayed s) := by
  unfold State.replayed
  exact keeps_rest h

theorem State.setRail_keeps {p s die out} (h : Keeps p s) : Keeps p (State.setRail s die out) := by
  unfold State.setRail
  refine keeps_power ?_ h
  cases die
  · exact h.2.2.2.2.2
  · exact h.2.2.2.2.2

theorem State.railBack_keeps {p s die} (h : Keeps p s) : Keeps p (State.railBack s die) := by
  unfold State.railBack
  extract_lets +onlyGivenNames v1
  have h2 : Keeps p v1 := State.setRail_keeps h
  clear_value v1
  split
  · exact foldl_keeps (fun _ _ h4 => State.comeOn_keeps h4) h2
  · exact h2

theorem State.sailEdgeAt_keeps {p s n rising f} (h : Keeps p s) : Keeps p (State.sailEdgeAt s n rising f) := by
  unfold State.sailEdgeAt
  extract_lets +onlyGivenNames v1
  have h2 : Keeps p v1.2 := State.sailArrives_keeps h
  clear_value v1
  split
  · exact h2
  · extract_lets +onlyGivenNames v4
    have h5 : Keeps p v4 := State.sailUse_keeps h2
    clear_value v4
    split
    · exact State.gridEdge_keeps h5
    · exact h5

theorem State.windowOver_keeps {p s n} (h : Keeps p s) : Keeps p (State.windowOver s n) := by
  unfold State.windowOver
  split
  · exact State.windowEnd_keeps h
  · exact h

theorem State.checkEnds_keeps {p s} (h : Keeps p s) : Keeps p (State.checkEnds s) := by
  unfold State.checkEnds
  extract_lets +onlyGivenNames v1
  extract_lets +onlyGivenNames v2
  have h3 : Keeps p v2 := State.writeVerdict_keeps h
  clear_value v2
  extract_lets +onlyGivenNames v4
  exact State.runVerdict_keeps (State.setE_keeps (State.opDone_keeps h3))

end Sys2Proof.Machine
end

