-- ==== Sys2Proof/Laws/Num.lean ====
section
/-! SUPPORT. Laws of byte strings, single bits and TIME96 values. -/

namespace Sys2Proof.Machine

theorem length_toBytes (k v : Nat) : (toBytes k v).length = k := by
  induction k with
  | zero => rfl
  | succ k ih => simp [toBytes, ih]

theorem foldl_bytes (b : List Byte) (n : Nat) :
    b.foldl (fun a b => a * 256 + b.toNat) n = n * 256 ^ b.length + ofBytes b := by
  induction b generalizing n with
  | nil => simp [ofBytes]
  | cons x t ih =>
    simp only [List.foldl_cons, List.length_cons, ofBytes]
    rw [ih, ih (0 * 256 + x.toNat), Nat.pow_succ]
    simp only [Nat.zero_mul, Nat.zero_add, Nat.add_mul]
    rw [Nat.add_assoc, Nat.mul_assoc, Nat.mul_comm 256]

/-- A number that is spelled in bytes and read back. -/
theorem ofBytes_toBytes (k v : Nat) : ofBytes (toBytes k v) = v % 256 ^ k := by
  induction k with
  | zero => simp [toBytes, ofBytes, Nat.mod_one]
  | succ k ih =>
    have : ofBytes (toBytes (k + 1) v) = (v / 256 ^ k % 256) * 256 ^ k + ofBytes (toBytes k v) := by
      conv => lhs; unfold toBytes
      unfold ofBytes
      simp only [List.foldl_cons]
      rw [foldl_bytes, length_toBytes]
      simp [ofBytes]
    rw [this, ih, Nat.pow_succ, Nat.mod_mul, Nat.mul_comm, Nat.add_comm]

theorem ofBytes_toBytes_of_lt {k v : Nat} (h : v < 256 ^ k) : ofBytes (toBytes k v) = v := by
  rw [ofBytes_toBytes, Nat.mod_eq_of_lt h]

/-- Adding a bit that is not there changes no other. -/
theorem testBit_addBit {n i : Nat} (hf : n.testBit i = false) (k : Nat) :
    (n + 2 ^ i).testBit k = if k = i then true else n.testBit k := by
  rw [Nat.add_comm]
  by_cases hk : k = i
  · subst hk; rw [Nat.testBit_two_pow_add_eq]; simp [hf]
  rw [if_neg hk]
  rcases Nat.lt_or_gt_of_ne hk with h1 | h1
  · rw [Nat.testBit_two_pow_add_gt h1]
  have hb : n / 2 ^ i % 2 = 0 := by
    have := hf
    simp [Nat.testBit, Nat.shiftRight_eq_div_pow, Nat.one_and_eq_mod_two] at this
    omega
  have e2 : (2 ^ i + n) / 2 ^ (i + 1) = n / 2 ^ (i + 1) := by
    have h0 : (2 ^ i + n) / 2 ^ i = n / 2 ^ i + 1 := by
      rw [Nat.add_comm, Nat.add_div_right _ (Nat.two_pow_pos i)]
    rw [Nat.pow_succ, ← Nat.div_div_eq_div_mul, ← Nat.div_div_eq_div_mul, h0]
    omega
  have tb : ∀ m : Nat, m.testBit k = (m / 2 ^ (i + 1)).testBit (k - (i + 1)) := by
    intro m
    rw [Nat.testBit_div_two_pow]
    congr 1
    omega
  rw [tb, e2, ← tb]

/-- `setBit` sets its bit and leaves every other. -/
theorem testBit_setBit (n i : Nat) (b : Bool) (k : Nat) :
    (setBit n i b).testBit k = if k = i then b else n.testBit k := by
  unfold setBit
  split
  · next h =>
    split
    · next hk => subst hk; exact h
    · rfl
  · next h =>
    split
    · next hb =>
      have hf : n.testBit i = false := by cases hh : n.testBit i <;> simp_all
      rw [testBit_addBit hf, hb]
    · next hb =>
      have hb' : b = false := by simpa using hb
      have ht : n.testBit i = true := by cases hh : n.testBit i <;> simp_all
      have hge : 2 ^ i ≤ n := Nat.ge_two_pow_of_testBit ht
      have hf : (n - 2 ^ i).testBit i = false := by
        have h := Nat.testBit_two_pow_add_eq (n - 2 ^ i) i
        rw [Nat.add_sub_cancel' hge, ht] at h
        cases hh : (n - 2 ^ i).testBit i
        · rfl
        · rw [hh] at h
          exact absurd h (by decide)
      have hs := testBit_addBit hf k
      rw [Nat.sub_add_cancel hge] at hs
      rw [hb']
      split
      · next hk => subst hk; exact hf
      · next hk => rw [hs, if_neg hk]

/-- The reserved bits of a TIME96 value do not count. -/
theorem ofTime96_clean96 (v : Nat) : ofTime96 (clean96 v) = ofTime96 v := by
  unfold ofTime96 clean96
  have h1 : (v / 2 ^ 48 * 2 ^ 48 + v % 2 ^ 46) / 2 ^ 48 = v / 2 ^ 48 := by omega
  have h2 : (v / 2 ^ 48 * 2 ^ 48 + v % 2 ^ 46) / 2 ^ 16 % 2 ^ 30 = v / 2 ^ 16 % 2 ^ 30 := by omega
  have h3 : (v / 2 ^ 48 * 2 ^ 48 + v % 2 ^ 46) % 2 ^ 16 = v % 2 ^ 16 := by omega
  rw [h1, h2, h3]

end Sys2Proof.Machine
end

