-- ==== Sys2Proof/Laws/State.lean ====
section
/-! SUPPORT. What each update of the state changes and leaves alone: one lemma for each field and each update, and read
after write for the dictionary and the tables of resources. No later proof unfolds a record update. -/

namespace Sys2Proof.Machine

variable (s : State)

/-! ### Keys of the dictionary -/

/-- Entries differ where their index or their subindex does. -/
theorem ekey_inj {i j k l : Nat} (hj : j < 256) (hl : l < 256) : ekey i j = ekey k l ↔ i = k ∧ j = l := by
  unfold ekey
  omega

/-- An entry reads what was written to it. -/
@[simp] theorem State.e_setE_same (i j v : Nat) : (s.setE i j v).e i j = v := by
  simp [State.e, State.setE, Tbl.get_set]

/-- Every other entry reads what it read before. -/
theorem State.e_setE_other {i j k l : Nat} (v : Nat) (h : ekey k l ≠ ekey i j) : (s.setE i j v).e k l = s.e k l := by
  simp [State.e, State.setE, Tbl.get_set_default, h]

/-- Read after write of the dictionary. -/
theorem State.e_setE (i j v k l : Nat) :
    (s.setE i j v).e k l = if ekey k l = ekey i j then v else s.e k l := by
  split
  · next h =>
    unfold State.e State.setE
    rw [h, Tbl.get_set_same]
  · next h => exact State.e_setE_other s v h

/-! ### Fields -/

@[simp] theorem State.setE_blobs (i j v : Nat) : (s.setE i j v).blobs = s.blobs := rfl
@[simp] theorem State.setE_gov (i j v : Nat) : (s.setE i j v).gov = s.gov := rfl
@[simp] theorem State.setE_chans (i j v : Nat) : (s.setE i j v).chans = s.chans := rfl
@[simp] theorem State.setE_xports (i j v : Nat) : (s.setE i j v).xports = s.xports := rfl
@[simp] theorem State.setE_orders (i j v : Nat) : (s.setE i j v).orders = s.orders := rfl
@[simp] theorem State.setE_blanks (i j v : Nat) : (s.setE i j v).blanks = s.blanks := rfl
@[simp] theorem State.setE_windows (i j v : Nat) : (s.setE i j v).windows = s.windows := rfl
@[simp] theorem State.setE_groups (i j v : Nat) : (s.setE i j v).groups = s.groups := rfl
@[simp] theorem State.setE_evtFire (i j v : Nat) : (s.setE i j v).evtFire = s.evtFire := rfl
@[simp] theorem State.setE_tones (i j v : Nat) : (s.setE i j v).tones = s.tones := rfl
@[simp] theorem State.setE_mills (i j v : Nat) : (s.setE i j v).mills = s.mills := rfl
@[simp] theorem State.setE_dieTemps (i j v : Nat) : (s.setE i j v).dieTemps = s.dieTemps := rfl
@[simp] theorem State.setE_sails (i j v : Nat) : (s.setE i j v).sails = s.sails := rfl
@[simp] theorem State.setE_sailCal (i j v : Nat) : (s.setE i j v).sailCal = s.sailCal := rfl
@[simp] theorem State.setE_grids (i j v : Nat) : (s.setE i j v).grids = s.grids := rfl
@[simp] theorem State.setE_streams (i j v : Nat) : (s.setE i j v).streams = s.streams := rfl
@[simp] theorem State.setE_hop (i j v : Nat) : (s.setE i j v).hop = s.hop := rfl
@[simp] theorem State.setE_leat (i j v : Nat) : (s.setE i j v).leat = s.leat := rfl
@[simp] theorem State.setE_svc (i j v : Nat) : (s.setE i j v).svc = s.svc := rfl
@[simp] theorem State.setE_twin (i j v : Nat) : (s.setE i j v).twin = s.twin := rfl
@[simp] theorem State.setE_inputs (i j v : Nat) : (s.setE i j v).inputs = s.inputs := rfl
@[simp] theorem State.setE_cmps (i j v : Nat) : (s.setE i j v).cmps = s.cmps := rfl
@[simp] theorem State.setE_trips (i j v : Nat) : (s.setE i j v).trips = s.trips := rfl
@[simp] theorem State.setE_scrims (i j v : Nat) : (s.setE i j v).scrims = s.scrims := rfl
@[simp] theorem State.setE_safeOn (i j v : Nat) : (s.setE i j v).safeOn = s.safeOn := rfl
@[simp] theorem State.setE_safeTicks (i j v : Nat) : (s.setE i j v).safeTicks = s.safeTicks := rfl
@[simp] theorem State.setE_log (i j v : Nat) : (s.setE i j v).log = s.log := rfl
@[simp] theorem State.setE_flash (i j v : Nat) : (s.setE i j v).flash = s.flash := rfl
@[simp] theorem State.setE_power (i j v : Nat) : (s.setE i j v).power = s.power := rfl
@[simp] theorem State.setE_pins (i j v : Nat) : (s.setE i j v).pins = s.pins := rfl
@[simp] theorem State.setE_freeCtr (i j v : Nat) : (s.setE i j v).freeCtr = s.freeCtr := rfl
@[simp] theorem State.setE_pending (i j v : Nat) : (s.setE i j v).pending = s.pending := rfl

@[simp] theorem State.bump_blobs (i j n : Nat) : (s.bump i j n).blobs = s.blobs := rfl
@[simp] theorem State.bump_gov (i j n : Nat) : (s.bump i j n).gov = s.gov := rfl
@[simp] theorem State.bump_chans (i j n : Nat) : (s.bump i j n).chans = s.chans := rfl
@[simp] theorem State.bump_xports (i j n : Nat) : (s.bump i j n).xports = s.xports := rfl
@[simp] theorem State.bump_orders (i j n : Nat) : (s.bump i j n).orders = s.orders := rfl
@[simp] theorem State.bump_blanks (i j n : Nat) : (s.bump i j n).blanks = s.blanks := rfl
@[simp] theorem State.bump_windows (i j n : Nat) : (s.bump i j n).windows = s.windows := rfl
@[simp] theorem State.bump_groups (i j n : Nat) : (s.bump i j n).groups = s.groups := rfl
@[simp] theorem State.bump_evtFire (i j n : Nat) : (s.bump i j n).evtFire = s.evtFire := rfl
@[simp] theorem State.bump_tones (i j n : Nat) : (s.bump i j n).tones = s.tones := rfl
@[simp] theorem State.bump_mills (i j n : Nat) : (s.bump i j n).mills = s.mills := rfl
@[simp] theorem State.bump_dieTemps (i j n : Nat) : (s.bump i j n).dieTemps = s.dieTemps := rfl
@[simp] theorem State.bump_sails (i j n : Nat) : (s.bump i j n).sails = s.sails := rfl
@[simp] theorem State.bump_sailCal (i j n : Nat) : (s.bump i j n).sailCal = s.sailCal := rfl
@[simp] theorem State.bump_grids (i j n : Nat) : (s.bump i j n).grids = s.grids := rfl
@[simp] theorem State.bump_streams (i j n : Nat) : (s.bump i j n).streams = s.streams := rfl
@[simp] theorem State.bump_hop (i j n : Nat) : (s.bump i j n).hop = s.hop := rfl
@[simp] theorem State.bump_leat (i j n : Nat) : (s.bump i j n).leat = s.leat := rfl
@[simp] theorem State.bump_svc (i j n : Nat) : (s.bump i j n).svc = s.svc := rfl
@[simp] theorem State.bump_twin (i j n : Nat) : (s.bump i j n).twin = s.twin := rfl
@[simp] theorem State.bump_inputs (i j n : Nat) : (s.bump i j n).inputs = s.inputs := rfl
@[simp] theorem State.bump_cmps (i j n : Nat) : (s.bump i j n).cmps = s.cmps := rfl
@[simp] theorem State.bump_trips (i j n : Nat) : (s.bump i j n).trips = s.trips := rfl
@[simp] theorem State.bump_scrims (i j n : Nat) : (s.bump i j n).scrims = s.scrims := rfl
@[simp] theorem State.bump_safeOn (i j n : Nat) : (s.bump i j n).safeOn = s.safeOn := rfl
@[simp] theorem State.bump_safeTicks (i j n : Nat) : (s.bump i j n).safeTicks = s.safeTicks := rfl
@[simp] theorem State.bump_log (i j n : Nat) : (s.bump i j n).log = s.log := rfl
@[simp] theorem State.bump_flash (i j n : Nat) : (s.bump i j n).flash = s.flash := rfl
@[simp] theorem State.bump_power (i j n : Nat) : (s.bump i j n).power = s.power := rfl
@[simp] theorem State.bump_pins (i j n : Nat) : (s.bump i j n).pins = s.pins := rfl
@[simp] theorem State.bump_freeCtr (i j n : Nat) : (s.bump i j n).freeCtr = s.freeCtr := rfl
@[simp] theorem State.bump_pending (i j n : Nat) : (s.bump i j n).pending = s.pending := rfl

@[simp] theorem State.wrapAdd_blobs (w i j n : Nat) : (s.wrapAdd w i j n).blobs = s.blobs := rfl
@[simp] theorem State.wrapAdd_gov (w i j n : Nat) : (s.wrapAdd w i j n).gov = s.gov := rfl
@[simp] theorem State.wrapAdd_chans (w i j n : Nat) : (s.wrapAdd w i j n).chans = s.chans := rfl
@[simp] theorem State.wrapAdd_xports (w i j n : Nat) : (s.wrapAdd w i j n).xports = s.xports := rfl
@[simp] theorem State.wrapAdd_orders (w i j n : Nat) : (s.wrapAdd w i j n).orders = s.orders := rfl
@[simp] theorem State.wrapAdd_blanks (w i j n : Nat) : (s.wrapAdd w i j n).blanks = s.blanks := rfl
@[simp] theorem State.wrapAdd_windows (w i j n : Nat) : (s.wrapAdd w i j n).windows = s.windows := rfl
@[simp] theorem State.wrapAdd_groups (w i j n : Nat) : (s.wrapAdd w i j n).groups = s.groups := rfl
@[simp] theorem State.wrapAdd_evtFire (w i j n : Nat) : (s.wrapAdd w i j n).evtFire = s.evtFire := rfl
@[simp] theorem State.wrapAdd_tones (w i j n : Nat) : (s.wrapAdd w i j n).tones = s.tones := rfl
@[simp] theorem State.wrapAdd_mills (w i j n : Nat) : (s.wrapAdd w i j n).mills = s.mills := rfl
@[simp] theorem State.wrapAdd_dieTemps (w i j n : Nat) : (s.wrapAdd w i j n).dieTemps = s.dieTemps := rfl
@[simp] theorem State.wrapAdd_sails (w i j n : Nat) : (s.wrapAdd w i j n).sails = s.sails := rfl
@[simp] theorem State.wrapAdd_sailCal (w i j n : Nat) : (s.wrapAdd w i j n).sailCal = s.sailCal := rfl
@[simp] theorem State.wrapAdd_grids (w i j n : Nat) : (s.wrapAdd w i j n).grids = s.grids := rfl
@[simp] theorem State.wrapAdd_streams (w i j n : Nat) : (s.wrapAdd w i j n).streams = s.streams := rfl
@[simp] theorem State.wrapAdd_hop (w i j n : Nat) : (s.wrapAdd w i j n).hop = s.hop := rfl
@[simp] theorem State.wrapAdd_leat (w i j n : Nat) : (s.wrapAdd w i j n).leat = s.leat := rfl
@[simp] theorem State.wrapAdd_svc (w i j n : Nat) : (s.wrapAdd w i j n).svc = s.svc := rfl
@[simp] theorem State.wrapAdd_twin (w i j n : Nat) : (s.wrapAdd w i j n).twin = s.twin := rfl
@[simp] theorem State.wrapAdd_inputs (w i j n : Nat) : (s.wrapAdd w i j n).inputs = s.inputs := rfl
@[simp] theorem State.wrapAdd_cmps (w i j n : Nat) : (s.wrapAdd w i j n).cmps = s.cmps := rfl
@[simp] theorem State.wrapAdd_trips (w i j n : Nat) : (s.wrapAdd w i j n).trips = s.trips := rfl
@[simp] theorem State.wrapAdd_scrims (w i j n : Nat) : (s.wrapAdd w i j n).scrims = s.scrims := rfl
@[simp] theorem State.wrapAdd_safeOn (w i j n : Nat) : (s.wrapAdd w i j n).safeOn = s.safeOn := rfl
@[simp] theorem State.wrapAdd_safeTicks (w i j n : Nat) : (s.wrapAdd w i j n).safeTicks = s.safeTicks := rfl
@[simp] theorem State.wrapAdd_log (w i j n : Nat) : (s.wrapAdd w i j n).log = s.log := rfl
@[simp] theorem State.wrapAdd_flash (w i j n : Nat) : (s.wrapAdd w i j n).flash = s.flash := rfl
@[simp] theorem State.wrapAdd_power (w i j n : Nat) : (s.wrapAdd w i j n).power = s.power := rfl
@[simp] theorem State.wrapAdd_pins (w i j n : Nat) : (s.wrapAdd w i j n).pins = s.pins := rfl
@[simp] theorem State.wrapAdd_freeCtr (w i j n : Nat) : (s.wrapAdd w i j n).freeCtr = s.freeCtr := rfl
@[simp] theorem State.wrapAdd_pending (w i j n : Nat) : (s.wrapAdd w i j n).pending = s.pending := rfl

@[simp] theorem State.flag_blobs (i j k : Nat) (b : Bool) : (s.flag i j k b).blobs = s.blobs := rfl
@[simp] theorem State.flag_gov (i j k : Nat) (b : Bool) : (s.flag i j k b).gov = s.gov := rfl
@[simp] theorem State.flag_chans (i j k : Nat) (b : Bool) : (s.flag i j k b).chans = s.chans := rfl
@[simp] theorem State.flag_xports (i j k : Nat) (b : Bool) : (s.flag i j k b).xports = s.xports := rfl
@[simp] theorem State.flag_orders (i j k : Nat) (b : Bool) : (s.flag i j k b).orders = s.orders := rfl
@[simp] theorem State.flag_blanks (i j k : Nat) (b : Bool) : (s.flag i j k b).blanks = s.blanks := rfl
@[simp] theorem State.flag_windows (i j k : Nat) (b : Bool) : (s.flag i j k b).windows = s.windows := rfl
@[simp] theorem State.flag_groups (i j k : Nat) (b : Bool) : (s.flag i j k b).groups = s.groups := rfl
@[simp] theorem State.flag_evtFire (i j k : Nat) (b : Bool) : (s.flag i j k b).evtFire = s.evtFire := rfl
@[simp] theorem State.flag_tones (i j k : Nat) (b : Bool) : (s.flag i j k b).tones = s.tones := rfl
@[simp] theorem State.flag_mills (i j k : Nat) (b : Bool) : (s.flag i j k b).mills = s.mills := rfl
@[simp] theorem State.flag_dieTemps (i j k : Nat) (b : Bool) : (s.flag i j k b).dieTemps = s.dieTemps := rfl
@[simp] theorem State.flag_sails (i j k : Nat) (b : Bool) : (s.flag i j k b).sails = s.sails := rfl
@[simp] theorem State.flag_sailCal (i j k : Nat) (b : Bool) : (s.flag i j k b).sailCal = s.sailCal := rfl
@[simp] theorem State.flag_grids (i j k : Nat) (b : Bool) : (s.flag i j k b).grids = s.grids := rfl
@[simp] theorem State.flag_streams (i j k : Nat) (b : Bool) : (s.flag i j k b).streams = s.streams := rfl
@[simp] theorem State.flag_hop (i j k : Nat) (b : Bool) : (s.flag i j k b).hop = s.hop := rfl
@[simp] theorem State.flag_leat (i j k : Nat) (b : Bool) : (s.flag i j k b).leat = s.leat := rfl
@[simp] theorem State.flag_svc (i j k : Nat) (b : Bool) : (s.flag i j k b).svc = s.svc := rfl
@[simp] theorem State.flag_twin (i j k : Nat) (b : Bool) : (s.flag i j k b).twin = s.twin := rfl
@[simp] theorem State.flag_inputs (i j k : Nat) (b : Bool) : (s.flag i j k b).inputs = s.inputs := rfl
@[simp] theorem State.flag_cmps (i j k : Nat) (b : Bool) : (s.flag i j k b).cmps = s.cmps := rfl
@[simp] theorem State.flag_trips (i j k : Nat) (b : Bool) : (s.flag i j k b).trips = s.trips := rfl
@[simp] theorem State.flag_scrims (i j k : Nat) (b : Bool) : (s.flag i j k b).scrims = s.scrims := rfl
@[simp] theorem State.flag_safeOn (i j k : Nat) (b : Bool) : (s.flag i j k b).safeOn = s.safeOn := rfl
@[simp] theorem State.flag_safeTicks (i j k : Nat) (b : Bool) : (s.flag i j k b).safeTicks = s.safeTicks := rfl
@[simp] theorem State.flag_log (i j k : Nat) (b : Bool) : (s.flag i j k b).log = s.log := rfl
@[simp] theorem State.flag_flash (i j k : Nat) (b : Bool) : (s.flag i j k b).flash = s.flash := rfl
@[simp] theorem State.flag_power (i j k : Nat) (b : Bool) : (s.flag i j k b).power = s.power := rfl
@[simp] theorem State.flag_pins (i j k : Nat) (b : Bool) : (s.flag i j k b).pins = s.pins := rfl
@[simp] theorem State.flag_freeCtr (i j k : Nat) (b : Bool) : (s.flag i j k b).freeCtr = s.freeCtr := rfl
@[simp] theorem State.flag_pending (i j k : Nat) (b : Bool) : (s.flag i j k b).pending = s.pending := rfl

@[simp] theorem State.fresh_dict : (s.fresh ).dict = s.dict := rfl
@[simp] theorem State.fresh_blobs : (s.fresh ).blobs = s.blobs := rfl
@[simp] theorem State.fresh_gov : (s.fresh ).gov = s.gov := rfl
@[simp] theorem State.fresh_chans : (s.fresh ).chans = s.chans := rfl
@[simp] theorem State.fresh_xports : (s.fresh ).xports = s.xports := rfl
@[simp] theorem State.fresh_orders : (s.fresh ).orders = s.orders := rfl
@[simp] theorem State.fresh_blanks : (s.fresh ).blanks = s.blanks := rfl
@[simp] theorem State.fresh_windows : (s.fresh ).windows = s.windows := rfl
@[simp] theorem State.fresh_groups : (s.fresh ).groups = s.groups := rfl
@[simp] theorem State.fresh_evtFire : (s.fresh ).evtFire = s.evtFire := rfl
@[simp] theorem State.fresh_tones : (s.fresh ).tones = s.tones := rfl
@[simp] theorem State.fresh_mills : (s.fresh ).mills = s.mills := rfl
@[simp] theorem State.fresh_dieTemps : (s.fresh ).dieTemps = s.dieTemps := rfl
@[simp] theorem State.fresh_sails : (s.fresh ).sails = s.sails := rfl
@[simp] theorem State.fresh_sailCal : (s.fresh ).sailCal = s.sailCal := rfl
@[simp] theorem State.fresh_grids : (s.fresh ).grids = s.grids := rfl
@[simp] theorem State.fresh_streams : (s.fresh ).streams = s.streams := rfl
@[simp] theorem State.fresh_hop : (s.fresh ).hop = s.hop := rfl
@[simp] theorem State.fresh_leat : (s.fresh ).leat = s.leat := rfl
@[simp] theorem State.fresh_svc : (s.fresh ).svc = s.svc := rfl
@[simp] theorem State.fresh_twin : (s.fresh ).twin = s.twin := rfl
@[simp] theorem State.fresh_inputs : (s.fresh ).inputs = s.inputs := rfl
@[simp] theorem State.fresh_cmps : (s.fresh ).cmps = s.cmps := rfl
@[simp] theorem State.fresh_trips : (s.fresh ).trips = s.trips := rfl
@[simp] theorem State.fresh_scrims : (s.fresh ).scrims = s.scrims := rfl
@[simp] theorem State.fresh_safeOn : (s.fresh ).safeOn = s.safeOn := rfl
@[simp] theorem State.fresh_safeTicks : (s.fresh ).safeTicks = s.safeTicks := rfl
@[simp] theorem State.fresh_log : (s.fresh ).log = s.log := rfl
@[simp] theorem State.fresh_flash : (s.fresh ).flash = s.flash := rfl
@[simp] theorem State.fresh_power : (s.fresh ).power = s.power := rfl
@[simp] theorem State.fresh_pins : (s.fresh ).pins = s.pins := rfl
@[simp] theorem State.fresh_pending : (s.fresh ).pending = s.pending := rfl

@[simp] theorem State.setChan_dict (c : Nat) (x : Chan) : (s.setChan c x).dict = s.dict := rfl
@[simp] theorem State.setChan_blobs (c : Nat) (x : Chan) : (s.setChan c x).blobs = s.blobs := rfl
@[simp] theorem State.setChan_gov (c : Nat) (x : Chan) : (s.setChan c x).gov = s.gov := rfl
@[simp] theorem State.setChan_xports (c : Nat) (x : Chan) : (s.setChan c x).xports = s.xports := rfl
@[simp] theorem State.setChan_orders (c : Nat) (x : Chan) : (s.setChan c x).orders = s.orders := rfl
@[simp] theorem State.setChan_blanks (c : Nat) (x : Chan) : (s.setChan c x).blanks = s.blanks := rfl
@[simp] theorem State.setChan_windows (c : Nat) (x : Chan) : (s.setChan c x).windows = s.windows := rfl
@[simp] theorem State.setChan_groups (c : Nat) (x : Chan) : (s.setChan c x).groups = s.groups := rfl
@[simp] theorem State.setChan_evtFire (c : Nat) (x : Chan) : (s.setChan c x).evtFire = s.evtFire := rfl
@[simp] theorem State.setChan_tones (c : Nat) (x : Chan) : (s.setChan c x).tones = s.tones := rfl
@[simp] theorem State.setChan_mills (c : Nat) (x : Chan) : (s.setChan c x).mills = s.mills := rfl
@[simp] theorem State.setChan_dieTemps (c : Nat) (x : Chan) : (s.setChan c x).dieTemps = s.dieTemps := rfl
@[simp] theorem State.setChan_sails (c : Nat) (x : Chan) : (s.setChan c x).sails = s.sails := rfl
@[simp] theorem State.setChan_sailCal (c : Nat) (x : Chan) : (s.setChan c x).sailCal = s.sailCal := rfl
@[simp] theorem State.setChan_grids (c : Nat) (x : Chan) : (s.setChan c x).grids = s.grids := rfl
@[simp] theorem State.setChan_streams (c : Nat) (x : Chan) : (s.setChan c x).streams = s.streams := rfl
@[simp] theorem State.setChan_hop (c : Nat) (x : Chan) : (s.setChan c x).hop = s.hop := rfl
@[simp] theorem State.setChan_leat (c : Nat) (x : Chan) : (s.setChan c x).leat = s.leat := rfl
@[simp] theorem State.setChan_svc (c : Nat) (x : Chan) : (s.setChan c x).svc = s.svc := rfl
@[simp] theorem State.setChan_twin (c : Nat) (x : Chan) : (s.setChan c x).twin = s.twin := rfl
@[simp] theorem State.setChan_inputs (c : Nat) (x : Chan) : (s.setChan c x).inputs = s.inputs := rfl
@[simp] theorem State.setChan_cmps (c : Nat) (x : Chan) : (s.setChan c x).cmps = s.cmps := rfl
@[simp] theorem State.setChan_trips (c : Nat) (x : Chan) : (s.setChan c x).trips = s.trips := rfl
@[simp] theorem State.setChan_scrims (c : Nat) (x : Chan) : (s.setChan c x).scrims = s.scrims := rfl
@[simp] theorem State.setChan_safeOn (c : Nat) (x : Chan) : (s.setChan c x).safeOn = s.safeOn := rfl
@[simp] theorem State.setChan_safeTicks (c : Nat) (x : Chan) : (s.setChan c x).safeTicks = s.safeTicks := rfl
@[simp] theorem State.setChan_log (c : Nat) (x : Chan) : (s.setChan c x).log = s.log := rfl
@[simp] theorem State.setChan_flash (c : Nat) (x : Chan) : (s.setChan c x).flash = s.flash := rfl
@[simp] theorem State.setChan_power (c : Nat) (x : Chan) : (s.setChan c x).power = s.power := rfl
@[simp] theorem State.setChan_pins (c : Nat) (x : Chan) : (s.setChan c x).pins = s.pins := rfl
@[simp] theorem State.setChan_freeCtr (c : Nat) (x : Chan) : (s.setChan c x).freeCtr = s.freeCtr := rfl
@[simp] theorem State.setChan_pending (c : Nat) (x : Chan) : (s.setChan c x).pending = s.pending := rfl

@[simp] theorem State.setXport_dict (g : Nat) (x : XPort) : (s.setXport g x).dict = s.dict := rfl
@[simp] theorem State.setXport_blobs (g : Nat) (x : XPort) : (s.setXport g x).blobs = s.blobs := rfl
@[simp] theorem State.setXport_gov (g : Nat) (x : XPort) : (s.setXport g x).gov = s.gov := rfl
@[simp] theorem State.setXport_chans (g : Nat) (x : XPort) : (s.setXport g x).chans = s.chans := rfl
@[simp] theorem State.setXport_orders (g : Nat) (x : XPort) : (s.setXport g x).orders = s.orders := rfl
@[simp] theorem State.setXport_blanks (g : Nat) (x : XPort) : (s.setXport g x).blanks = s.blanks := rfl
@[simp] theorem State.setXport_windows (g : Nat) (x : XPort) : (s.setXport g x).windows = s.windows := rfl
@[simp] theorem State.setXport_groups (g : Nat) (x : XPort) : (s.setXport g x).groups = s.groups := rfl
@[simp] theorem State.setXport_evtFire (g : Nat) (x : XPort) : (s.setXport g x).evtFire = s.evtFire := rfl
@[simp] theorem State.setXport_tones (g : Nat) (x : XPort) : (s.setXport g x).tones = s.tones := rfl
@[simp] theorem State.setXport_mills (g : Nat) (x : XPort) : (s.setXport g x).mills = s.mills := rfl
@[simp] theorem State.setXport_dieTemps (g : Nat) (x : XPort) : (s.setXport g x).dieTemps = s.dieTemps := rfl
@[simp] theorem State.setXport_sails (g : Nat) (x : XPort) : (s.setXport g x).sails = s.sails := rfl
@[simp] theorem State.setXport_sailCal (g : Nat) (x : XPort) : (s.setXport g x).sailCal = s.sailCal := rfl
@[simp] theorem State.setXport_grids (g : Nat) (x : XPort) : (s.setXport g x).grids = s.grids := rfl
@[simp] theorem State.setXport_streams (g : Nat) (x : XPort) : (s.setXport g x).streams = s.streams := rfl
@[simp] theorem State.setXport_hop (g : Nat) (x : XPort) : (s.setXport g x).hop = s.hop := rfl
@[simp] theorem State.setXport_leat (g : Nat) (x : XPort) : (s.setXport g x).leat = s.leat := rfl
@[simp] theorem State.setXport_svc (g : Nat) (x : XPort) : (s.setXport g x).svc = s.svc := rfl
@[simp] theorem State.setXport_twin (g : Nat) (x : XPort) : (s.setXport g x).twin = s.twin := rfl
@[simp] theorem State.setXport_inputs (g : Nat) (x : XPort) : (s.setXport g x).inputs = s.inputs := rfl
@[simp] theorem State.setXport_cmps (g : Nat) (x : XPort) : (s.setXport g x).cmps = s.cmps := rfl
@[simp] theorem State.setXport_trips (g : Nat) (x : XPort) : (s.setXport g x).trips = s.trips := rfl
@[simp] theorem State.setXport_scrims (g : Nat) (x : XPort) : (s.setXport g x).scrims = s.scrims := rfl
@[simp] theorem State.setXport_safeOn (g : Nat) (x : XPort) : (s.setXport g x).safeOn = s.safeOn := rfl
@[simp] theorem State.setXport_safeTicks (g : Nat) (x : XPort) : (s.setXport g x).safeTicks = s.safeTicks := rfl
@[simp] theorem State.setXport_log (g : Nat) (x : XPort) : (s.setXport g x).log = s.log := rfl
@[simp] theorem State.setXport_flash (g : Nat) (x : XPort) : (s.setXport g x).flash = s.flash := rfl
@[simp] theorem State.setXport_power (g : Nat) (x : XPort) : (s.setXport g x).power = s.power := rfl
@[simp] theorem State.setXport_pins (g : Nat) (x : XPort) : (s.setXport g x).pins = s.pins := rfl
@[simp] theorem State.setXport_freeCtr (g : Nat) (x : XPort) : (s.setXport g x).freeCtr = s.freeCtr := rfl
@[simp] theorem State.setXport_pending (g : Nat) (x : XPort) : (s.setXport g x).pending = s.pending := rfl

@[simp] theorem State.setGroup_dict (g : Nat) (x : Group) : (s.setGroup g x).dict = s.dict := rfl
@[simp] theorem State.setGroup_blobs (g : Nat) (x : Group) : (s.setGroup g x).blobs = s.blobs := rfl
@[simp] theorem State.setGroup_gov (g : Nat) (x : Group) : (s.setGroup g x).gov = s.gov := rfl
@[simp] theorem State.setGroup_chans (g : Nat) (x : Group) : (s.setGroup g x).chans = s.chans := rfl
@[simp] theorem State.setGroup_xports (g : Nat) (x : Group) : (s.setGroup g x).xports = s.xports := rfl
@[simp] theorem State.setGroup_orders (g : Nat) (x : Group) : (s.setGroup g x).orders = s.orders := rfl
@[simp] theorem State.setGroup_blanks (g : Nat) (x : Group) : (s.setGroup g x).blanks = s.blanks := rfl
@[simp] theorem State.setGroup_windows (g : Nat) (x : Group) : (s.setGroup g x).windows = s.windows := rfl
@[simp] theorem State.setGroup_evtFire (g : Nat) (x : Group) : (s.setGroup g x).evtFire = s.evtFire := rfl
@[simp] theorem State.setGroup_tones (g : Nat) (x : Group) : (s.setGroup g x).tones = s.tones := rfl
@[simp] theorem State.setGroup_mills (g : Nat) (x : Group) : (s.setGroup g x).mills = s.mills := rfl
@[simp] theorem State.setGroup_dieTemps (g : Nat) (x : Group) : (s.setGroup g x).dieTemps = s.dieTemps := rfl
@[simp] theorem State.setGroup_sails (g : Nat) (x : Group) : (s.setGroup g x).sails = s.sails := rfl
@[simp] theorem State.setGroup_sailCal (g : Nat) (x : Group) : (s.setGroup g x).sailCal = s.sailCal := rfl
@[simp] theorem State.setGroup_grids (g : Nat) (x : Group) : (s.setGroup g x).grids = s.grids := rfl
@[simp] theorem State.setGroup_streams (g : Nat) (x : Group) : (s.setGroup g x).streams = s.streams := rfl
@[simp] theorem State.setGroup_hop (g : Nat) (x : Group) : (s.setGroup g x).hop = s.hop := rfl
@[simp] theorem State.setGroup_leat (g : Nat) (x : Group) : (s.setGroup g x).leat = s.leat := rfl
@[simp] theorem State.setGroup_svc (g : Nat) (x : Group) : (s.setGroup g x).svc = s.svc := rfl
@[simp] theorem State.setGroup_twin (g : Nat) (x : Group) : (s.setGroup g x).twin = s.twin := rfl
@[simp] theorem State.setGroup_inputs (g : Nat) (x : Group) : (s.setGroup g x).inputs = s.inputs := rfl
@[simp] theorem State.setGroup_cmps (g : Nat) (x : Group) : (s.setGroup g x).cmps = s.cmps := rfl
@[simp] theorem State.setGroup_trips (g : Nat) (x : Group) : (s.setGroup g x).trips = s.trips := rfl
@[simp] theorem State.setGroup_scrims (g : Nat) (x : Group) : (s.setGroup g x).scrims = s.scrims := rfl
@[simp] theorem State.setGroup_safeOn (g : Nat) (x : Group) : (s.setGroup g x).safeOn = s.safeOn := rfl
@[simp] theorem State.setGroup_safeTicks (g : Nat) (x : Group) : (s.setGroup g x).safeTicks = s.safeTicks := rfl
@[simp] theorem State.setGroup_log (g : Nat) (x : Group) : (s.setGroup g x).log = s.log := rfl
@[simp] theorem State.setGroup_flash (g : Nat) (x : Group) : (s.setGroup g x).flash = s.flash := rfl
@[simp] theorem State.setGroup_power (g : Nat) (x : Group) : (s.setGroup g x).power = s.power := rfl
@[simp] theorem State.setGroup_pins (g : Nat) (x : Group) : (s.setGroup g x).pins = s.pins := rfl
@[simp] theorem State.setGroup_freeCtr (g : Nat) (x : Group) : (s.setGroup g x).freeCtr = s.freeCtr := rfl
@[simp] theorem State.setGroup_pending (g : Nat) (x : Group) : (s.setGroup g x).pending = s.pending := rfl

@[simp] theorem State.setMill_dict (c : Nat) (x : Mill) : (s.setMill c x).dict = s.dict := rfl
@[simp] theorem State.setMill_blobs (c : Nat) (x : Mill) : (s.setMill c x).blobs = s.blobs := rfl
@[simp] theorem State.setMill_gov (c : Nat) (x : Mill) : (s.setMill c x).gov = s.gov := rfl
@[simp] theorem State.setMill_chans (c : Nat) (x : Mill) : (s.setMill c x).chans = s.chans := rfl
@[simp] theorem State.setMill_xports (c : Nat) (x : Mill) : (s.setMill c x).xports = s.xports := rfl
@[simp] theorem State.setMill_orders (c : Nat) (x : Mill) : (s.setMill c x).orders = s.orders := rfl
@[simp] theorem State.setMill_blanks (c : Nat) (x : Mill) : (s.setMill c x).blanks = s.blanks := rfl
@[simp] theorem State.setMill_windows (c : Nat) (x : Mill) : (s.setMill c x).windows = s.windows := rfl
@[simp] theorem State.setMill_groups (c : Nat) (x : Mill) : (s.setMill c x).groups = s.groups := rfl
@[simp] theorem State.setMill_evtFire (c : Nat) (x : Mill) : (s.setMill c x).evtFire = s.evtFire := rfl
@[simp] theorem State.setMill_tones (c : Nat) (x : Mill) : (s.setMill c x).tones = s.tones := rfl
@[simp] theorem State.setMill_dieTemps (c : Nat) (x : Mill) : (s.setMill c x).dieTemps = s.dieTemps := rfl
@[simp] theorem State.setMill_sails (c : Nat) (x : Mill) : (s.setMill c x).sails = s.sails := rfl
@[simp] theorem State.setMill_sailCal (c : Nat) (x : Mill) : (s.setMill c x).sailCal = s.sailCal := rfl
@[simp] theorem State.setMill_grids (c : Nat) (x : Mill) : (s.setMill c x).grids = s.grids := rfl
@[simp] theorem State.setMill_streams (c : Nat) (x : Mill) : (s.setMill c x).streams = s.streams := rfl
@[simp] theorem State.setMill_hop (c : Nat) (x : Mill) : (s.setMill c x).hop = s.hop := rfl
@[simp] theorem State.setMill_leat (c : Nat) (x : Mill) : (s.setMill c x).leat = s.leat := rfl
@[simp] theorem State.setMill_svc (c : Nat) (x : Mill) : (s.setMill c x).svc = s.svc := rfl
@[simp] theorem State.setMill_twin (c : Nat) (x : Mill) : (s.setMill c x).twin = s.twin := rfl
@[simp] theorem State.setMill_inputs (c : Nat) (x : Mill) : (s.setMill c x).inputs = s.inputs := rfl
@[simp] theorem State.setMill_cmps (c : Nat) (x : Mill) : (s.setMill c x).cmps = s.cmps := rfl
@[simp] theorem State.setMill_trips (c : Nat) (x : Mill) : (s.setMill c x).trips = s.trips := rfl
@[simp] theorem State.setMill_scrims (c : Nat) (x : Mill) : (s.setMill c x).scrims = s.scrims := rfl
@[simp] theorem State.setMill_safeOn (c : Nat) (x : Mill) : (s.setMill c x).safeOn = s.safeOn := rfl
@[simp] theorem State.setMill_safeTicks (c : Nat) (x : Mill) : (s.setMill c x).safeTicks = s.safeTicks := rfl
@[simp] theorem State.setMill_log (c : Nat) (x : Mill) : (s.setMill c x).log = s.log := rfl
@[simp] theorem State.setMill_flash (c : Nat) (x : Mill) : (s.setMill c x).flash = s.flash := rfl
@[simp] theorem State.setMill_power (c : Nat) (x : Mill) : (s.setMill c x).power = s.power := rfl
@[simp] theorem State.setMill_pins (c : Nat) (x : Mill) : (s.setMill c x).pins = s.pins := rfl
@[simp] theorem State.setMill_freeCtr (c : Nat) (x : Mill) : (s.setMill c x).freeCtr = s.freeCtr := rfl
@[simp] theorem State.setMill_pending (c : Nat) (x : Mill) : (s.setMill c x).pending = s.pending := rfl

@[simp] theorem State.setGrid_dict (a : Nat) (x : Grid) : (s.setGrid a x).dict = s.dict := rfl
@[simp] theorem State.setGrid_blobs (a : Nat) (x : Grid) : (s.setGrid a x).blobs = s.blobs := rfl
@[simp] theorem State.setGrid_gov (a : Nat) (x : Grid) : (s.setGrid a x).gov = s.gov := rfl
@[simp] theorem State.setGrid_chans (a : Nat) (x : Grid) : (s.setGrid a x).chans = s.chans := rfl
@[simp] theorem State.setGrid_xports (a : Nat) (x : Grid) : (s.setGrid a x).xports = s.xports := rfl
@[simp] theorem State.setGrid_orders (a : Nat) (x : Grid) : (s.setGrid a x).orders = s.orders := rfl
@[simp] theorem State.setGrid_blanks (a : Nat) (x : Grid) : (s.setGrid a x).blanks = s.blanks := rfl
@[simp] theorem State.setGrid_windows (a : Nat) (x : Grid) : (s.setGrid a x).windows = s.windows := rfl
@[simp] theorem State.setGrid_groups (a : Nat) (x : Grid) : (s.setGrid a x).groups = s.groups := rfl
@[simp] theorem State.setGrid_evtFire (a : Nat) (x : Grid) : (s.setGrid a x).evtFire = s.evtFire := rfl
@[simp] theorem State.setGrid_tones (a : Nat) (x : Grid) : (s.setGrid a x).tones = s.tones := rfl
@[simp] theorem State.setGrid_mills (a : Nat) (x : Grid) : (s.setGrid a x).mills = s.mills := rfl
@[simp] theorem State.setGrid_dieTemps (a : Nat) (x : Grid) : (s.setGrid a x).dieTemps = s.dieTemps := rfl
@[simp] theorem State.setGrid_sails (a : Nat) (x : Grid) : (s.setGrid a x).sails = s.sails := rfl
@[simp] theorem State.setGrid_sailCal (a : Nat) (x : Grid) : (s.setGrid a x).sailCal = s.sailCal := rfl
@[simp] theorem State.setGrid_streams (a : Nat) (x : Grid) : (s.setGrid a x).streams = s.streams := rfl
@[simp] theorem State.setGrid_hop (a : Nat) (x : Grid) : (s.setGrid a x).hop = s.hop := rfl
@[simp] theorem State.setGrid_leat (a : Nat) (x : Grid) : (s.setGrid a x).leat = s.leat := rfl
@[simp] theorem State.setGrid_svc (a : Nat) (x : Grid) : (s.setGrid a x).svc = s.svc := rfl
@[simp] theorem State.setGrid_twin (a : Nat) (x : Grid) : (s.setGrid a x).twin = s.twin := rfl
@[simp] theorem State.setGrid_inputs (a : Nat) (x : Grid) : (s.setGrid a x).inputs = s.inputs := rfl
@[simp] theorem State.setGrid_cmps (a : Nat) (x : Grid) : (s.setGrid a x).cmps = s.cmps := rfl
@[simp] theorem State.setGrid_trips (a : Nat) (x : Grid) : (s.setGrid a x).trips = s.trips := rfl
@[simp] theorem State.setGrid_scrims (a : Nat) (x : Grid) : (s.setGrid a x).scrims = s.scrims := rfl
@[simp] theorem State.setGrid_safeOn (a : Nat) (x : Grid) : (s.setGrid a x).safeOn = s.safeOn := rfl
@[simp] theorem State.setGrid_safeTicks (a : Nat) (x : Grid) : (s.setGrid a x).safeTicks = s.safeTicks := rfl
@[simp] theorem State.setGrid_log (a : Nat) (x : Grid) : (s.setGrid a x).log = s.log := rfl
@[simp] theorem State.setGrid_flash (a : Nat) (x : Grid) : (s.setGrid a x).flash = s.flash := rfl
@[simp] theorem State.setGrid_power (a : Nat) (x : Grid) : (s.setGrid a x).power = s.power := rfl
@[simp] theorem State.setGrid_pins (a : Nat) (x : Grid) : (s.setGrid a x).pins = s.pins := rfl
@[simp] theorem State.setGrid_freeCtr (a : Nat) (x : Grid) : (s.setGrid a x).freeCtr = s.freeCtr := rfl
@[simp] theorem State.setGrid_pending (a : Nat) (x : Grid) : (s.setGrid a x).pending = s.pending := rfl

@[simp] theorem State.setStream_dict (n : Nat) (x : Stream) : (s.setStream n x).dict = s.dict := rfl
@[simp] theorem State.setStream_blobs (n : Nat) (x : Stream) : (s.setStream n x).blobs = s.blobs := rfl
@[simp] theorem State.setStream_gov (n : Nat) (x : Stream) : (s.setStream n x).gov = s.gov := rfl
@[simp] theorem State.setStream_chans (n : Nat) (x : Stream) : (s.setStream n x).chans = s.chans := rfl
@[simp] theorem State.setStream_xports (n : Nat) (x : Stream) : (s.setStream n x).xports = s.xports := rfl
@[simp] theorem State.setStream_orders (n : Nat) (x : Stream) : (s.setStream n x).orders = s.orders := rfl
@[simp] theorem State.setStream_blanks (n : Nat) (x : Stream) : (s.setStream n x).blanks = s.blanks := rfl
@[simp] theorem State.setStream_windows (n : Nat) (x : Stream) : (s.setStream n x).windows = s.windows := rfl
@[simp] theorem State.setStream_groups (n : Nat) (x : Stream) : (s.setStream n x).groups = s.groups := rfl
@[simp] theorem State.setStream_evtFire (n : Nat) (x : Stream) : (s.setStream n x).evtFire = s.evtFire := rfl
@[simp] theorem State.setStream_tones (n : Nat) (x : Stream) : (s.setStream n x).tones = s.tones := rfl
@[simp] theorem State.setStream_mills (n : Nat) (x : Stream) : (s.setStream n x).mills = s.mills := rfl
@[simp] theorem State.setStream_dieTemps (n : Nat) (x : Stream) : (s.setStream n x).dieTemps = s.dieTemps := rfl
@[simp] theorem State.setStream_sails (n : Nat) (x : Stream) : (s.setStream n x).sails = s.sails := rfl
@[simp] theorem State.setStream_sailCal (n : Nat) (x : Stream) : (s.setStream n x).sailCal = s.sailCal := rfl
@[simp] theorem State.setStream_grids (n : Nat) (x : Stream) : (s.setStream n x).grids = s.grids := rfl
@[simp] theorem State.setStream_hop (n : Nat) (x : Stream) : (s.setStream n x).hop = s.hop := rfl
@[simp] theorem State.setStream_leat (n : Nat) (x : Stream) : (s.setStream n x).leat = s.leat := rfl
@[simp] theorem State.setStream_svc (n : Nat) (x : Stream) : (s.setStream n x).svc = s.svc := rfl
@[simp] theorem State.setStream_twin (n : Nat) (x : Stream) : (s.setStream n x).twin = s.twin := rfl
@[simp] theorem State.setStream_inputs (n : Nat) (x : Stream) : (s.setStream n x).inputs = s.inputs := rfl
@[simp] theorem State.setStream_cmps (n : Nat) (x : Stream) : (s.setStream n x).cmps = s.cmps := rfl
@[simp] theorem State.setStream_trips (n : Nat) (x : Stream) : (s.setStream n x).trips = s.trips := rfl
@[simp] theorem State.setStream_scrims (n : Nat) (x : Stream) : (s.setStream n x).scrims = s.scrims := rfl
@[simp] theorem State.setStream_safeOn (n : Nat) (x : Stream) : (s.setStream n x).safeOn = s.safeOn := rfl
@[simp] theorem State.setStream_safeTicks (n : Nat) (x : Stream) : (s.setStream n x).safeTicks = s.safeTicks := rfl
@[simp] theorem State.setStream_log (n : Nat) (x : Stream) : (s.setStream n x).log = s.log := rfl
@[simp] theorem State.setStream_flash (n : Nat) (x : Stream) : (s.setStream n x).flash = s.flash := rfl
@[simp] theorem State.setStream_power (n : Nat) (x : Stream) : (s.setStream n x).power = s.power := rfl
@[simp] theorem State.setStream_pins (n : Nat) (x : Stream) : (s.setStream n x).pins = s.pins := rfl
@[simp] theorem State.setStream_freeCtr (n : Nat) (x : Stream) : (s.setStream n x).freeCtr = s.freeCtr := rfl
@[simp] theorem State.setStream_pending (n : Nat) (x : Stream) : (s.setStream n x).pending = s.pending := rfl

@[simp] theorem State.setHq_dict (q : Nat) (x : HQueue) : (s.setHq q x).dict = s.dict := rfl
@[simp] theorem State.setHq_blobs (q : Nat) (x : HQueue) : (s.setHq q x).blobs = s.blobs := rfl
@[simp] theorem State.setHq_gov (q : Nat) (x : HQueue) : (s.setHq q x).gov = s.gov := rfl
@[simp] theorem State.setHq_chans (q : Nat) (x : HQueue) : (s.setHq q x).chans = s.chans := rfl
@[simp] theorem State.setHq_xports (q : Nat) (x : HQueue) : (s.setHq q x).xports = s.xports := rfl
@[simp] theorem State.setHq_orders (q : Nat) (x : HQueue) : (s.setHq q x).orders = s.orders := rfl
@[simp] theorem State.setHq_blanks (q : Nat) (x : HQueue) : (s.setHq q x).blanks = s.blanks := rfl
@[simp] theorem State.setHq_windows (q : Nat) (x : HQueue) : (s.setHq q x).windows = s.windows := rfl
@[simp] theorem State.setHq_groups (q : Nat) (x : HQueue) : (s.setHq q x).groups = s.groups := rfl
@[simp] theorem State.setHq_evtFire (q : Nat) (x : HQueue) : (s.setHq q x).evtFire = s.evtFire := rfl
@[simp] theorem State.setHq_tones (q : Nat) (x : HQueue) : (s.setHq q x).tones = s.tones := rfl
@[simp] theorem State.setHq_mills (q : Nat) (x : HQueue) : (s.setHq q x).mills = s.mills := rfl
@[simp] theorem State.setHq_dieTemps (q : Nat) (x : HQueue) : (s.setHq q x).dieTemps = s.dieTemps := rfl
@[simp] theorem State.setHq_sails (q : Nat) (x : HQueue) : (s.setHq q x).sails = s.sails := rfl
@[simp] theorem State.setHq_sailCal (q : Nat) (x : HQueue) : (s.setHq q x).sailCal = s.sailCal := rfl
@[simp] theorem State.setHq_grids (q : Nat) (x : HQueue) : (s.setHq q x).grids = s.grids := rfl
@[simp] theorem State.setHq_streams (q : Nat) (x : HQueue) : (s.setHq q x).streams = s.streams := rfl
@[simp] theorem State.setHq_leat (q : Nat) (x : HQueue) : (s.setHq q x).leat = s.leat := rfl
@[simp] theorem State.setHq_svc (q : Nat) (x : HQueue) : (s.setHq q x).svc = s.svc := rfl
@[simp] theorem State.setHq_twin (q : Nat) (x : HQueue) : (s.setHq q x).twin = s.twin := rfl
@[simp] theorem State.setHq_inputs (q : Nat) (x : HQueue) : (s.setHq q x).inputs = s.inputs := rfl
@[simp] theorem State.setHq_cmps (q : Nat) (x : HQueue) : (s.setHq q x).cmps = s.cmps := rfl
@[simp] theorem State.setHq_trips (q : Nat) (x : HQueue) : (s.setHq q x).trips = s.trips := rfl
@[simp] theorem State.setHq_scrims (q : Nat) (x : HQueue) : (s.setHq q x).scrims = s.scrims := rfl
@[simp] theorem State.setHq_safeOn (q : Nat) (x : HQueue) : (s.setHq q x).safeOn = s.safeOn := rfl
@[simp] theorem State.setHq_safeTicks (q : Nat) (x : HQueue) : (s.setHq q x).safeTicks = s.safeTicks := rfl
@[simp] theorem State.setHq_log (q : Nat) (x : HQueue) : (s.setHq q x).log = s.log := rfl
@[simp] theorem State.setHq_flash (q : Nat) (x : HQueue) : (s.setHq q x).flash = s.flash := rfl
@[simp] theorem State.setHq_power (q : Nat) (x : HQueue) : (s.setHq q x).power = s.power := rfl
@[simp] theorem State.setHq_pins (q : Nat) (x : HQueue) : (s.setHq q x).pins = s.pins := rfl
@[simp] theorem State.setHq_freeCtr (q : Nat) (x : HQueue) : (s.setHq q x).freeCtr = s.freeCtr := rfl
@[simp] theorem State.setHq_pending (q : Nat) (x : HQueue) : (s.setHq q x).pending = s.pending := rfl

@[simp] theorem State.setPort_dict (p : Nat) (x : LPort) : (s.setPort p x).dict = s.dict := rfl
@[simp] theorem State.setPort_blobs (p : Nat) (x : LPort) : (s.setPort p x).blobs = s.blobs := rfl
@[simp] theorem State.setPort_gov (p : Nat) (x : LPort) : (s.setPort p x).gov = s.gov := rfl
@[simp] theorem State.setPort_chans (p : Nat) (x : LPort) : (s.setPort p x).chans = s.chans := rfl
@[simp] theorem State.setPort_xports (p : Nat) (x : LPort) : (s.setPort p x).xports = s.xports := rfl
@[simp] theorem State.setPort_orders (p : Nat) (x : LPort) : (s.setPort p x).orders = s.orders := rfl
@[simp] theorem State.setPort_blanks (p : Nat) (x : LPort) : (s.setPort p x).blanks = s.blanks := rfl
@[simp] theorem State.setPort_windows (p : Nat) (x : LPort) : (s.setPort p x).windows = s.windows := rfl
@[simp] theorem State.setPort_groups (p : Nat) (x : LPort) : (s.setPort p x).groups = s.groups := rfl
@[simp] theorem State.setPort_evtFire (p : Nat) (x : LPort) : (s.setPort p x).evtFire = s.evtFire := rfl
@[simp] theorem State.setPort_tones (p : Nat) (x : LPort) : (s.setPort p x).tones = s.tones := rfl
@[simp] theorem State.setPort_mills (p : Nat) (x : LPort) : (s.setPort p x).mills = s.mills := rfl
@[simp] theorem State.setPort_dieTemps (p : Nat) (x : LPort) : (s.setPort p x).dieTemps = s.dieTemps := rfl
@[simp] theorem State.setPort_sails (p : Nat) (x : LPort) : (s.setPort p x).sails = s.sails := rfl
@[simp] theorem State.setPort_sailCal (p : Nat) (x : LPort) : (s.setPort p x).sailCal = s.sailCal := rfl
@[simp] theorem State.setPort_grids (p : Nat) (x : LPort) : (s.setPort p x).grids = s.grids := rfl
@[simp] theorem State.setPort_streams (p : Nat) (x : LPort) : (s.setPort p x).streams = s.streams := rfl
@[simp] theorem State.setPort_hop (p : Nat) (x : LPort) : (s.setPort p x).hop = s.hop := rfl
@[simp] theorem State.setPort_svc (p : Nat) (x : LPort) : (s.setPort p x).svc = s.svc := rfl
@[simp] theorem State.setPort_twin (p : Nat) (x : LPort) : (s.setPort p x).twin = s.twin := rfl
@[simp] theorem State.setPort_inputs (p : Nat) (x : LPort) : (s.setPort p x).inputs = s.inputs := rfl
@[simp] theorem State.setPort_cmps (p : Nat) (x : LPort) : (s.setPort p x).cmps = s.cmps := rfl
@[simp] theorem State.setPort_trips (p : Nat) (x : LPort) : (s.setPort p x).trips = s.trips := rfl
@[simp] theorem State.setPort_scrims (p : Nat) (x : LPort) : (s.setPort p x).scrims = s.scrims := rfl
@[simp] theorem State.setPort_safeOn (p : Nat) (x : LPort) : (s.setPort p x).safeOn = s.safeOn := rfl
@[simp] theorem State.setPort_safeTicks (p : Nat) (x : LPort) : (s.setPort p x).safeTicks = s.safeTicks := rfl
@[simp] theorem State.setPort_log (p : Nat) (x : LPort) : (s.setPort p x).log = s.log := rfl
@[simp] theorem State.setPort_flash (p : Nat) (x : LPort) : (s.setPort p x).flash = s.flash := rfl
@[simp] theorem State.setPort_power (p : Nat) (x : LPort) : (s.setPort p x).power = s.power := rfl
@[simp] theorem State.setPort_pins (p : Nat) (x : LPort) : (s.setPort p x).pins = s.pins := rfl
@[simp] theorem State.setPort_freeCtr (p : Nat) (x : LPort) : (s.setPort p x).freeCtr = s.freeCtr := rfl
@[simp] theorem State.setPort_pending (p : Nat) (x : LPort) : (s.setPort p x).pending = s.pending := rfl

@[simp] theorem State.setDom_dict (d : Nat) (x : Dom) : (s.setDom d x).dict = s.dict := rfl
@[simp] theorem State.setDom_blobs (d : Nat) (x : Dom) : (s.setDom d x).blobs = s.blobs := rfl
@[simp] theorem State.setDom_chans (d : Nat) (x : Dom) : (s.setDom d x).chans = s.chans := rfl
@[simp] theorem State.setDom_xports (d : Nat) (x : Dom) : (s.setDom d x).xports = s.xports := rfl
@[simp] theorem State.setDom_orders (d : Nat) (x : Dom) : (s.setDom d x).orders = s.orders := rfl
@[simp] theorem State.setDom_blanks (d : Nat) (x : Dom) : (s.setDom d x).blanks = s.blanks := rfl
@[simp] theorem State.setDom_windows (d : Nat) (x : Dom) : (s.setDom d x).windows = s.windows := rfl
@[simp] theorem State.setDom_groups (d : Nat) (x : Dom) : (s.setDom d x).groups = s.groups := rfl
@[simp] theorem State.setDom_evtFire (d : Nat) (x : Dom) : (s.setDom d x).evtFire = s.evtFire := rfl
@[simp] theorem State.setDom_tones (d : Nat) (x : Dom) : (s.setDom d x).tones = s.tones := rfl
@[simp] theorem State.setDom_mills (d : Nat) (x : Dom) : (s.setDom d x).mills = s.mills := rfl
@[simp] theorem State.setDom_dieTemps (d : Nat) (x : Dom) : (s.setDom d x).dieTemps = s.dieTemps := rfl
@[simp] theorem State.setDom_sails (d : Nat) (x : Dom) : (s.setDom d x).sails = s.sails := rfl
@[simp] theorem State.setDom_sailCal (d : Nat) (x : Dom) : (s.setDom d x).sailCal = s.sailCal := rfl
@[simp] theorem State.setDom_grids (d : Nat) (x : Dom) : (s.setDom d x).grids = s.grids := rfl
@[simp] theorem State.setDom_streams (d : Nat) (x : Dom) : (s.setDom d x).streams = s.streams := rfl
@[simp] theorem State.setDom_hop (d : Nat) (x : Dom) : (s.setDom d x).hop = s.hop := rfl
@[simp] theorem State.setDom_leat (d : Nat) (x : Dom) : (s.setDom d x).leat = s.leat := rfl
@[simp] theorem State.setDom_svc (d : Nat) (x : Dom) : (s.setDom d x).svc = s.svc := rfl
@[simp] theorem State.setDom_twin (d : Nat) (x : Dom) : (s.setDom d x).twin = s.twin := rfl
@[simp] theorem State.setDom_inputs (d : Nat) (x : Dom) : (s.setDom d x).inputs = s.inputs := rfl
@[simp] theorem State.setDom_cmps (d : Nat) (x : Dom) : (s.setDom d x).cmps = s.cmps := rfl
@[simp] theorem State.setDom_trips (d : Nat) (x : Dom) : (s.setDom d x).trips = s.trips := rfl
@[simp] theorem State.setDom_scrims (d : Nat) (x : Dom) : (s.setDom d x).scrims = s.scrims := rfl
@[simp] theorem State.setDom_safeOn (d : Nat) (x : Dom) : (s.setDom d x).safeOn = s.safeOn := rfl
@[simp] theorem State.setDom_safeTicks (d : Nat) (x : Dom) : (s.setDom d x).safeTicks = s.safeTicks := rfl
@[simp] theorem State.setDom_log (d : Nat) (x : Dom) : (s.setDom d x).log = s.log := rfl
@[simp] theorem State.setDom_flash (d : Nat) (x : Dom) : (s.setDom d x).flash = s.flash := rfl
@[simp] theorem State.setDom_power (d : Nat) (x : Dom) : (s.setDom d x).power = s.power := rfl
@[simp] theorem State.setDom_pins (d : Nat) (x : Dom) : (s.setDom d x).pins = s.pins := rfl
@[simp] theorem State.setDom_freeCtr (d : Nat) (x : Dom) : (s.setDom d x).freeCtr = s.freeCtr := rfl
@[simp] theorem State.setDom_pending (d : Nat) (x : Dom) : (s.setDom d x).pending = s.pending := rfl

@[simp] theorem State.setTone_dict (d : Nat) (x : Tone) : (s.setTone d x).dict = s.dict := rfl
@[simp] theorem State.setTone_blobs (d : Nat) (x : Tone) : (s.setTone d x).blobs = s.blobs := rfl
@[simp] theorem State.setTone_gov (d : Nat) (x : Tone) : (s.setTone d x).gov = s.gov := rfl
@[simp] theorem State.setTone_chans (d : Nat) (x : Tone) : (s.setTone d x).chans = s.chans := rfl
@[simp] theorem State.setTone_xports (d : Nat) (x : Tone) : (s.setTone d x).xports = s.xports := rfl
@[simp] theorem State.setTone_orders (d : Nat) (x : Tone) : (s.setTone d x).orders = s.orders := rfl
@[simp] theorem State.setTone_blanks (d : Nat) (x : Tone) : (s.setTone d x).blanks = s.blanks := rfl
@[simp] theorem State.setTone_windows (d : Nat) (x : Tone) : (s.setTone d x).windows = s.windows := rfl
@[simp] theorem State.setTone_groups (d : Nat) (x : Tone) : (s.setTone d x).groups = s.groups := rfl
@[simp] theorem State.setTone_evtFire (d : Nat) (x : Tone) : (s.setTone d x).evtFire = s.evtFire := rfl
@[simp] theorem State.setTone_mills (d : Nat) (x : Tone) : (s.setTone d x).mills = s.mills := rfl
@[simp] theorem State.setTone_dieTemps (d : Nat) (x : Tone) : (s.setTone d x).dieTemps = s.dieTemps := rfl
@[simp] theorem State.setTone_sails (d : Nat) (x : Tone) : (s.setTone d x).sails = s.sails := rfl
@[simp] theorem State.setTone_sailCal (d : Nat) (x : Tone) : (s.setTone d x).sailCal = s.sailCal := rfl
@[simp] theorem State.setTone_grids (d : Nat) (x : Tone) : (s.setTone d x).grids = s.grids := rfl
@[simp] theorem State.setTone_streams (d : Nat) (x : Tone) : (s.setTone d x).streams = s.streams := rfl
@[simp] theorem State.setTone_hop (d : Nat) (x : Tone) : (s.setTone d x).hop = s.hop := rfl
@[simp] theorem State.setTone_leat (d : Nat) (x : Tone) : (s.setTone d x).leat = s.leat := rfl
@[simp] theorem State.setTone_svc (d : Nat) (x : Tone) : (s.setTone d x).svc = s.svc := rfl
@[simp] theorem State.setTone_twin (d : Nat) (x : Tone) : (s.setTone d x).twin = s.twin := rfl
@[simp] theorem State.setTone_inputs (d : Nat) (x : Tone) : (s.setTone d x).inputs = s.inputs := rfl
@[simp] theorem State.setTone_cmps (d : Nat) (x : Tone) : (s.setTone d x).cmps = s.cmps := rfl
@[simp] theorem State.setTone_trips (d : Nat) (x : Tone) : (s.setTone d x).trips = s.trips := rfl
@[simp] theorem State.setTone_scrims (d : Nat) (x : Tone) : (s.setTone d x).scrims = s.scrims := rfl
@[simp] theorem State.setTone_safeOn (d : Nat) (x : Tone) : (s.setTone d x).safeOn = s.safeOn := rfl
@[simp] theorem State.setTone_safeTicks (d : Nat) (x : Tone) : (s.setTone d x).safeTicks = s.safeTicks := rfl
@[simp] theorem State.setTone_log (d : Nat) (x : Tone) : (s.setTone d x).log = s.log := rfl
@[simp] theorem State.setTone_flash (d : Nat) (x : Tone) : (s.setTone d x).flash = s.flash := rfl
@[simp] theorem State.setTone_power (d : Nat) (x : Tone) : (s.setTone d x).power = s.power := rfl
@[simp] theorem State.setTone_pins (d : Nat) (x : Tone) : (s.setTone d x).pins = s.pins := rfl
@[simp] theorem State.setTone_freeCtr (d : Nat) (x : Tone) : (s.setTone d x).freeCtr = s.freeCtr := rfl
@[simp] theorem State.setTone_pending (d : Nat) (x : Tone) : (s.setTone d x).pending = s.pending := rfl

@[simp] theorem State.setInput_dict (i : Nat) (x : SafeIn) : (s.setInput i x).dict = s.dict := rfl
@[simp] theorem State.setInput_blobs (i : Nat) (x : SafeIn) : (s.setInput i x).blobs = s.blobs := rfl
@[simp] theorem State.setInput_gov (i : Nat) (x : SafeIn) : (s.setInput i x).gov = s.gov := rfl
@[simp] theorem State.setInput_chans (i : Nat) (x : SafeIn) : (s.setInput i x).chans = s.chans := rfl
@[simp] theorem State.setInput_xports (i : Nat) (x : SafeIn) : (s.setInput i x).xports = s.xports := rfl
@[simp] theorem State.setInput_orders (i : Nat) (x : SafeIn) : (s.setInput i x).orders = s.orders := rfl
@[simp] theorem State.setInput_blanks (i : Nat) (x : SafeIn) : (s.setInput i x).blanks = s.blanks := rfl
@[simp] theorem State.setInput_windows (i : Nat) (x : SafeIn) : (s.setInput i x).windows = s.windows := rfl
@[simp] theorem State.setInput_groups (i : Nat) (x : SafeIn) : (s.setInput i x).groups = s.groups := rfl
@[simp] theorem State.setInput_evtFire (i : Nat) (x : SafeIn) : (s.setInput i x).evtFire = s.evtFire := rfl
@[simp] theorem State.setInput_tones (i : Nat) (x : SafeIn) : (s.setInput i x).tones = s.tones := rfl
@[simp] theorem State.setInput_mills (i : Nat) (x : SafeIn) : (s.setInput i x).mills = s.mills := rfl
@[simp] theorem State.setInput_dieTemps (i : Nat) (x : SafeIn) : (s.setInput i x).dieTemps = s.dieTemps := rfl
@[simp] theorem State.setInput_sails (i : Nat) (x : SafeIn) : (s.setInput i x).sails = s.sails := rfl
@[simp] theorem State.setInput_sailCal (i : Nat) (x : SafeIn) : (s.setInput i x).sailCal = s.sailCal := rfl
@[simp] theorem State.setInput_grids (i : Nat) (x : SafeIn) : (s.setInput i x).grids = s.grids := rfl
@[simp] theorem State.setInput_streams (i : Nat) (x : SafeIn) : (s.setInput i x).streams = s.streams := rfl
@[simp] theorem State.setInput_hop (i : Nat) (x : SafeIn) : (s.setInput i x).hop = s.hop := rfl
@[simp] theorem State.setInput_leat (i : Nat) (x : SafeIn) : (s.setInput i x).leat = s.leat := rfl
@[simp] theorem State.setInput_svc (i : Nat) (x : SafeIn) : (s.setInput i x).svc = s.svc := rfl
@[simp] theorem State.setInput_twin (i : Nat) (x : SafeIn) : (s.setInput i x).twin = s.twin := rfl
@[simp] theorem State.setInput_cmps (i : Nat) (x : SafeIn) : (s.setInput i x).cmps = s.cmps := rfl
@[simp] theorem State.setInput_trips (i : Nat) (x : SafeIn) : (s.setInput i x).trips = s.trips := rfl
@[simp] theorem State.setInput_scrims (i : Nat) (x : SafeIn) : (s.setInput i x).scrims = s.scrims := rfl
@[simp] theorem State.setInput_safeOn (i : Nat) (x : SafeIn) : (s.setInput i x).safeOn = s.safeOn := rfl
@[simp] theorem State.setInput_safeTicks (i : Nat) (x : SafeIn) : (s.setInput i x).safeTicks = s.safeTicks := rfl
@[simp] theorem State.setInput_log (i : Nat) (x : SafeIn) : (s.setInput i x).log = s.log := rfl
@[simp] theorem State.setInput_flash (i : Nat) (x : SafeIn) : (s.setInput i x).flash = s.flash := rfl
@[simp] theorem State.setInput_power (i : Nat) (x : SafeIn) : (s.setInput i x).power = s.power := rfl
@[simp] theorem State.setInput_pins (i : Nat) (x : SafeIn) : (s.setInput i x).pins = s.pins := rfl
@[simp] theorem State.setInput_freeCtr (i : Nat) (x : SafeIn) : (s.setInput i x).freeCtr = s.freeCtr := rfl
@[simp] theorem State.setInput_pending (i : Nat) (x : SafeIn) : (s.setInput i x).pending = s.pending := rfl

@[simp] theorem State.setCmp_dict (l : Nat) (x : CmpRun) : (s.setCmp l x).dict = s.dict := rfl
@[simp] theorem State.setCmp_blobs (l : Nat) (x : CmpRun) : (s.setCmp l x).blobs = s.blobs := rfl
@[simp] theorem State.setCmp_gov (l : Nat) (x : CmpRun) : (s.setCmp l x).gov = s.gov := rfl
@[simp] theorem State.setCmp_chans (l : Nat) (x : CmpRun) : (s.setCmp l x).chans = s.chans := rfl
@[simp] theorem State.setCmp_xports (l : Nat) (x : CmpRun) : (s.setCmp l x).xports = s.xports := rfl
@[simp] theorem State.setCmp_orders (l : Nat) (x : CmpRun) : (s.setCmp l x).orders = s.orders := rfl
@[simp] theorem State.setCmp_blanks (l : Nat) (x : CmpRun) : (s.setCmp l x).blanks = s.blanks := rfl
@[simp] theorem State.setCmp_windows (l : Nat) (x : CmpRun) : (s.setCmp l x).windows = s.windows := rfl
@[simp] theorem State.setCmp_groups (l : Nat) (x : CmpRun) : (s.setCmp l x).groups = s.groups := rfl
@[simp] theorem State.setCmp_evtFire (l : Nat) (x : CmpRun) : (s.setCmp l x).evtFire = s.evtFire := rfl
@[simp] theorem State.setCmp_tones (l : Nat) (x : CmpRun) : (s.setCmp l x).tones = s.tones := rfl
@[simp] theorem State.setCmp_mills (l : Nat) (x : CmpRun) : (s.setCmp l x).mills = s.mills := rfl
@[simp] theorem State.setCmp_dieTemps (l : Nat) (x : CmpRun) : (s.setCmp l x).dieTemps = s.dieTemps := rfl
@[simp] theorem State.setCmp_sails (l : Nat) (x : CmpRun) : (s.setCmp l x).sails = s.sails := rfl
@[simp] theorem State.setCmp_sailCal (l : Nat) (x : CmpRun) : (s.setCmp l x).sailCal = s.sailCal := rfl
@[simp] theorem State.setCmp_grids (l : Nat) (x : CmpRun) : (s.setCmp l x).grids = s.grids := rfl
@[simp] theorem State.setCmp_streams (l : Nat) (x : CmpRun) : (s.setCmp l x).streams = s.streams := rfl
@[simp] theorem State.setCmp_hop (l : Nat) (x : CmpRun) : (s.setCmp l x).hop = s.hop := rfl
@[simp] theorem State.setCmp_leat (l : Nat) (x : CmpRun) : (s.setCmp l x).leat = s.leat := rfl
@[simp] theorem State.setCmp_svc (l : Nat) (x : CmpRun) : (s.setCmp l x).svc = s.svc := rfl
@[simp] theorem State.setCmp_twin (l : Nat) (x : CmpRun) : (s.setCmp l x).twin = s.twin := rfl
@[simp] theorem State.setCmp_inputs (l : Nat) (x : CmpRun) : (s.setCmp l x).inputs = s.inputs := rfl
@[simp] theorem State.setCmp_trips (l : Nat) (x : CmpRun) : (s.setCmp l x).trips = s.trips := rfl
@[simp] theorem State.setCmp_scrims (l : Nat) (x : CmpRun) : (s.setCmp l x).scrims = s.scrims := rfl
@[simp] theorem State.setCmp_safeOn (l : Nat) (x : CmpRun) : (s.setCmp l x).safeOn = s.safeOn := rfl
@[simp] theorem State.setCmp_safeTicks (l : Nat) (x : CmpRun) : (s.setCmp l x).safeTicks = s.safeTicks := rfl
@[simp] theorem State.setCmp_log (l : Nat) (x : CmpRun) : (s.setCmp l x).log = s.log := rfl
@[simp] theorem State.setCmp_flash (l : Nat) (x : CmpRun) : (s.setCmp l x).flash = s.flash := rfl
@[simp] theorem State.setCmp_power (l : Nat) (x : CmpRun) : (s.setCmp l x).power = s.power := rfl
@[simp] theorem State.setCmp_pins (l : Nat) (x : CmpRun) : (s.setCmp l x).pins = s.pins := rfl
@[simp] theorem State.setCmp_freeCtr (l : Nat) (x : CmpRun) : (s.setCmp l x).freeCtr = s.freeCtr := rfl
@[simp] theorem State.setCmp_pending (l : Nat) (x : CmpRun) : (s.setCmp l x).pending = s.pending := rfl

@[simp] theorem State.setTrip_dict (n : Nat) (x : TripRun) : (s.setTrip n x).dict = s.dict := rfl
@[simp] theorem State.setTrip_blobs (n : Nat) (x : TripRun) : (s.setTrip n x).blobs = s.blobs := rfl
@[simp] theorem State.setTrip_gov (n : Nat) (x : TripRun) : (s.setTrip n x).gov = s.gov := rfl
@[simp] theorem State.setTrip_chans (n : Nat) (x : TripRun) : (s.setTrip n x).chans = s.chans := rfl
@[simp] theorem State.setTrip_xports (n : Nat) (x : TripRun) : (s.setTrip n x).xports = s.xports := rfl
@[simp] theorem State.setTrip_orders (n : Nat) (x : TripRun) : (s.setTrip n x).orders = s.orders := rfl
@[simp] theorem State.setTrip_blanks (n : Nat) (x : TripRun) : (s.setTrip n x).blanks = s.blanks := rfl
@[simp] theorem State.setTrip_windows (n : Nat) (x : TripRun) : (s.setTrip n x).windows = s.windows := rfl
@[simp] theorem State.setTrip_groups (n : Nat) (x : TripRun) : (s.setTrip n x).groups = s.groups := rfl
@[simp] theorem State.setTrip_evtFire (n : Nat) (x : TripRun) : (s.setTrip n x).evtFire = s.evtFire := rfl
@[simp] theorem State.setTrip_tones (n : Nat) (x : TripRun) : (s.setTrip n x).tones = s.tones := rfl
@[simp] theorem State.setTrip_mills (n : Nat) (x : TripRun) : (s.setTrip n x).mills = s.mills := rfl
@[simp] theorem State.setTrip_dieTemps (n : Nat) (x : TripRun) : (s.setTrip n x).dieTemps = s.dieTemps := rfl
@[simp] theorem State.setTrip_sails (n : Nat) (x : TripRun) : (s.setTrip n x).sails = s.sails := rfl
@[simp] theorem State.setTrip_sailCal (n : Nat) (x : TripRun) : (s.setTrip n x).sailCal = s.sailCal := rfl
@[simp] theorem State.setTrip_grids (n : Nat) (x : TripRun) : (s.setTrip n x).grids = s.grids := rfl
@[simp] theorem State.setTrip_streams (n : Nat) (x : TripRun) : (s.setTrip n x).streams = s.streams := rfl
@[simp] theorem State.setTrip_hop (n : Nat) (x : TripRun) : (s.setTrip n x).hop = s.hop := rfl
@[simp] theorem State.setTrip_leat (n : Nat) (x : TripRun) : (s.setTrip n x).leat = s.leat := rfl
@[simp] theorem State.setTrip_svc (n : Nat) (x : TripRun) : (s.setTrip n x).svc = s.svc := rfl
@[simp] theorem State.setTrip_twin (n : Nat) (x : TripRun) : (s.setTrip n x).twin = s.twin := rfl
@[simp] theorem State.setTrip_inputs (n : Nat) (x : TripRun) : (s.setTrip n x).inputs = s.inputs := rfl
@[simp] theorem State.setTrip_cmps (n : Nat) (x : TripRun) : (s.setTrip n x).cmps = s.cmps := rfl
@[simp] theorem State.setTrip_scrims (n : Nat) (x : TripRun) : (s.setTrip n x).scrims = s.scrims := rfl
@[simp] theorem State.setTrip_safeOn (n : Nat) (x : TripRun) : (s.setTrip n x).safeOn = s.safeOn := rfl
@[simp] theorem State.setTrip_safeTicks (n : Nat) (x : TripRun) : (s.setTrip n x).safeTicks = s.safeTicks := rfl
@[simp] theorem State.setTrip_log (n : Nat) (x : TripRun) : (s.setTrip n x).log = s.log := rfl
@[simp] theorem State.setTrip_flash (n : Nat) (x : TripRun) : (s.setTrip n x).flash = s.flash := rfl
@[simp] theorem State.setTrip_power (n : Nat) (x : TripRun) : (s.setTrip n x).power = s.power := rfl
@[simp] theorem State.setTrip_pins (n : Nat) (x : TripRun) : (s.setTrip n x).pins = s.pins := rfl
@[simp] theorem State.setTrip_freeCtr (n : Nat) (x : TripRun) : (s.setTrip n x).freeCtr = s.freeCtr := rfl
@[simp] theorem State.setTrip_pending (n : Nat) (x : TripRun) : (s.setTrip n x).pending = s.pending := rfl

@[simp] theorem State.setScrim_dict (k : Nat) (x : ScrimRun) : (s.setScrim k x).dict = s.dict := rfl
@[simp] theorem State.setScrim_blobs (k : Nat) (x : ScrimRun) : (s.setScrim k x).blobs = s.blobs := rfl
@[simp] theorem State.setScrim_gov (k : Nat) (x : ScrimRun) : (s.setScrim k x).gov = s.gov := rfl
@[simp] theorem State.setScrim_chans (k : Nat) (x : ScrimRun) : (s.setScrim k x).chans = s.chans := rfl
@[simp] theorem State.setScrim_xports (k : Nat) (x : ScrimRun) : (s.setScrim k x).xports = s.xports := rfl
@[simp] theorem State.setScrim_orders (k : Nat) (x : ScrimRun) : (s.setScrim k x).orders = s.orders := rfl
@[simp] theorem State.setScrim_blanks (k : Nat) (x : ScrimRun) : (s.setScrim k x).blanks = s.blanks := rfl
@[simp] theorem State.setScrim_windows (k : Nat) (x : ScrimRun) : (s.setScrim k x).windows = s.windows := rfl
@[simp] theorem State.setScrim_groups (k : Nat) (x : ScrimRun) : (s.setScrim k x).groups = s.groups := rfl
@[simp] theorem State.setScrim_evtFire (k : Nat) (x : ScrimRun) : (s.setScrim k x).evtFire = s.evtFire := rfl
@[simp] theorem State.setScrim_tones (k : Nat) (x : ScrimRun) : (s.setScrim k x).tones = s.tones := rfl
@[simp] theorem State.setScrim_mills (k : Nat) (x : ScrimRun) : (s.setScrim k x).mills = s.mills := rfl
@[simp] theorem State.setScrim_dieTemps (k : Nat) (x : ScrimRun) : (s.setScrim k x).dieTemps = s.dieTemps := rfl
@[simp] theorem State.setScrim_sails (k : Nat) (x : ScrimRun) : (s.setScrim k x).sails = s.sails := rfl
@[simp] theorem State.setScrim_sailCal (k : Nat) (x : ScrimRun) : (s.setScrim k x).sailCal = s.sailCal := rfl
@[simp] theorem State.setScrim_grids (k : Nat) (x : ScrimRun) : (s.setScrim k x).grids = s.grids := rfl
@[simp] theorem State.setScrim_streams (k : Nat) (x : ScrimRun) : (s.setScrim k x).streams = s.streams := rfl
@[simp] theorem State.setScrim_hop (k : Nat) (x : ScrimRun) : (s.setScrim k x).hop = s.hop := rfl
@[simp] theorem State.setScrim_leat (k : Nat) (x : ScrimRun) : (s.setScrim k x).leat = s.leat := rfl
@[simp] theorem State.setScrim_svc (k : Nat) (x : ScrimRun) : (s.setScrim k x).svc = s.svc := rfl
@[simp] theorem State.setScrim_twin (k : Nat) (x : ScrimRun) : (s.setScrim k x).twin = s.twin := rfl
@[simp] theorem State.setScrim_inputs (k : Nat) (x : ScrimRun) : (s.setScrim k x).inputs = s.inputs := rfl
@[simp] theorem State.setScrim_cmps (k : Nat) (x : ScrimRun) : (s.setScrim k x).cmps = s.cmps := rfl
@[simp] theorem State.setScrim_trips (k : Nat) (x : ScrimRun) : (s.setScrim k x).trips = s.trips := rfl
@[simp] theorem State.setScrim_safeOn (k : Nat) (x : ScrimRun) : (s.setScrim k x).safeOn = s.safeOn := rfl
@[simp] theorem State.setScrim_safeTicks (k : Nat) (x : ScrimRun) : (s.setScrim k x).safeTicks = s.safeTicks := rfl
@[simp] theorem State.setScrim_log (k : Nat) (x : ScrimRun) : (s.setScrim k x).log = s.log := rfl
@[simp] theorem State.setScrim_flash (k : Nat) (x : ScrimRun) : (s.setScrim k x).flash = s.flash := rfl
@[simp] theorem State.setScrim_power (k : Nat) (x : ScrimRun) : (s.setScrim k x).power = s.power := rfl
@[simp] theorem State.setScrim_pins (k : Nat) (x : ScrimRun) : (s.setScrim k x).pins = s.pins := rfl
@[simp] theorem State.setScrim_freeCtr (k : Nat) (x : ScrimRun) : (s.setScrim k x).freeCtr = s.freeCtr := rfl
@[simp] theorem State.setScrim_pending (k : Nat) (x : ScrimRun) : (s.setScrim k x).pending = s.pending := rfl

@[simp] theorem State.setSail_dict (n : Nat) (x : SailRun) : (s.setSail n x).dict = s.dict := rfl
@[simp] theorem State.setSail_blobs (n : Nat) (x : SailRun) : (s.setSail n x).blobs = s.blobs := rfl
@[simp] theorem State.setSail_gov (n : Nat) (x : SailRun) : (s.setSail n x).gov = s.gov := rfl
@[simp] theorem State.setSail_chans (n : Nat) (x : SailRun) : (s.setSail n x).chans = s.chans := rfl
@[simp] theorem State.setSail_xports (n : Nat) (x : SailRun) : (s.setSail n x).xports = s.xports := rfl
@[simp] theorem State.setSail_orders (n : Nat) (x : SailRun) : (s.setSail n x).orders = s.orders := rfl
@[simp] theorem State.setSail_blanks (n : Nat) (x : SailRun) : (s.setSail n x).blanks = s.blanks := rfl
@[simp] theorem State.setSail_windows (n : Nat) (x : SailRun) : (s.setSail n x).windows = s.windows := rfl
@[simp] theorem State.setSail_groups (n : Nat) (x : SailRun) : (s.setSail n x).groups = s.groups := rfl
@[simp] theorem State.setSail_evtFire (n : Nat) (x : SailRun) : (s.setSail n x).evtFire = s.evtFire := rfl
@[simp] theorem State.setSail_tones (n : Nat) (x : SailRun) : (s.setSail n x).tones = s.tones := rfl
@[simp] theorem State.setSail_mills (n : Nat) (x : SailRun) : (s.setSail n x).mills = s.mills := rfl
@[simp] theorem State.setSail_dieTemps (n : Nat) (x : SailRun) : (s.setSail n x).dieTemps = s.dieTemps := rfl
@[simp] theorem State.setSail_sailCal (n : Nat) (x : SailRun) : (s.setSail n x).sailCal = s.sailCal := rfl
@[simp] theorem State.setSail_grids (n : Nat) (x : SailRun) : (s.setSail n x).grids = s.grids := rfl
@[simp] theorem State.setSail_streams (n : Nat) (x : SailRun) : (s.setSail n x).streams = s.streams := rfl
@[simp] theorem State.setSail_hop (n : Nat) (x : SailRun) : (s.setSail n x).hop = s.hop := rfl
@[simp] theorem State.setSail_leat (n : Nat) (x : SailRun) : (s.setSail n x).leat = s.leat := rfl
@[simp] theorem State.setSail_svc (n : Nat) (x : SailRun) : (s.setSail n x).svc = s.svc := rfl
@[simp] theorem State.setSail_twin (n : Nat) (x : SailRun) : (s.setSail n x).twin = s.twin := rfl
@[simp] theorem State.setSail_inputs (n : Nat) (x : SailRun) : (s.setSail n x).inputs = s.inputs := rfl
@[simp] theorem State.setSail_cmps (n : Nat) (x : SailRun) : (s.setSail n x).cmps = s.cmps := rfl
@[simp] theorem State.setSail_trips (n : Nat) (x : SailRun) : (s.setSail n x).trips = s.trips := rfl
@[simp] theorem State.setSail_scrims (n : Nat) (x : SailRun) : (s.setSail n x).scrims = s.scrims := rfl
@[simp] theorem State.setSail_safeOn (n : Nat) (x : SailRun) : (s.setSail n x).safeOn = s.safeOn := rfl
@[simp] theorem State.setSail_safeTicks (n : Nat) (x : SailRun) : (s.setSail n x).safeTicks = s.safeTicks := rfl
@[simp] theorem State.setSail_log (n : Nat) (x : SailRun) : (s.setSail n x).log = s.log := rfl
@[simp] theorem State.setSail_flash (n : Nat) (x : SailRun) : (s.setSail n x).flash = s.flash := rfl
@[simp] theorem State.setSail_power (n : Nat) (x : SailRun) : (s.setSail n x).power = s.power := rfl
@[simp] theorem State.setSail_pins (n : Nat) (x : SailRun) : (s.setSail n x).pins = s.pins := rfl
@[simp] theorem State.setSail_freeCtr (n : Nat) (x : SailRun) : (s.setSail n x).freeCtr = s.freeCtr := rfl
@[simp] theorem State.setSail_pending (n : Nat) (x : SailRun) : (s.setSail n x).pending = s.pending := rfl

@[simp] theorem State.setBlob_dict (k : Nat) (d : List Byte) : (s.setBlob k d).dict = s.dict := rfl
@[simp] theorem State.setBlob_gov (k : Nat) (d : List Byte) : (s.setBlob k d).gov = s.gov := rfl
@[simp] theorem State.setBlob_chans (k : Nat) (d : List Byte) : (s.setBlob k d).chans = s.chans := rfl
@[simp] theorem State.setBlob_xports (k : Nat) (d : List Byte) : (s.setBlob k d).xports = s.xports := rfl
@[simp] theorem State.setBlob_orders (k : Nat) (d : List Byte) : (s.setBlob k d).orders = s.orders := rfl
@[simp] theorem State.setBlob_blanks (k : Nat) (d : List Byte) : (s.setBlob k d).blanks = s.blanks := rfl
@[simp] theorem State.setBlob_windows (k : Nat) (d : List Byte) : (s.setBlob k d).windows = s.windows := rfl
@[simp] theorem State.setBlob_groups (k : Nat) (d : List Byte) : (s.setBlob k d).groups = s.groups := rfl
@[simp] theorem State.setBlob_evtFire (k : Nat) (d : List Byte) : (s.setBlob k d).evtFire = s.evtFire := rfl
@[simp] theorem State.setBlob_tones (k : Nat) (d : List Byte) : (s.setBlob k d).tones = s.tones := rfl
@[simp] theorem State.setBlob_mills (k : Nat) (d : List Byte) : (s.setBlob k d).mills = s.mills := rfl
@[simp] theorem State.setBlob_dieTemps (k : Nat) (d : List Byte) : (s.setBlob k d).dieTemps = s.dieTemps := rfl
@[simp] theorem State.setBlob_sails (k : Nat) (d : List Byte) : (s.setBlob k d).sails = s.sails := rfl
@[simp] theorem State.setBlob_sailCal (k : Nat) (d : List Byte) : (s.setBlob k d).sailCal = s.sailCal := rfl
@[simp] theorem State.setBlob_grids (k : Nat) (d : List Byte) : (s.setBlob k d).grids = s.grids := rfl
@[simp] theorem State.setBlob_streams (k : Nat) (d : List Byte) : (s.setBlob k d).streams = s.streams := rfl
@[simp] theorem State.setBlob_hop (k : Nat) (d : List Byte) : (s.setBlob k d).hop = s.hop := rfl
@[simp] theorem State.setBlob_leat (k : Nat) (d : List Byte) : (s.setBlob k d).leat = s.leat := rfl
@[simp] theorem State.setBlob_svc (k : Nat) (d : List Byte) : (s.setBlob k d).svc = s.svc := rfl
@[simp] theorem State.setBlob_twin (k : Nat) (d : List Byte) : (s.setBlob k d).twin = s.twin := rfl
@[simp] theorem State.setBlob_inputs (k : Nat) (d : List Byte) : (s.setBlob k d).inputs = s.inputs := rfl
@[simp] theorem State.setBlob_cmps (k : Nat) (d : List Byte) : (s.setBlob k d).cmps = s.cmps := rfl
@[simp] theorem State.setBlob_trips (k : Nat) (d : List Byte) : (s.setBlob k d).trips = s.trips := rfl
@[simp] theorem State.setBlob_scrims (k : Nat) (d : List Byte) : (s.setBlob k d).scrims = s.scrims := rfl
@[simp] theorem State.setBlob_safeOn (k : Nat) (d : List Byte) : (s.setBlob k d).safeOn = s.safeOn := rfl
@[simp] theorem State.setBlob_safeTicks (k : Nat) (d : List Byte) : (s.setBlob k d).safeTicks = s.safeTicks := rfl
@[simp] theorem State.setBlob_log (k : Nat) (d : List Byte) : (s.setBlob k d).log = s.log := rfl
@[simp] theorem State.setBlob_flash (k : Nat) (d : List Byte) : (s.setBlob k d).flash = s.flash := rfl
@[simp] theorem State.setBlob_power (k : Nat) (d : List Byte) : (s.setBlob k d).power = s.power := rfl
@[simp] theorem State.setBlob_pins (k : Nat) (d : List Byte) : (s.setBlob k d).pins = s.pins := rfl
@[simp] theorem State.setBlob_freeCtr (k : Nat) (d : List Byte) : (s.setBlob k d).freeCtr = s.freeCtr := rfl
@[simp] theorem State.setBlob_pending (k : Nat) (d : List Byte) : (s.setBlob k d).pending = s.pending := rfl

@[simp] theorem State.setTrans_dict (t : Transition) : (s.setTrans t).dict = s.dict := rfl
@[simp] theorem State.setTrans_blobs (t : Transition) : (s.setTrans t).blobs = s.blobs := rfl
@[simp] theorem State.setTrans_gov (t : Transition) : (s.setTrans t).gov = s.gov := rfl
@[simp] theorem State.setTrans_chans (t : Transition) : (s.setTrans t).chans = s.chans := rfl
@[simp] theorem State.setTrans_xports (t : Transition) : (s.setTrans t).xports = s.xports := rfl
@[simp] theorem State.setTrans_orders (t : Transition) : (s.setTrans t).orders = s.orders := rfl
@[simp] theorem State.setTrans_blanks (t : Transition) : (s.setTrans t).blanks = s.blanks := rfl
@[simp] theorem State.setTrans_windows (t : Transition) : (s.setTrans t).windows = s.windows := rfl
@[simp] theorem State.setTrans_groups (t : Transition) : (s.setTrans t).groups = s.groups := rfl
@[simp] theorem State.setTrans_evtFire (t : Transition) : (s.setTrans t).evtFire = s.evtFire := rfl
@[simp] theorem State.setTrans_tones (t : Transition) : (s.setTrans t).tones = s.tones := rfl
@[simp] theorem State.setTrans_mills (t : Transition) : (s.setTrans t).mills = s.mills := rfl
@[simp] theorem State.setTrans_dieTemps (t : Transition) : (s.setTrans t).dieTemps = s.dieTemps := rfl
@[simp] theorem State.setTrans_sails (t : Transition) : (s.setTrans t).sails = s.sails := rfl
@[simp] theorem State.setTrans_sailCal (t : Transition) : (s.setTrans t).sailCal = s.sailCal := rfl
@[simp] theorem State.setTrans_grids (t : Transition) : (s.setTrans t).grids = s.grids := rfl
@[simp] theorem State.setTrans_streams (t : Transition) : (s.setTrans t).streams = s.streams := rfl
@[simp] theorem State.setTrans_hop (t : Transition) : (s.setTrans t).hop = s.hop := rfl
@[simp] theorem State.setTrans_leat (t : Transition) : (s.setTrans t).leat = s.leat := rfl
@[simp] theorem State.setTrans_svc (t : Transition) : (s.setTrans t).svc = s.svc := rfl
@[simp] theorem State.setTrans_twin (t : Transition) : (s.setTrans t).twin = s.twin := rfl
@[simp] theorem State.setTrans_inputs (t : Transition) : (s.setTrans t).inputs = s.inputs := rfl
@[simp] theorem State.setTrans_cmps (t : Transition) : (s.setTrans t).cmps = s.cmps := rfl
@[simp] theorem State.setTrans_trips (t : Transition) : (s.setTrans t).trips = s.trips := rfl
@[simp] theorem State.setTrans_scrims (t : Transition) : (s.setTrans t).scrims = s.scrims := rfl
@[simp] theorem State.setTrans_safeOn (t : Transition) : (s.setTrans t).safeOn = s.safeOn := rfl
@[simp] theorem State.setTrans_safeTicks (t : Transition) : (s.setTrans t).safeTicks = s.safeTicks := rfl
@[simp] theorem State.setTrans_log (t : Transition) : (s.setTrans t).log = s.log := rfl
@[simp] theorem State.setTrans_flash (t : Transition) : (s.setTrans t).flash = s.flash := rfl
@[simp] theorem State.setTrans_pins (t : Transition) : (s.setTrans t).pins = s.pins := rfl
@[simp] theorem State.setTrans_freeCtr (t : Transition) : (s.setTrans t).freeCtr = s.freeCtr := rfl
@[simp] theorem State.setTrans_pending (t : Transition) : (s.setTrans t).pending = s.pending := rfl

@[simp] theorem State.setTxns_blobs (l : List (Nat × Txn)) : (s.setTxns l).blobs = s.blobs := rfl
@[simp] theorem State.setTxns_gov (l : List (Nat × Txn)) : (s.setTxns l).gov = s.gov := rfl
@[simp] theorem State.setTxns_chans (l : List (Nat × Txn)) : (s.setTxns l).chans = s.chans := rfl
@[simp] theorem State.setTxns_xports (l : List (Nat × Txn)) : (s.setTxns l).xports = s.xports := rfl
@[simp] theorem State.setTxns_orders (l : List (Nat × Txn)) : (s.setTxns l).orders = s.orders := rfl
@[simp] theorem State.setTxns_blanks (l : List (Nat × Txn)) : (s.setTxns l).blanks = s.blanks := rfl
@[simp] theorem State.setTxns_windows (l : List (Nat × Txn)) : (s.setTxns l).windows = s.windows := rfl
@[simp] theorem State.setTxns_groups (l : List (Nat × Txn)) : (s.setTxns l).groups = s.groups := rfl
@[simp] theorem State.setTxns_evtFire (l : List (Nat × Txn)) : (s.setTxns l).evtFire = s.evtFire := rfl
@[simp] theorem State.setTxns_tones (l : List (Nat × Txn)) : (s.setTxns l).tones = s.tones := rfl
@[simp] theorem State.setTxns_mills (l : List (Nat × Txn)) : (s.setTxns l).mills = s.mills := rfl
@[simp] theorem State.setTxns_dieTemps (l : List (Nat × Txn)) : (s.setTxns l).dieTemps = s.dieTemps := rfl
@[simp] theorem State.setTxns_sails (l : List (Nat × Txn)) : (s.setTxns l).sails = s.sails := rfl
@[simp] theorem State.setTxns_sailCal (l : List (Nat × Txn)) : (s.setTxns l).sailCal = s.sailCal := rfl
@[simp] theorem State.setTxns_grids (l : List (Nat × Txn)) : (s.setTxns l).grids = s.grids := rfl
@[simp] theorem State.setTxns_streams (l : List (Nat × Txn)) : (s.setTxns l).streams = s.streams := rfl
@[simp] theorem State.setTxns_hop (l : List (Nat × Txn)) : (s.setTxns l).hop = s.hop := rfl
@[simp] theorem State.setTxns_leat (l : List (Nat × Txn)) : (s.setTxns l).leat = s.leat := rfl
@[simp] theorem State.setTxns_twin (l : List (Nat × Txn)) : (s.setTxns l).twin = s.twin := rfl
@[simp] theorem State.setTxns_inputs (l : List (Nat × Txn)) : (s.setTxns l).inputs = s.inputs := rfl
@[simp] theorem State.setTxns_cmps (l : List (Nat × Txn)) : (s.setTxns l).cmps = s.cmps := rfl
@[simp] theorem State.setTxns_trips (l : List (Nat × Txn)) : (s.setTxns l).trips = s.trips := rfl
@[simp] theorem State.setTxns_scrims (l : List (Nat × Txn)) : (s.setTxns l).scrims = s.scrims := rfl
@[simp] theorem State.setTxns_safeOn (l : List (Nat × Txn)) : (s.setTxns l).safeOn = s.safeOn := rfl
@[simp] theorem State.setTxns_safeTicks (l : List (Nat × Txn)) : (s.setTxns l).safeTicks = s.safeTicks := rfl
@[simp] theorem State.setTxns_log (l : List (Nat × Txn)) : (s.setTxns l).log = s.log := rfl
@[simp] theorem State.setTxns_flash (l : List (Nat × Txn)) : (s.setTxns l).flash = s.flash := rfl
@[simp] theorem State.setTxns_power (l : List (Nat × Txn)) : (s.setTxns l).power = s.power := rfl
@[simp] theorem State.setTxns_pins (l : List (Nat × Txn)) : (s.setTxns l).pins = s.pins := rfl
@[simp] theorem State.setTxns_freeCtr (l : List (Nat × Txn)) : (s.setTxns l).freeCtr = s.freeCtr := rfl
@[simp] theorem State.setTxns_pending (l : List (Nat × Txn)) : (s.setTxns l).pending = s.pending := rfl

/-! ### Entries -/

@[simp] theorem State.fresh_e (k l : Nat) : (s.fresh ).e k l = s.e k l := rfl
@[simp] theorem State.setChan_e (c : Nat) (x : Chan) (k l : Nat) : (s.setChan c x).e k l = s.e k l := rfl
@[simp] theorem State.setXport_e (g : Nat) (x : XPort) (k l : Nat) : (s.setXport g x).e k l = s.e k l := rfl
@[simp] theorem State.setGroup_e (g : Nat) (x : Group) (k l : Nat) : (s.setGroup g x).e k l = s.e k l := rfl
@[simp] theorem State.setMill_e (c : Nat) (x : Mill) (k l : Nat) : (s.setMill c x).e k l = s.e k l := rfl
@[simp] theorem State.setGrid_e (a : Nat) (x : Grid) (k l : Nat) : (s.setGrid a x).e k l = s.e k l := rfl
@[simp] theorem State.setStream_e (n : Nat) (x : Stream) (k l : Nat) : (s.setStream n x).e k l = s.e k l := rfl
@[simp] theorem State.setHq_e (q : Nat) (x : HQueue) (k l : Nat) : (s.setHq q x).e k l = s.e k l := rfl
@[simp] theorem State.setPort_e (p : Nat) (x : LPort) (k l : Nat) : (s.setPort p x).e k l = s.e k l := rfl
@[simp] theorem State.setDom_e (d : Nat) (x : Dom) (k l : Nat) : (s.setDom d x).e k l = s.e k l := rfl
@[simp] theorem State.setTone_e (d : Nat) (x : Tone) (k l : Nat) : (s.setTone d x).e k l = s.e k l := rfl
@[simp] theorem State.setInput_e (i : Nat) (x : SafeIn) (k l : Nat) : (s.setInput i x).e k l = s.e k l := rfl
@[simp] theorem State.setCmp_e (l : Nat) (x : CmpRun) (i j : Nat) : (s.setCmp l x).e i j = s.e i j := rfl
@[simp] theorem State.setTrip_e (n : Nat) (x : TripRun) (k l : Nat) : (s.setTrip n x).e k l = s.e k l := rfl
@[simp] theorem State.setScrim_e (k : Nat) (x : ScrimRun) (i j : Nat) : (s.setScrim k x).e i j = s.e i j := rfl
@[simp] theorem State.setSail_e (n : Nat) (x : SailRun) (k l : Nat) : (s.setSail n x).e k l = s.e k l := rfl
@[simp] theorem State.setBlob_e (k : Nat) (d : List Byte) (i j : Nat) : (s.setBlob k d).e i j = s.e i j := rfl
@[simp] theorem State.setTrans_e (t : Transition) (k l : Nat) : (s.setTrans t).e k l = s.e k l := rfl

/-! ### Resources -/

@[simp] theorem State.setE_chan (i j v : Nat) (m : Nat) : (s.setE i j v).chan m = s.chan m := rfl
@[simp] theorem State.setE_xport (i j v : Nat) (m : Nat) : (s.setE i j v).xport m = s.xport m := rfl
@[simp] theorem State.setE_group (i j v : Nat) (m : Nat) : (s.setE i j v).group m = s.group m := rfl
@[simp] theorem State.setE_mill (i j v : Nat) (m : Nat) : (s.setE i j v).mill m = s.mill m := rfl
@[simp] theorem State.setE_grid (i j v : Nat) (m : Nat) : (s.setE i j v).grid m = s.grid m := rfl
@[simp] theorem State.setE_stream (i j v : Nat) (m : Nat) : (s.setE i j v).stream m = s.stream m := rfl
@[simp] theorem State.setE_hq (i j v : Nat) (m : Nat) : (s.setE i j v).hq m = s.hq m := rfl
@[simp] theorem State.setE_port (i j v : Nat) (m : Nat) : (s.setE i j v).port m = s.port m := rfl
@[simp] theorem State.setE_dom (i j v : Nat) (m : Nat) : (s.setE i j v).dom m = s.dom m := rfl
@[simp] theorem State.setE_tone (i j v : Nat) (m : Nat) : (s.setE i j v).tone m = s.tone m := rfl
@[simp] theorem State.setE_input (i j v : Nat) (m : Nat) : (s.setE i j v).input m = s.input m := rfl
@[simp] theorem State.setE_cmp (i j v : Nat) (m : Nat) : (s.setE i j v).cmp m = s.cmp m := rfl
@[simp] theorem State.setE_trip (i j v : Nat) (m : Nat) : (s.setE i j v).trip m = s.trip m := rfl
@[simp] theorem State.setE_scrim (i j v : Nat) (m : Nat) : (s.setE i j v).scrim m = s.scrim m := rfl
@[simp] theorem State.setE_sailRun (i j v : Nat) (m : Nat) : (s.setE i j v).sailRun m = s.sailRun m := rfl

@[simp] theorem State.bump_chan (i j n : Nat) (m : Nat) : (s.bump i j n).chan m = s.chan m := rfl
@[simp] theorem State.bump_xport (i j n : Nat) (m : Nat) : (s.bump i j n).xport m = s.xport m := rfl
@[simp] theorem State.bump_group (i j n : Nat) (m : Nat) : (s.bump i j n).group m = s.group m := rfl
@[simp] theorem State.bump_mill (i j n : Nat) (m : Nat) : (s.bump i j n).mill m = s.mill m := rfl
@[simp] theorem State.bump_grid (i j n : Nat) (m : Nat) : (s.bump i j n).grid m = s.grid m := rfl
@[simp] theorem State.bump_stream (i j n : Nat) (m : Nat) : (s.bump i j n).stream m = s.stream m := rfl
@[simp] theorem State.bump_hq (i j n : Nat) (m : Nat) : (s.bump i j n).hq m = s.hq m := rfl
@[simp] theorem State.bump_port (i j n : Nat) (m : Nat) : (s.bump i j n).port m = s.port m := rfl
@[simp] theorem State.bump_dom (i j n : Nat) (m : Nat) : (s.bump i j n).dom m = s.dom m := rfl
@[simp] theorem State.bump_tone (i j n : Nat) (m : Nat) : (s.bump i j n).tone m = s.tone m := rfl
@[simp] theorem State.bump_input (i j n : Nat) (m : Nat) : (s.bump i j n).input m = s.input m := rfl
@[simp] theorem State.bump_cmp (i j n : Nat) (m : Nat) : (s.bump i j n).cmp m = s.cmp m := rfl
@[simp] theorem State.bump_trip (i j n : Nat) (m : Nat) : (s.bump i j n).trip m = s.trip m := rfl
@[simp] theorem State.bump_scrim (i j n : Nat) (m : Nat) : (s.bump i j n).scrim m = s.scrim m := rfl
@[simp] theorem State.bump_sailRun (i j n : Nat) (m : Nat) : (s.bump i j n).sailRun m = s.sailRun m := rfl

@[simp] theorem State.wrapAdd_chan (w i j n : Nat) (m : Nat) : (s.wrapAdd w i j n).chan m = s.chan m := rfl
@[simp] theorem State.wrapAdd_xport (w i j n : Nat) (m : Nat) : (s.wrapAdd w i j n).xport m = s.xport m := rfl
@[simp] theorem State.wrapAdd_group (w i j n : Nat) (m : Nat) : (s.wrapAdd w i j n).group m = s.group m := rfl
@[simp] theorem State.wrapAdd_mill (w i j n : Nat) (m : Nat) : (s.wrapAdd w i j n).mill m = s.mill m := rfl
@[simp] theorem State.wrapAdd_grid (w i j n : Nat) (m : Nat) : (s.wrapAdd w i j n).grid m = s.grid m := rfl
@[simp] theorem State.wrapAdd_stream (w i j n : Nat) (m : Nat) : (s.wrapAdd w i j n).stream m = s.stream m := rfl
@[simp] theorem State.wrapAdd_hq (w i j n : Nat) (m : Nat) : (s.wrapAdd w i j n).hq m = s.hq m := rfl
@[simp] theorem State.wrapAdd_port (w i j n : Nat) (m : Nat) : (s.wrapAdd w i j n).port m = s.port m := rfl
@[simp] theorem State.wrapAdd_dom (w i j n : Nat) (m : Nat) : (s.wrapAdd w i j n).dom m = s.dom m := rfl
@[simp] theorem State.wrapAdd_tone (w i j n : Nat) (m : Nat) : (s.wrapAdd w i j n).tone m = s.tone m := rfl
@[simp] theorem State.wrapAdd_input (w i j n : Nat) (m : Nat) : (s.wrapAdd w i j n).input m = s.input m := rfl
@[simp] theorem State.wrapAdd_cmp (w i j n : Nat) (m : Nat) : (s.wrapAdd w i j n).cmp m = s.cmp m := rfl
@[simp] theorem State.wrapAdd_trip (w i j n : Nat) (m : Nat) : (s.wrapAdd w i j n).trip m = s.trip m := rfl
@[simp] theorem State.wrapAdd_scrim (w i j n : Nat) (m : Nat) : (s.wrapAdd w i j n).scrim m = s.scrim m := rfl
@[simp] theorem State.wrapAdd_sailRun (w i j n : Nat) (m : Nat) : (s.wrapAdd w i j n).sailRun m = s.sailRun m := rfl

@[simp] theorem State.flag_chan (i j k : Nat) (b : Bool) (m : Nat) : (s.flag i j k b).chan m = s.chan m := rfl
@[simp] theorem State.flag_xport (i j k : Nat) (b : Bool) (m : Nat) : (s.flag i j k b).xport m = s.xport m := rfl
@[simp] theorem State.flag_group (i j k : Nat) (b : Bool) (m : Nat) : (s.flag i j k b).group m = s.group m := rfl
@[simp] theorem State.flag_mill (i j k : Nat) (b : Bool) (m : Nat) : (s.flag i j k b).mill m = s.mill m := rfl
@[simp] theorem State.flag_grid (i j k : Nat) (b : Bool) (m : Nat) : (s.flag i j k b).grid m = s.grid m := rfl
@[simp] theorem State.flag_stream (i j k : Nat) (b : Bool) (m : Nat) : (s.flag i j k b).stream m = s.stream m := rfl
@[simp] theorem State.flag_hq (i j k : Nat) (b : Bool) (m : Nat) : (s.flag i j k b).hq m = s.hq m := rfl
@[simp] theorem State.flag_port (i j k : Nat) (b : Bool) (m : Nat) : (s.flag i j k b).port m = s.port m := rfl
@[simp] theorem State.flag_dom (i j k : Nat) (b : Bool) (m : Nat) : (s.flag i j k b).dom m = s.dom m := rfl
@[simp] theorem State.flag_tone (i j k : Nat) (b : Bool) (m : Nat) : (s.flag i j k b).tone m = s.tone m := rfl
@[simp] theorem State.flag_input (i j k : Nat) (b : Bool) (m : Nat) : (s.flag i j k b).input m = s.input m := rfl
@[simp] theorem State.flag_cmp (i j k : Nat) (b : Bool) (m : Nat) : (s.flag i j k b).cmp m = s.cmp m := rfl
@[simp] theorem State.flag_trip (i j k : Nat) (b : Bool) (m : Nat) : (s.flag i j k b).trip m = s.trip m := rfl
@[simp] theorem State.flag_scrim (i j k : Nat) (b : Bool) (m : Nat) : (s.flag i j k b).scrim m = s.scrim m := rfl
@[simp] theorem State.flag_sailRun (i j k : Nat) (b : Bool) (m : Nat) : (s.flag i j k b).sailRun m = s.sailRun m := rfl

@[simp] theorem State.fresh_chan (m : Nat) : (s.fresh ).chan m = s.chan m := rfl
@[simp] theorem State.fresh_xport (m : Nat) : (s.fresh ).xport m = s.xport m := rfl
@[simp] theorem State.fresh_group (m : Nat) : (s.fresh ).group m = s.group m := rfl
@[simp] theorem State.fresh_mill (m : Nat) : (s.fresh ).mill m = s.mill m := rfl
@[simp] theorem State.fresh_grid (m : Nat) : (s.fresh ).grid m = s.grid m := rfl
@[simp] theorem State.fresh_stream (m : Nat) : (s.fresh ).stream m = s.stream m := rfl
@[simp] theorem State.fresh_hq (m : Nat) : (s.fresh ).hq m = s.hq m := rfl
@[simp] theorem State.fresh_port (m : Nat) : (s.fresh ).port m = s.port m := rfl
@[simp] theorem State.fresh_dom (m : Nat) : (s.fresh ).dom m = s.dom m := rfl
@[simp] theorem State.fresh_tone (m : Nat) : (s.fresh ).tone m = s.tone m := rfl
@[simp] theorem State.fresh_input (m : Nat) : (s.fresh ).input m = s.input m := rfl
@[simp] theorem State.fresh_cmp (m : Nat) : (s.fresh ).cmp m = s.cmp m := rfl
@[simp] theorem State.fresh_trip (m : Nat) : (s.fresh ).trip m = s.trip m := rfl
@[simp] theorem State.fresh_scrim (m : Nat) : (s.fresh ).scrim m = s.scrim m := rfl
@[simp] theorem State.fresh_sailRun (m : Nat) : (s.fresh ).sailRun m = s.sailRun m := rfl

/-- Read after write. -/
theorem State.setChan_chan (c : Nat) (x : Chan) (m : Nat) :
    (s.setChan c x).chan m = if m = c then x else s.chan m := Tbl.get_set _ _ _ _ _
@[simp] theorem State.setChan_chan_same (c : Nat) (x : Chan) : (s.setChan c x).chan c = x := by
  rw [State.setChan_chan, if_pos rfl]
@[simp] theorem State.setChan_xport (c : Nat) (x : Chan) (m : Nat) : (s.setChan c x).xport m = s.xport m := rfl
@[simp] theorem State.setChan_group (c : Nat) (x : Chan) (m : Nat) : (s.setChan c x).group m = s.group m := rfl
@[simp] theorem State.setChan_mill (c : Nat) (x : Chan) (m : Nat) : (s.setChan c x).mill m = s.mill m := rfl
@[simp] theorem State.setChan_grid (c : Nat) (x : Chan) (m : Nat) : (s.setChan c x).grid m = s.grid m := rfl
@[simp] theorem State.setChan_stream (c : Nat) (x : Chan) (m : Nat) : (s.setChan c x).stream m = s.stream m := rfl
@[simp] theorem State.setChan_hq (c : Nat) (x : Chan) (m : Nat) : (s.setChan c x).hq m = s.hq m := rfl
@[simp] theorem State.setChan_port (c : Nat) (x : Chan) (m : Nat) : (s.setChan c x).port m = s.port m := rfl
@[simp] theorem State.setChan_dom (c : Nat) (x : Chan) (m : Nat) : (s.setChan c x).dom m = s.dom m := rfl
@[simp] theorem State.setChan_tone (c : Nat) (x : Chan) (m : Nat) : (s.setChan c x).tone m = s.tone m := rfl
@[simp] theorem State.setChan_input (c : Nat) (x : Chan) (m : Nat) : (s.setChan c x).input m = s.input m := rfl
@[simp] theorem State.setChan_cmp (c : Nat) (x : Chan) (m : Nat) : (s.setChan c x).cmp m = s.cmp m := rfl
@[simp] theorem State.setChan_trip (c : Nat) (x : Chan) (m : Nat) : (s.setChan c x).trip m = s.trip m := rfl
@[simp] theorem State.setChan_scrim (c : Nat) (x : Chan) (m : Nat) : (s.setChan c x).scrim m = s.scrim m := rfl
@[simp] theorem State.setChan_sailRun (c : Nat) (x : Chan) (m : Nat) : (s.setChan c x).sailRun m = s.sailRun m := rfl

@[simp] theorem State.setXport_chan (g : Nat) (x : XPort) (m : Nat) : (s.setXport g x).chan m = s.chan m := rfl
/-- Read after write. -/
theorem State.setXport_xport (g : Nat) (x : XPort) (m : Nat) :
    (s.setXport g x).xport m = if m = g then x else s.xport m := Tbl.get_set _ _ _ _ _
@[simp] theorem State.setXport_xport_same (g : Nat) (x : XPort) : (s.setXport g x).xport g = x := by
  rw [State.setXport_xport, if_pos rfl]
@[simp] theorem State.setXport_group (g : Nat) (x : XPort) (m : Nat) : (s.setXport g x).group m = s.group m := rfl
@[simp] theorem State.setXport_mill (g : Nat) (x : XPort) (m : Nat) : (s.setXport g x).mill m = s.mill m := rfl
@[simp] theorem State.setXport_grid (g : Nat) (x : XPort) (m : Nat) : (s.setXport g x).grid m = s.grid m := rfl
@[simp] theorem State.setXport_stream (g : Nat) (x : XPort) (m : Nat) : (s.setXport g x).stream m = s.stream m := rfl
@[simp] theorem State.setXport_hq (g : Nat) (x : XPort) (m : Nat) : (s.setXport g x).hq m = s.hq m := rfl
@[simp] theorem State.setXport_port (g : Nat) (x : XPort) (m : Nat) : (s.setXport g x).port m = s.port m := rfl
@[simp] theorem State.setXport_dom (g : Nat) (x : XPort) (m : Nat) : (s.setXport g x).dom m = s.dom m := rfl
@[simp] theorem State.setXport_tone (g : Nat) (x : XPort) (m : Nat) : (s.setXport g x).tone m = s.tone m := rfl
@[simp] theorem State.setXport_input (g : Nat) (x : XPort) (m : Nat) : (s.setXport g x).input m = s.input m := rfl
@[simp] theorem State.setXport_cmp (g : Nat) (x : XPort) (m : Nat) : (s.setXport g x).cmp m = s.cmp m := rfl
@[simp] theorem State.setXport_trip (g : Nat) (x : XPort) (m : Nat) : (s.setXport g x).trip m = s.trip m := rfl
@[simp] theorem State.setXport_scrim (g : Nat) (x : XPort) (m : Nat) : (s.setXport g x).scrim m = s.scrim m := rfl
@[simp] theorem State.setXport_sailRun (g : Nat) (x : XPort) (m : Nat) : (s.setXport g x).sailRun m = s.sailRun m := rfl

@[simp] theorem State.setGroup_chan (g : Nat) (x : Group) (m : Nat) : (s.setGroup g x).chan m = s.chan m := rfl
@[simp] theorem State.setGroup_xport (g : Nat) (x : Group) (m : Nat) : (s.setGroup g x).xport m = s.xport m := rfl
/-- Read after write. -/
theorem State.setGroup_group (g : Nat) (x : Group) (m : Nat) :
    (s.setGroup g x).group m = if m = g then x else s.group m := Tbl.get_set _ _ _ _ _
@[simp] theorem State.setGroup_group_same (g : Nat) (x : Group) : (s.setGroup g x).group g = x := by
  rw [State.setGroup_group, if_pos rfl]
@[simp] theorem State.setGroup_mill (g : Nat) (x : Group) (m : Nat) : (s.setGroup g x).mill m = s.mill m := rfl
@[simp] theorem State.setGroup_grid (g : Nat) (x : Group) (m : Nat) : (s.setGroup g x).grid m = s.grid m := rfl
@[simp] theorem State.setGroup_stream (g : Nat) (x : Group) (m : Nat) : (s.setGroup g x).stream m = s.stream m := rfl
@[simp] theorem State.setGroup_hq (g : Nat) (x : Group) (m : Nat) : (s.setGroup g x).hq m = s.hq m := rfl
@[simp] theorem State.setGroup_port (g : Nat) (x : Group) (m : Nat) : (s.setGroup g x).port m = s.port m := rfl
@[simp] theorem State.setGroup_dom (g : Nat) (x : Group) (m : Nat) : (s.setGroup g x).dom m = s.dom m := rfl
@[simp] theorem State.setGroup_tone (g : Nat) (x : Group) (m : Nat) : (s.setGroup g x).tone m = s.tone m := rfl
@[simp] theorem State.setGroup_input (g : Nat) (x : Group) (m : Nat) : (s.setGroup g x).input m = s.input m := rfl
@[simp] theorem State.setGroup_cmp (g : Nat) (x : Group) (m : Nat) : (s.setGroup g x).cmp m = s.cmp m := rfl
@[simp] theorem State.setGroup_trip (g : Nat) (x : Group) (m : Nat) : (s.setGroup g x).trip m = s.trip m := rfl
@[simp] theorem State.setGroup_scrim (g : Nat) (x : Group) (m : Nat) : (s.setGroup g x).scrim m = s.scrim m := rfl
@[simp] theorem State.setGroup_sailRun (g : Nat) (x : Group) (m : Nat) : (s.setGroup g x).sailRun m = s.sailRun m := rfl

@[simp] theorem State.setMill_chan (c : Nat) (x : Mill) (m : Nat) : (s.setMill c x).chan m = s.chan m := rfl
@[simp] theorem State.setMill_xport (c : Nat) (x : Mill) (m : Nat) : (s.setMill c x).xport m = s.xport m := rfl
@[simp] theorem State.setMill_group (c : Nat) (x : Mill) (m : Nat) : (s.setMill c x).group m = s.group m := rfl
/-- Read after write. -/
theorem State.setMill_mill (c : Nat) (x : Mill) (m : Nat) :
    (s.setMill c x).mill m = if m = c then x else s.mill m := Tbl.get_set _ _ _ _ _
@[simp] theorem State.setMill_mill_same (c : Nat) (x : Mill) : (s.setMill c x).mill c = x := by
  rw [State.setMill_mill, if_pos rfl]
@[simp] theorem State.setMill_grid (c : Nat) (x : Mill) (m : Nat) : (s.setMill c x).grid m = s.grid m := rfl
@[simp] theorem State.setMill_stream (c : Nat) (x : Mill) (m : Nat) : (s.setMill c x).stream m = s.stream m := rfl
@[simp] theorem State.setMill_hq (c : Nat) (x : Mill) (m : Nat) : (s.setMill c x).hq m = s.hq m := rfl
@[simp] theorem State.setMill_port (c : Nat) (x : Mill) (m : Nat) : (s.setMill c x).port m = s.port m := rfl
@[simp] theorem State.setMill_dom (c : Nat) (x : Mill) (m : Nat) : (s.setMill c x).dom m = s.dom m := rfl
@[simp] theorem State.setMill_tone (c : Nat) (x : Mill) (m : Nat) : (s.setMill c x).tone m = s.tone m := rfl
@[simp] theorem State.setMill_input (c : Nat) (x : Mill) (m : Nat) : (s.setMill c x).input m = s.input m := rfl
@[simp] theorem State.setMill_cmp (c : Nat) (x : Mill) (m : Nat) : (s.setMill c x).cmp m = s.cmp m := rfl
@[simp] theorem State.setMill_trip (c : Nat) (x : Mill) (m : Nat) : (s.setMill c x).trip m = s.trip m := rfl
@[simp] theorem State.setMill_scrim (c : Nat) (x : Mill) (m : Nat) : (s.setMill c x).scrim m = s.scrim m := rfl
@[simp] theorem State.setMill_sailRun (c : Nat) (x : Mill) (m : Nat) : (s.setMill c x).sailRun m = s.sailRun m := rfl

@[simp] theorem State.setGrid_chan (a : Nat) (x : Grid) (m : Nat) : (s.setGrid a x).chan m = s.chan m := rfl
@[simp] theorem State.setGrid_xport (a : Nat) (x : Grid) (m : Nat) : (s.setGrid a x).xport m = s.xport m := rfl
@[simp] theorem State.setGrid_group (a : Nat) (x : Grid) (m : Nat) : (s.setGrid a x).group m = s.group m := rfl
@[simp] theorem State.setGrid_mill (a : Nat) (x : Grid) (m : Nat) : (s.setGrid a x).mill m = s.mill m := rfl
/-- Read after write. -/
theorem State.setGrid_grid (a : Nat) (x : Grid) (m : Nat) :
    (s.setGrid a x).grid m = if m = a then x else s.grid m := Tbl.get_set _ _ _ _ _
@[simp] theorem State.setGrid_grid_same (a : Nat) (x : Grid) : (s.setGrid a x).grid a = x := by
  rw [State.setGrid_grid, if_pos rfl]
@[simp] theorem State.setGrid_stream (a : Nat) (x : Grid) (m : Nat) : (s.setGrid a x).stream m = s.stream m := rfl
@[simp] theorem State.setGrid_hq (a : Nat) (x : Grid) (m : Nat) : (s.setGrid a x).hq m = s.hq m := rfl
@[simp] theorem State.setGrid_port (a : Nat) (x : Grid) (m : Nat) : (s.setGrid a x).port m = s.port m := rfl
@[simp] theorem State.setGrid_dom (a : Nat) (x : Grid) (m : Nat) : (s.setGrid a x).dom m = s.dom m := rfl
@[simp] theorem State.setGrid_tone (a : Nat) (x : Grid) (m : Nat) : (s.setGrid a x).tone m = s.tone m := rfl
@[simp] theorem State.setGrid_input (a : Nat) (x : Grid) (m : Nat) : (s.setGrid a x).input m = s.input m := rfl
@[simp] theorem State.setGrid_cmp (a : Nat) (x : Grid) (m : Nat) : (s.setGrid a x).cmp m = s.cmp m := rfl
@[simp] theorem State.setGrid_trip (a : Nat) (x : Grid) (m : Nat) : (s.setGrid a x).trip m = s.trip m := rfl
@[simp] theorem State.setGrid_scrim (a : Nat) (x : Grid) (m : Nat) : (s.setGrid a x).scrim m = s.scrim m := rfl
@[simp] theorem State.setGrid_sailRun (a : Nat) (x : Grid) (m : Nat) : (s.setGrid a x).sailRun m = s.sailRun m := rfl

@[simp] theorem State.setStream_chan (n : Nat) (x : Stream) (m : Nat) : (s.setStream n x).chan m = s.chan m := rfl
@[simp] theorem State.setStream_xport (n : Nat) (x : Stream) (m : Nat) : (s.setStream n x).xport m = s.xport m := rfl
@[simp] theorem State.setStream_group (n : Nat) (x : Stream) (m : Nat) : (s.setStream n x).group m = s.group m := rfl
@[simp] theorem State.setStream_mill (n : Nat) (x : Stream) (m : Nat) : (s.setStream n x).mill m = s.mill m := rfl
@[simp] theorem State.setStream_grid (n : Nat) (x : Stream) (m : Nat) : (s.setStream n x).grid m = s.grid m := rfl
/-- Read after write. -/
theorem State.setStream_stream (n : Nat) (x : Stream) (m : Nat) :
    (s.setStream n x).stream m = if m = n then x else s.stream m := Tbl.get_put _ _ _ _ _
@[simp] theorem State.setStream_stream_same (n : Nat) (x : Stream) : (s.setStream n x).stream n = x := by
  rw [State.setStream_stream, if_pos rfl]
@[simp] theorem State.setStream_hq (n : Nat) (x : Stream) (m : Nat) : (s.setStream n x).hq m = s.hq m := rfl
@[simp] theorem State.setStream_port (n : Nat) (x : Stream) (m : Nat) : (s.setStream n x).port m = s.port m := rfl
@[simp] theorem State.setStream_dom (n : Nat) (x : Stream) (m : Nat) : (s.setStream n x).dom m = s.dom m := rfl
@[simp] theorem State.setStream_tone (n : Nat) (x : Stream) (m : Nat) : (s.setStream n x).tone m = s.tone m := rfl
@[simp] theorem State.setStream_input (n : Nat) (x : Stream) (m : Nat) : (s.setStream n x).input m = s.input m := rfl
@[simp] theorem State.setStream_cmp (n : Nat) (x : Stream) (m : Nat) : (s.setStream n x).cmp m = s.cmp m := rfl
@[simp] theorem State.setStream_trip (n : Nat) (x : Stream) (m : Nat) : (s.setStream n x).trip m = s.trip m := rfl
@[simp] theorem State.setStream_scrim (n : Nat) (x : Stream) (m : Nat) : (s.setStream n x).scrim m = s.scrim m := rfl
@[simp] theorem State.setStream_sailRun (n : Nat) (x : Stream) (m : Nat) : (s.setStream n x).sailRun m = s.sailRun m := rfl

@[simp] theorem State.setHq_chan (q : Nat) (x : HQueue) (m : Nat) : (s.setHq q x).chan m = s.chan m := rfl
@[simp] theorem State.setHq_xport (q : Nat) (x : HQueue) (m : Nat) : (s.setHq q x).xport m = s.xport m := rfl
@[simp] theorem State.setHq_group (q : Nat) (x : HQueue) (m : Nat) : (s.setHq q x).group m = s.group m := rfl
@[simp] theorem State.setHq_mill (q : Nat) (x : HQueue) (m : Nat) : (s.setHq q x).mill m = s.mill m := rfl
@[simp] theorem State.setHq_grid (q : Nat) (x : HQueue) (m : Nat) : (s.setHq q x).grid m = s.grid m := rfl
@[simp] theorem State.setHq_stream (q : Nat) (x : HQueue) (m : Nat) : (s.setHq q x).stream m = s.stream m := rfl
/-- Read after write. -/
theorem State.setHq_hq (q : Nat) (x : HQueue) (m : Nat) :
    (s.setHq q x).hq m = if m = q then x else s.hq m := Tbl.get_set _ _ _ _ _
@[simp] theorem State.setHq_hq_same (q : Nat) (x : HQueue) : (s.setHq q x).hq q = x := by
  rw [State.setHq_hq, if_pos rfl]
@[simp] theorem State.setHq_port (q : Nat) (x : HQueue) (m : Nat) : (s.setHq q x).port m = s.port m := rfl
@[simp] theorem State.setHq_dom (q : Nat) (x : HQueue) (m : Nat) : (s.setHq q x).dom m = s.dom m := rfl
@[simp] theorem State.setHq_tone (q : Nat) (x : HQueue) (m : Nat) : (s.setHq q x).tone m = s.tone m := rfl
@[simp] theorem State.setHq_input (q : Nat) (x : HQueue) (m : Nat) : (s.setHq q x).input m = s.input m := rfl
@[simp] theorem State.setHq_cmp (q : Nat) (x : HQueue) (m : Nat) : (s.setHq q x).cmp m = s.cmp m := rfl
@[simp] theorem State.setHq_trip (q : Nat) (x : HQueue) (m : Nat) : (s.setHq q x).trip m = s.trip m := rfl
@[simp] theorem State.setHq_scrim (q : Nat) (x : HQueue) (m : Nat) : (s.setHq q x).scrim m = s.scrim m := rfl
@[simp] theorem State.setHq_sailRun (q : Nat) (x : HQueue) (m : Nat) : (s.setHq q x).sailRun m = s.sailRun m := rfl

@[simp] theorem State.setPort_chan (p : Nat) (x : LPort) (m : Nat) : (s.setPort p x).chan m = s.chan m := rfl
@[simp] theorem State.setPort_xport (p : Nat) (x : LPort) (m : Nat) : (s.setPort p x).xport m = s.xport m := rfl
@[simp] theorem State.setPort_group (p : Nat) (x : LPort) (m : Nat) : (s.setPort p x).group m = s.group m := rfl
@[simp] theorem State.setPort_mill (p : Nat) (x : LPort) (m : Nat) : (s.setPort p x).mill m = s.mill m := rfl
@[simp] theorem State.setPort_grid (p : Nat) (x : LPort) (m : Nat) : (s.setPort p x).grid m = s.grid m := rfl
@[simp] theorem State.setPort_stream (p : Nat) (x : LPort) (m : Nat) : (s.setPort p x).stream m = s.stream m := rfl
@[simp] theorem State.setPort_hq (p : Nat) (x : LPort) (m : Nat) : (s.setPort p x).hq m = s.hq m := rfl
/-- Read after write. -/
theorem State.setPort_port (p : Nat) (x : LPort) (m : Nat) :
    (s.setPort p x).port m = if m = p then x else s.port m := Tbl.get_set _ _ _ _ _
@[simp] theorem State.setPort_port_same (p : Nat) (x : LPort) : (s.setPort p x).port p = x := by
  rw [State.setPort_port, if_pos rfl]
@[simp] theorem State.setPort_dom (p : Nat) (x : LPort) (m : Nat) : (s.setPort p x).dom m = s.dom m := rfl
@[simp] theorem State.setPort_tone (p : Nat) (x : LPort) (m : Nat) : (s.setPort p x).tone m = s.tone m := rfl
@[simp] theorem State.setPort_input (p : Nat) (x : LPort) (m : Nat) : (s.setPort p x).input m = s.input m := rfl
@[simp] theorem State.setPort_cmp (p : Nat) (x : LPort) (m : Nat) : (s.setPort p x).cmp m = s.cmp m := rfl
@[simp] theorem State.setPort_trip (p : Nat) (x : LPort) (m : Nat) : (s.setPort p x).trip m = s.trip m := rfl
@[simp] theorem State.setPort_scrim (p : Nat) (x : LPort) (m : Nat) : (s.setPort p x).scrim m = s.scrim m := rfl
@[simp] theorem State.setPort_sailRun (p : Nat) (x : LPort) (m : Nat) : (s.setPort p x).sailRun m = s.sailRun m := rfl

@[simp] theorem State.setDom_chan (d : Nat) (x : Dom) (m : Nat) : (s.setDom d x).chan m = s.chan m := rfl
@[simp] theorem State.setDom_xport (d : Nat) (x : Dom) (m : Nat) : (s.setDom d x).xport m = s.xport m := rfl
@[simp] theorem State.setDom_group (d : Nat) (x : Dom) (m : Nat) : (s.setDom d x).group m = s.group m := rfl
@[simp] theorem State.setDom_mill (d : Nat) (x : Dom) (m : Nat) : (s.setDom d x).mill m = s.mill m := rfl
@[simp] theorem State.setDom_grid (d : Nat) (x : Dom) (m : Nat) : (s.setDom d x).grid m = s.grid m := rfl
@[simp] theorem State.setDom_stream (d : Nat) (x : Dom) (m : Nat) : (s.setDom d x).stream m = s.stream m := rfl
@[simp] theorem State.setDom_hq (d : Nat) (x : Dom) (m : Nat) : (s.setDom d x).hq m = s.hq m := rfl
@[simp] theorem State.setDom_port (d : Nat) (x : Dom) (m : Nat) : (s.setDom d x).port m = s.port m := rfl
/-- Read after write. -/
theorem State.setDom_dom (d : Nat) (x : Dom) (m : Nat) :
    (s.setDom d x).dom m = if m = d then x else s.dom m := Tbl.get_set _ _ _ _ _
@[simp] theorem State.setDom_dom_same (d : Nat) (x : Dom) : (s.setDom d x).dom d = x := by
  rw [State.setDom_dom, if_pos rfl]
@[simp] theorem State.setDom_tone (d : Nat) (x : Dom) (m : Nat) : (s.setDom d x).tone m = s.tone m := rfl
@[simp] theorem State.setDom_input (d : Nat) (x : Dom) (m : Nat) : (s.setDom d x).input m = s.input m := rfl
@[simp] theorem State.setDom_cmp (d : Nat) (x : Dom) (m : Nat) : (s.setDom d x).cmp m = s.cmp m := rfl
@[simp] theorem State.setDom_trip (d : Nat) (x : Dom) (m : Nat) : (s.setDom d x).trip m = s.trip m := rfl
@[simp] theorem State.setDom_scrim (d : Nat) (x : Dom) (m : Nat) : (s.setDom d x).scrim m = s.scrim m := rfl
@[simp] theorem State.setDom_sailRun (d : Nat) (x : Dom) (m : Nat) : (s.setDom d x).sailRun m = s.sailRun m := rfl

@[simp] theorem State.setTone_chan (d : Nat) (x : Tone) (m : Nat) : (s.setTone d x).chan m = s.chan m := rfl
@[simp] theorem State.setTone_xport (d : Nat) (x : Tone) (m : Nat) : (s.setTone d x).xport m = s.xport m := rfl
@[simp] theorem State.setTone_group (d : Nat) (x : Tone) (m : Nat) : (s.setTone d x).group m = s.group m := rfl
@[simp] theorem State.setTone_mill (d : Nat) (x : Tone) (m : Nat) : (s.setTone d x).mill m = s.mill m := rfl
@[simp] theorem State.setTone_grid (d : Nat) (x : Tone) (m : Nat) : (s.setTone d x).grid m = s.grid m := rfl
@[simp] theorem State.setTone_stream (d : Nat) (x : Tone) (m : Nat) : (s.setTone d x).stream m = s.stream m := rfl
@[simp] theorem State.setTone_hq (d : Nat) (x : Tone) (m : Nat) : (s.setTone d x).hq m = s.hq m := rfl
@[simp] theorem State.setTone_port (d : Nat) (x : Tone) (m : Nat) : (s.setTone d x).port m = s.port m := rfl
@[simp] theorem State.setTone_dom (d : Nat) (x : Tone) (m : Nat) : (s.setTone d x).dom m = s.dom m := rfl
/-- Read after write. -/
theorem State.setTone_tone (d : Nat) (x : Tone) (m : Nat) :
    (s.setTone d x).tone m = if m = d then x else s.tone m := Tbl.get_set _ _ _ _ _
@[simp] theorem State.setTone_tone_same (d : Nat) (x : Tone) : (s.setTone d x).tone d = x := by
  rw [State.setTone_tone, if_pos rfl]
@[simp] theorem State.setTone_input (d : Nat) (x : Tone) (m : Nat) : (s.setTone d x).input m = s.input m := rfl
@[simp] theorem State.setTone_cmp (d : Nat) (x : Tone) (m : Nat) : (s.setTone d x).cmp m = s.cmp m := rfl
@[simp] theorem State.setTone_trip (d : Nat) (x : Tone) (m : Nat) : (s.setTone d x).trip m = s.trip m := rfl
@[simp] theorem State.setTone_scrim (d : Nat) (x : Tone) (m : Nat) : (s.setTone d x).scrim m = s.scrim m := rfl
@[simp] theorem State.setTone_sailRun (d : Nat) (x : Tone) (m : Nat) : (s.setTone d x).sailRun m = s.sailRun m := rfl

@[simp] theorem State.setInput_chan (i : Nat) (x : SafeIn) (m : Nat) : (s.setInput i x).chan m = s.chan m := rfl
@[simp] theorem State.setInput_xport (i : Nat) (x : SafeIn) (m : Nat) : (s.setInput i x).xport m = s.xport m := rfl
@[simp] theorem State.setInput_group (i : Nat) (x : SafeIn) (m : Nat) : (s.setInput i x).group m = s.group m := rfl
@[simp] theorem State.setInput_mill (i : Nat) (x : SafeIn) (m : Nat) : (s.setInput i x).mill m = s.mill m := rfl
@[simp] theorem State.setInput_grid (i : Nat) (x : SafeIn) (m : Nat) : (s.setInput i x).grid m = s.grid m := rfl
@[simp] theorem State.setInput_stream (i : Nat) (x : SafeIn) (m : Nat) : (s.setInput i x).stream m = s.stream m := rfl
@[simp] theorem State.setInput_hq (i : Nat) (x : SafeIn) (m : Nat) : (s.setInput i x).hq m = s.hq m := rfl
@[simp] theorem State.setInput_port (i : Nat) (x : SafeIn) (m : Nat) : (s.setInput i x).port m = s.port m := rfl
@[simp] theorem State.setInput_dom (i : Nat) (x : SafeIn) (m : Nat) : (s.setInput i x).dom m = s.dom m := rfl
@[simp] theorem State.setInput_tone (i : Nat) (x : SafeIn) (m : Nat) : (s.setInput i x).tone m = s.tone m := rfl
/-- Read after write. -/
theorem State.setInput_input (i : Nat) (x : SafeIn) (m : Nat) :
    (s.setInput i x).input m = if m = i then x else s.input m := Tbl.get_set _ _ _ _ _
@[simp] theorem State.setInput_input_same (i : Nat) (x : SafeIn) : (s.setInput i x).input i = x := by
  rw [State.setInput_input, if_pos rfl]
@[simp] theorem State.setInput_cmp (i : Nat) (x : SafeIn) (m : Nat) : (s.setInput i x).cmp m = s.cmp m := rfl
@[simp] theorem State.setInput_trip (i : Nat) (x : SafeIn) (m : Nat) : (s.setInput i x).trip m = s.trip m := rfl
@[simp] theorem State.setInput_scrim (i : Nat) (x : SafeIn) (m : Nat) : (s.setInput i x).scrim m = s.scrim m := rfl
@[simp] theorem State.setInput_sailRun (i : Nat) (x : SafeIn) (m : Nat) : (s.setInput i x).sailRun m = s.sailRun m := rfl

@[simp] theorem State.setCmp_chan (l : Nat) (x : CmpRun) (m : Nat) : (s.setCmp l x).chan m = s.chan m := rfl
@[simp] theorem State.setCmp_xport (l : Nat) (x : CmpRun) (m : Nat) : (s.setCmp l x).xport m = s.xport m := rfl
@[simp] theorem State.setCmp_group (l : Nat) (x : CmpRun) (m : Nat) : (s.setCmp l x).group m = s.group m := rfl
@[simp] theorem State.setCmp_mill (l : Nat) (x : CmpRun) (m : Nat) : (s.setCmp l x).mill m = s.mill m := rfl
@[simp] theorem State.setCmp_grid (l : Nat) (x : CmpRun) (m : Nat) : (s.setCmp l x).grid m = s.grid m := rfl
@[simp] theorem State.setCmp_stream (l : Nat) (x : CmpRun) (m : Nat) : (s.setCmp l x).stream m = s.stream m := rfl
@[simp] theorem State.setCmp_hq (l : Nat) (x : CmpRun) (m : Nat) : (s.setCmp l x).hq m = s.hq m := rfl
@[simp] theorem State.setCmp_port (l : Nat) (x : CmpRun) (m : Nat) : (s.setCmp l x).port m = s.port m := rfl
@[simp] theorem State.setCmp_dom (l : Nat) (x : CmpRun) (m : Nat) : (s.setCmp l x).dom m = s.dom m := rfl
@[simp] theorem State.setCmp_tone (l : Nat) (x : CmpRun) (m : Nat) : (s.setCmp l x).tone m = s.tone m := rfl
@[simp] theorem State.setCmp_input (l : Nat) (x : CmpRun) (m : Nat) : (s.setCmp l x).input m = s.input m := rfl
/-- Read after write. -/
theorem State.setCmp_cmp (l : Nat) (x : CmpRun) (m : Nat) :
    (s.setCmp l x).cmp m = if m = l then x else s.cmp m := Tbl.get_set _ _ _ _ _
@[simp] theorem State.setCmp_cmp_same (l : Nat) (x : CmpRun) : (s.setCmp l x).cmp l = x := by
  rw [State.setCmp_cmp, if_pos rfl]
@[simp] theorem State.setCmp_trip (l : Nat) (x : CmpRun) (m : Nat) : (s.setCmp l x).trip m = s.trip m := rfl
@[simp] theorem State.setCmp_scrim (l : Nat) (x : CmpRun) (m : Nat) : (s.setCmp l x).scrim m = s.scrim m := rfl
@[simp] theorem State.setCmp_sailRun (l : Nat) (x : CmpRun) (m : Nat) : (s.setCmp l x).sailRun m = s.sailRun m := rfl

@[simp] theorem State.setTrip_chan (n : Nat) (x : TripRun) (m : Nat) : (s.setTrip n x).chan m = s.chan m := rfl
@[simp] theorem State.setTrip_xport (n : Nat) (x : TripRun) (m : Nat) : (s.setTrip n x).xport m = s.xport m := rfl
@[simp] theorem State.setTrip_group (n : Nat) (x : TripRun) (m : Nat) : (s.setTrip n x).group m = s.group m := rfl
@[simp] theorem State.setTrip_mill (n : Nat) (x : TripRun) (m : Nat) : (s.setTrip n x).mill m = s.mill m := rfl
@[simp] theorem State.setTrip_grid (n : Nat) (x : TripRun) (m : Nat) : (s.setTrip n x).grid m = s.grid m := rfl
@[simp] theorem State.setTrip_stream (n : Nat) (x : TripRun) (m : Nat) : (s.setTrip n x).stream m = s.stream m := rfl
@[simp] theorem State.setTrip_hq (n : Nat) (x : TripRun) (m : Nat) : (s.setTrip n x).hq m = s.hq m := rfl
@[simp] theorem State.setTrip_port (n : Nat) (x : TripRun) (m : Nat) : (s.setTrip n x).port m = s.port m := rfl
@[simp] theorem State.setTrip_dom (n : Nat) (x : TripRun) (m : Nat) : (s.setTrip n x).dom m = s.dom m := rfl
@[simp] theorem State.setTrip_tone (n : Nat) (x : TripRun) (m : Nat) : (s.setTrip n x).tone m = s.tone m := rfl
@[simp] theorem State.setTrip_input (n : Nat) (x : TripRun) (m : Nat) : (s.setTrip n x).input m = s.input m := rfl
@[simp] theorem State.setTrip_cmp (n : Nat) (x : TripRun) (m : Nat) : (s.setTrip n x).cmp m = s.cmp m := rfl
/-- Read after write. -/
theorem State.setTrip_trip (n : Nat) (x : TripRun) (m : Nat) :
    (s.setTrip n x).trip m = if m = n then x else s.trip m := Tbl.get_set _ _ _ _ _
@[simp] theorem State.setTrip_trip_same (n : Nat) (x : TripRun) : (s.setTrip n x).trip n = x := by
  rw [State.setTrip_trip, if_pos rfl]
@[simp] theorem State.setTrip_scrim (n : Nat) (x : TripRun) (m : Nat) : (s.setTrip n x).scrim m = s.scrim m := rfl
@[simp] theorem State.setTrip_sailRun (n : Nat) (x : TripRun) (m : Nat) : (s.setTrip n x).sailRun m = s.sailRun m := rfl

@[simp] theorem State.setScrim_chan (k : Nat) (x : ScrimRun) (m : Nat) : (s.setScrim k x).chan m = s.chan m := rfl
@[simp] theorem State.setScrim_xport (k : Nat) (x : ScrimRun) (m : Nat) : (s.setScrim k x).xport m = s.xport m := rfl
@[simp] theorem State.setScrim_group (k : Nat) (x : ScrimRun) (m : Nat) : (s.setScrim k x).group m = s.group m := rfl
@[simp] theorem State.setScrim_mill (k : Nat) (x : ScrimRun) (m : Nat) : (s.setScrim k x).mill m = s.mill m := rfl
@[simp] theorem State.setScrim_grid (k : Nat) (x : ScrimRun) (m : Nat) : (s.setScrim k x).grid m = s.grid m := rfl
@[simp] theorem State.setScrim_stream (k : Nat) (x : ScrimRun) (m : Nat) : (s.setScrim k x).stream m = s.stream m := rfl
@[simp] theorem State.setScrim_hq (k : Nat) (x : ScrimRun) (m : Nat) : (s.setScrim k x).hq m = s.hq m := rfl
@[simp] theorem State.setScrim_port (k : Nat) (x : ScrimRun) (m : Nat) : (s.setScrim k x).port m = s.port m := rfl
@[simp] theorem State.setScrim_dom (k : Nat) (x : ScrimRun) (m : Nat) : (s.setScrim k x).dom m = s.dom m := rfl
@[simp] theorem State.setScrim_tone (k : Nat) (x : ScrimRun) (m : Nat) : (s.setScrim k x).tone m = s.tone m := rfl
@[simp] theorem State.setScrim_input (k : Nat) (x : ScrimRun) (m : Nat) : (s.setScrim k x).input m = s.input m := rfl
@[simp] theorem State.setScrim_cmp (k : Nat) (x : ScrimRun) (m : Nat) : (s.setScrim k x).cmp m = s.cmp m := rfl
@[simp] theorem State.setScrim_trip (k : Nat) (x : ScrimRun) (m : Nat) : (s.setScrim k x).trip m = s.trip m := rfl
/-- Read after write. -/
theorem State.setScrim_scrim (k : Nat) (x : ScrimRun) (m : Nat) :
    (s.setScrim k x).scrim m = if m = k then x else s.scrim m := Tbl.get_set _ _ _ _ _
@[simp] theorem State.setScrim_scrim_same (k : Nat) (x : ScrimRun) : (s.setScrim k x).scrim k = x := by
  rw [State.setScrim_scrim, if_pos rfl]
@[simp] theorem State.setScrim_sailRun (k : Nat) (x : ScrimRun) (m : Nat) : (s.setScrim k x).sailRun m = s.sailRun m := rfl

@[simp] theorem State.setSail_chan (n : Nat) (x : SailRun) (m : Nat) : (s.setSail n x).chan m = s.chan m := rfl
@[simp] theorem State.setSail_xport (n : Nat) (x : SailRun) (m : Nat) : (s.setSail n x).xport m = s.xport m := rfl
@[simp] theorem State.setSail_group (n : Nat) (x : SailRun) (m : Nat) : (s.setSail n x).group m = s.group m := rfl
@[simp] theorem State.setSail_mill (n : Nat) (x : SailRun) (m : Nat) : (s.setSail n x).mill m = s.mill m := rfl
@[simp] theorem State.setSail_grid (n : Nat) (x : SailRun) (m : Nat) : (s.setSail n x).grid m = s.grid m := rfl
@[simp] theorem State.setSail_stream (n : Nat) (x : SailRun) (m : Nat) : (s.setSail n x).stream m = s.stream m := rfl
@[simp] theorem State.setSail_hq (n : Nat) (x : SailRun) (m : Nat) : (s.setSail n x).hq m = s.hq m := rfl
@[simp] theorem State.setSail_port (n : Nat) (x : SailRun) (m : Nat) : (s.setSail n x).port m = s.port m := rfl
@[simp] theorem State.setSail_dom (n : Nat) (x : SailRun) (m : Nat) : (s.setSail n x).dom m = s.dom m := rfl
@[simp] theorem State.setSail_tone (n : Nat) (x : SailRun) (m : Nat) : (s.setSail n x).tone m = s.tone m := rfl
@[simp] theorem State.setSail_input (n : Nat) (x : SailRun) (m : Nat) : (s.setSail n x).input m = s.input m := rfl
@[simp] theorem State.setSail_cmp (n : Nat) (x : SailRun) (m : Nat) : (s.setSail n x).cmp m = s.cmp m := rfl
@[simp] theorem State.setSail_trip (n : Nat) (x : SailRun) (m : Nat) : (s.setSail n x).trip m = s.trip m := rfl
@[simp] theorem State.setSail_scrim (n : Nat) (x : SailRun) (m : Nat) : (s.setSail n x).scrim m = s.scrim m := rfl
/-- Read after write. -/
theorem State.setSail_sailRun (n : Nat) (x : SailRun) (m : Nat) :
    (s.setSail n x).sailRun m = if m = n then x else s.sailRun m := Tbl.get_set _ _ _ _ _
@[simp] theorem State.setSail_sailRun_same (n : Nat) (x : SailRun) : (s.setSail n x).sailRun n = x := by
  rw [State.setSail_sailRun, if_pos rfl]

@[simp] theorem State.setBlob_chan (k : Nat) (d : List Byte) (m : Nat) : (s.setBlob k d).chan m = s.chan m := rfl
@[simp] theorem State.setBlob_xport (k : Nat) (d : List Byte) (m : Nat) : (s.setBlob k d).xport m = s.xport m := rfl
@[simp] theorem State.setBlob_group (k : Nat) (d : List Byte) (m : Nat) : (s.setBlob k d).group m = s.group m := rfl
@[simp] theorem State.setBlob_mill (k : Nat) (d : List Byte) (m : Nat) : (s.setBlob k d).mill m = s.mill m := rfl
@[simp] theorem State.setBlob_grid (k : Nat) (d : List Byte) (m : Nat) : (s.setBlob k d).grid m = s.grid m := rfl
@[simp] theorem State.setBlob_stream (k : Nat) (d : List Byte) (m : Nat) : (s.setBlob k d).stream m = s.stream m := rfl
@[simp] theorem State.setBlob_hq (k : Nat) (d : List Byte) (m : Nat) : (s.setBlob k d).hq m = s.hq m := rfl
@[simp] theorem State.setBlob_port (k : Nat) (d : List Byte) (m : Nat) : (s.setBlob k d).port m = s.port m := rfl
@[simp] theorem State.setBlob_dom (k : Nat) (d : List Byte) (m : Nat) : (s.setBlob k d).dom m = s.dom m := rfl
@[simp] theorem State.setBlob_tone (k : Nat) (d : List Byte) (m : Nat) : (s.setBlob k d).tone m = s.tone m := rfl
@[simp] theorem State.setBlob_input (k : Nat) (d : List Byte) (m : Nat) : (s.setBlob k d).input m = s.input m := rfl
@[simp] theorem State.setBlob_cmp (k : Nat) (d : List Byte) (m : Nat) : (s.setBlob k d).cmp m = s.cmp m := rfl
@[simp] theorem State.setBlob_trip (k : Nat) (d : List Byte) (m : Nat) : (s.setBlob k d).trip m = s.trip m := rfl
@[simp] theorem State.setBlob_scrim (k : Nat) (d : List Byte) (m : Nat) : (s.setBlob k d).scrim m = s.scrim m := rfl
@[simp] theorem State.setBlob_sailRun (k : Nat) (d : List Byte) (m : Nat) : (s.setBlob k d).sailRun m = s.sailRun m := rfl

@[simp] theorem State.setTrans_chan (t : Transition) (m : Nat) : (s.setTrans t).chan m = s.chan m := rfl
@[simp] theorem State.setTrans_xport (t : Transition) (m : Nat) : (s.setTrans t).xport m = s.xport m := rfl
@[simp] theorem State.setTrans_group (t : Transition) (m : Nat) : (s.setTrans t).group m = s.group m := rfl
@[simp] theorem State.setTrans_mill (t : Transition) (m : Nat) : (s.setTrans t).mill m = s.mill m := rfl
@[simp] theorem State.setTrans_grid (t : Transition) (m : Nat) : (s.setTrans t).grid m = s.grid m := rfl
@[simp] theorem State.setTrans_stream (t : Transition) (m : Nat) : (s.setTrans t).stream m = s.stream m := rfl
@[simp] theorem State.setTrans_hq (t : Transition) (m : Nat) : (s.setTrans t).hq m = s.hq m := rfl
@[simp] theorem State.setTrans_port (t : Transition) (m : Nat) : (s.setTrans t).port m = s.port m := rfl
@[simp] theorem State.setTrans_dom (t : Transition) (m : Nat) : (s.setTrans t).dom m = s.dom m := rfl
@[simp] theorem State.setTrans_tone (t : Transition) (m : Nat) : (s.setTrans t).tone m = s.tone m := rfl
@[simp] theorem State.setTrans_input (t : Transition) (m : Nat) : (s.setTrans t).input m = s.input m := rfl
@[simp] theorem State.setTrans_cmp (t : Transition) (m : Nat) : (s.setTrans t).cmp m = s.cmp m := rfl
@[simp] theorem State.setTrans_trip (t : Transition) (m : Nat) : (s.setTrans t).trip m = s.trip m := rfl
@[simp] theorem State.setTrans_scrim (t : Transition) (m : Nat) : (s.setTrans t).scrim m = s.scrim m := rfl
@[simp] theorem State.setTrans_sailRun (t : Transition) (m : Nat) : (s.setTrans t).sailRun m = s.sailRun m := rfl

@[simp] theorem State.setTxns_chan (l : List (Nat × Txn)) (m : Nat) : (s.setTxns l).chan m = s.chan m := rfl
@[simp] theorem State.setTxns_xport (l : List (Nat × Txn)) (m : Nat) : (s.setTxns l).xport m = s.xport m := rfl
@[simp] theorem State.setTxns_group (l : List (Nat × Txn)) (m : Nat) : (s.setTxns l).group m = s.group m := rfl
@[simp] theorem State.setTxns_mill (l : List (Nat × Txn)) (m : Nat) : (s.setTxns l).mill m = s.mill m := rfl
@[simp] theorem State.setTxns_grid (l : List (Nat × Txn)) (m : Nat) : (s.setTxns l).grid m = s.grid m := rfl
@[simp] theorem State.setTxns_stream (l : List (Nat × Txn)) (m : Nat) : (s.setTxns l).stream m = s.stream m := rfl
@[simp] theorem State.setTxns_hq (l : List (Nat × Txn)) (m : Nat) : (s.setTxns l).hq m = s.hq m := rfl
@[simp] theorem State.setTxns_port (l : List (Nat × Txn)) (m : Nat) : (s.setTxns l).port m = s.port m := rfl
@[simp] theorem State.setTxns_dom (l : List (Nat × Txn)) (m : Nat) : (s.setTxns l).dom m = s.dom m := rfl
@[simp] theorem State.setTxns_tone (l : List (Nat × Txn)) (m : Nat) : (s.setTxns l).tone m = s.tone m := rfl
@[simp] theorem State.setTxns_input (l : List (Nat × Txn)) (m : Nat) : (s.setTxns l).input m = s.input m := rfl
@[simp] theorem State.setTxns_cmp (l : List (Nat × Txn)) (m : Nat) : (s.setTxns l).cmp m = s.cmp m := rfl
@[simp] theorem State.setTxns_trip (l : List (Nat × Txn)) (m : Nat) : (s.setTxns l).trip m = s.trip m := rfl
@[simp] theorem State.setTxns_scrim (l : List (Nat × Txn)) (m : Nat) : (s.setTxns l).scrim m = s.scrim m := rfl
@[simp] theorem State.setTxns_sailRun (l : List (Nat × Txn)) (m : Nat) : (s.setTxns l).sailRun m = s.sailRun m := rfl

/-! ### The event log writes its own entries and the log alone -/

@[simp] theorem State.event_blobs (sev code : Nat) (d : List Byte) : (s.event sev code d).blobs = s.blobs := by
  unfold State.event
  dsimp only
  split
  · rfl
  · split <;> rfl
@[simp] theorem State.event_gov (sev code : Nat) (d : List Byte) : (s.event sev code d).gov = s.gov := by
  unfold State.event
  dsimp only
  split
  · rfl
  · split <;> rfl
@[simp] theorem State.event_chans (sev code : Nat) (d : List Byte) : (s.event sev code d).chans = s.chans := by
  unfold State.event
  dsimp only
  split
  · rfl
  · split <;> rfl
@[simp] theorem State.event_xports (sev code : Nat) (d : List Byte) : (s.event sev code d).xports = s.xports := by
  unfold State.event
  dsimp only
  split
  · rfl
  · split <;> rfl
@[simp] theorem State.event_orders (sev code : Nat) (d : List Byte) : (s.event sev code d).orders = s.orders := by
  unfold State.event
  dsimp only
  split
  · rfl
  · split <;> rfl
@[simp] theorem State.event_blanks (sev code : Nat) (d : List Byte) : (s.event sev code d).blanks = s.blanks := by
  unfold State.event
  dsimp only
  split
  · rfl
  · split <;> rfl
@[simp] theorem State.event_windows (sev code : Nat) (d : List Byte) : (s.event sev code d).windows = s.windows := by
  unfold State.event
  dsimp only
  split
  · rfl
  · split <;> rfl
@[simp] theorem State.event_groups (sev code : Nat) (d : List Byte) : (s.event sev code d).groups = s.groups := by
  unfold State.event
  dsimp only
  split
  · rfl
  · split <;> rfl
@[simp] theorem State.event_evtFire (sev code : Nat) (d : List Byte) : (s.event sev code d).evtFire = s.evtFire := by
  unfold State.event
  dsimp only
  split
  · rfl
  · split <;> rfl
@[simp] theorem State.event_tones (sev code : Nat) (d : List Byte) : (s.event sev code d).tones = s.tones := by
  unfold State.event
  dsimp only
  split
  · rfl
  · split <;> rfl
@[simp] theorem State.event_mills (sev code : Nat) (d : List Byte) : (s.event sev code d).mills = s.mills := by
  unfold State.event
  dsimp only
  split
  · rfl
  · split <;> rfl
@[simp] theorem State.event_dieTemps (sev code : Nat) (d : List Byte) : (s.event sev code d).dieTemps = s.dieTemps := by
  unfold State.event
  dsimp only
  split
  · rfl
  · split <;> rfl
@[simp] theorem State.event_sails (sev code : Nat) (d : List Byte) : (s.event sev code d).sails = s.sails := by
  unfold State.event
  dsimp only
  split
  · rfl
  · split <;> rfl
@[simp] theorem State.event_sailCal (sev code : Nat) (d : List Byte) : (s.event sev code d).sailCal = s.sailCal := by
  unfold State.event
  dsimp only
  split
  · rfl
  · split <;> rfl
@[simp] theorem State.event_grids (sev code : Nat) (d : List Byte) : (s.event sev code d).grids = s.grids := by
  unfold State.event
  dsimp only
  split
  · rfl
  · split <;> rfl
@[simp] theorem State.event_streams (sev code : Nat) (d : List Byte) : (s.event sev code d).streams = s.streams := by
  unfold State.event
  dsimp only
  split
  · rfl
  · split <;> rfl
@[simp] theorem State.event_hop (sev code : Nat) (d : List Byte) : (s.event sev code d).hop = s.hop := by
  unfold State.event
  dsimp only
  split
  · rfl
  · split <;> rfl
@[simp] theorem State.event_leat (sev code : Nat) (d : List Byte) : (s.event sev code d).leat = s.leat := by
  unfold State.event
  dsimp only
  split
  · rfl
  · split <;> rfl
@[simp] theorem State.event_svc (sev code : Nat) (d : List Byte) : (s.event sev code d).svc = s.svc := by
  unfold State.event
  dsimp only
  split
  · rfl
  · split <;> rfl
@[simp] theorem State.event_twin (sev code : Nat) (d : List Byte) : (s.event sev code d).twin = s.twin := by
  unfold State.event
  dsimp only
  split
  · rfl
  · split <;> rfl
@[simp] theorem State.event_inputs (sev code : Nat) (d : List Byte) : (s.event sev code d).inputs = s.inputs := by
  unfold State.event
  dsimp only
  split
  · rfl
  · split <;> rfl
@[simp] theorem State.event_cmps (sev code : Nat) (d : List Byte) : (s.event sev code d).cmps = s.cmps := by
  unfold State.event
  dsimp only
  split
  · rfl
  · split <;> rfl
@[simp] theorem State.event_trips (sev code : Nat) (d : List Byte) : (s.event sev code d).trips = s.trips := by
  unfold State.event
  dsimp only
  split
  · rfl
  · split <;> rfl
@[simp] theorem State.event_scrims (sev code : Nat) (d : List Byte) : (s.event sev code d).scrims = s.scrims := by
  unfold State.event
  dsimp only
  split
  · rfl
  · split <;> rfl
@[simp] theorem State.event_safeOn (sev code : Nat) (d : List Byte) : (s.event sev code d).safeOn = s.safeOn := by
  unfold State.event
  dsimp only
  split
  · rfl
  · split <;> rfl
@[simp] theorem State.event_safeTicks (sev code : Nat) (d : List Byte) : (s.event sev code d).safeTicks = s.safeTicks := by
  unfold State.event
  dsimp only
  split
  · rfl
  · split <;> rfl
@[simp] theorem State.event_flash (sev code : Nat) (d : List Byte) : (s.event sev code d).flash = s.flash := by
  unfold State.event
  dsimp only
  split
  · rfl
  · split <;> rfl
@[simp] theorem State.event_power (sev code : Nat) (d : List Byte) : (s.event sev code d).power = s.power := by
  unfold State.event
  dsimp only
  split
  · rfl
  · split <;> rfl
@[simp] theorem State.event_pins (sev code : Nat) (d : List Byte) : (s.event sev code d).pins = s.pins := by
  unfold State.event
  dsimp only
  split
  · rfl
  · split <;> rfl
@[simp] theorem State.event_freeCtr (sev code : Nat) (d : List Byte) : (s.event sev code d).freeCtr = s.freeCtr := by
  unfold State.event
  dsimp only
  split
  · rfl
  · split <;> rfl
@[simp] theorem State.event_pending (sev code : Nat) (d : List Byte) : (s.event sev code d).pending = s.pending := by
  unfold State.event
  dsimp only
  split
  · rfl
  · split <;> rfl

/-- No entry outside record 0x1600 changes with an event. -/
theorem State.event_e (sev code : Nat) (d : List Byte) {k l : Nat} (hk : k ≠ 0x1600) (hl : l < 256) :
    (s.event sev code d).e k l = s.e k l := by
  have h7 : ekey k l ≠ ekey 0x1600 7 := fun h => hk ((ekey_inj hl (by decide)).1 h).1
  have h8 : ekey k l ≠ ekey 0x1600 8 := fun h => hk ((ekey_inj hl (by decide)).1 h).1
  unfold State.event
  dsimp only
  split
  · rfl
  · split
    · exact (State.e_setE_other _ _ h7).trans (State.e_setE_other _ _ h8)
    · exact State.e_setE_other _ _ h8

end Sys2Proof.Machine
end

