-- ==== Sys2Proof/WellFormed.lean ====
section
/-! DEFINITION. Commands that the outside world can send: operands that no frame, ordered set, request or measurement
of the spec can hold make a term ill-formed. What a host may send and the hub refuses is well formed. -/

namespace Sys2Proof

/-- Data of one SERVICE frame: at most 248 bytes (R411). -/
def dataFits (d : List (BitVec 8)) : Bool := decide (d.length ≤ 248)

/-- A row that writes a whole value, of at most 65,535 bytes (Table 15-1). -/
def valueFits (d : List (BitVec 8)) : Bool := decide (d.length ≤ 65535)

/-- The value of a port setting whose entry is a byte. -/
def settingFits (e : PortSetting) (v : BitVec 16) : Bool := decide (e ≠ .sense) || decide (v.toNat < 256)

/-- The value of an IEPE setting whose entry is a byte. -/
def iepeFits (e : IepeSetting) (v : BitVec 16) : Bool := decide (e = .current) || decide (v.toNat < 256)

/-- A run of received TRAIN sets holds at least one. -/
def trainFits (t : TrainRun) : Bool := decide (0 < t.count)

/-- Raw words of a TWIN_RAW frame: 1 to 127 (R356). -/
def wordsFit (w : List (BitVec 64)) : Bool := decide (1 ≤ w.length ∧ w.length ≤ 127)

/-- A RECORD item carries a marker of 48 bytes or a Ledger event of 64 (R366, R314). -/
def recordFits (b : List (BitVec 8)) : Bool := decide (b.length = 48 ∨ b.length = 64)

/-- A COPY command carries 8 to 1,008 record bytes (Table 13-4). -/
def copyFits (b : List (BitVec 8)) : Bool := decide (8 ≤ b.length ∧ b.length ≤ 1008)

/-- A SCRIM frame: 20 to 36 bytes, an even number (Table 12-7). -/
def scrimFits (b : List (BitVec 8)) : Bool := decide (20 ≤ b.length ∧ b.length ≤ 36) && decide (b.length % 2 = 0)

/-- Image types are 1 to 6 (Table 16-2). -/
def errorsFit (e : List FlashError) : Bool := e.all (fun x => decide (1 ≤ x.type.val))

/-- The same of the one error that a read back of flash reports. -/
def foundFits (e : FlashError) : Bool := decide (1 ≤ e.type.val)

/-- A command that the outside world can send. -/
def Instr.wf : Instr → Bool
  | .portSettingWrite _ _ e v => settingFits e v
  | .iepeSettingWrite _ _ e v => iepeFits e v
  | .soundingSweep _ d | .planCheck _ d | .laneTest _ d | .twinPair _ d | .persist _ d | .restoreDefaults _ d
  | .imageTest _ d | .imageInstall _ d => valueFits d
  | .coefficientsWrite _ _ d | .coefficientBlockWrite _ _ d | .codeLengthsWrite _ _ d => valueFits d
  | .trainReceived _ t => trainFits t
  | .twinRaw w => wordsFit w
  | .record _ b => recordFits b
  | .copy _ _ _ b => copyFits b
  | .scrimMessage b => scrimFits b
  | .write _ _ _ _ _ d | .downloadSegment _ _ _ _ _ d | .domainSegment _ _ _ _ _ d => dataFits d
  | .imageTestDone e | .start _ e => errorsFit e
  | .persistDone e | .imageInstallDone e => foundFits e.found
  | .incrementWrite .. | .setTime .. | .offsetAdjust .. | .stepApply .. | .governorModeWrite ..
  | .servoEnableWrite .. | .masterAcknowledge .. | .sync .. | .delayReq .. | .delayResp .. | .syncSend ..
  | .syncLoss .. | .ocxoRdyChange .. | .ppsPulse .. | .sensorModeWrite .. | .portModeWrite ..
  | .outputEnableWrite .. | .dissipationBudgetWrite .. | .budgetCheck .. | .dischargeComplete ..
  | .dischargeFail .. | .foldback .. | .foldbackRetry .. | .senseFault .. | .iepeOpen .. | .iepeShort ..
  | .iepeRetry .. | .rangeSettingWrite .. | .inputBiasWrite .. | .blankPin .. | .blankHangExpiry ..
  | .blankWindowStart .. | .blankWindowEnd .. | .excitationSettleEnd .. | .sealRead .. | .planStart ..
  | .rotationStart .. | .conversion .. | .evtQualify .. | .burstStart .. | .burstEnd .. | .gapRecord ..
  | .groupStop .. | .detectorSettingWrite .. | .soundingChannelDone .. | .tonePeriodEnd .. | .rawRecord .. | .firSetClear ..
  | .dieSensorRead .. | .sailEdge .. | .armTimeout .. | .gateEvent .. | .arm .. | .measureWindowEnd ..
  | .sailCalibration .. | .sailStartCalibrationDone .. | .queuePop .. | .sailQueueMark ..
  | .sailQueueRewind .. | .sailQueueRelease .. | .toothTimeout .. | .standstill .. | .phaseFlip ..
  | .suspend .. | .allocate .. | .planCheckComplete .. | .paceMeasure .. | .blockEncode ..
  | .userTableClear .. | .hopperMark .. | .hopperRewind .. | .rewindTo .. | .hopperRelease ..
  | .releaseThrough .. | .scrubPass .. | .portEnableWrite .. | .rateFallback .. | .testAcceptTimeout ..
  | .laneTestEnd .. | .frameReceived .. | .ack .. | .nak .. | .replayTimeout .. | .retrain .. | .portDown ..
  | .frameBoundary .. | .credit .. | .assign .. | .unplace .. | .linkReset .. | .pathLost ..
  | .pathRestored .. | .heartbeat .. | .heartbeatSend .. | .heartbeatSilence .. | .commit .. | .confirm ..
  | .twinCredit .. | .drop .. | .relinquish .. | .swapAt .. | .swapInstant .. | .twinRun .. | .twinStop ..
  | .pairBegin .. | .pairEnd .. | .roleSwap .. | .roleForcedSwap .. | .roleStepDown .. | .roleWaitExpiry ..
  | .partnerHeld .. | .excitationDeferredEnable .. | .proofDue .. | .resetPartner .. | .twrstN ..
  | .safetyTick .. | .debounceAccept .. | .discrepancyFault .. | .readbackFault .. | .tickOverrun ..
  | .testPulse .. | .inputAcknowledge .. | .tripAcknowledge .. | .comparatorStale ..
  | .comparatorInvalidHold .. | .scrimProduce .. | .scrimWatchdog .. | .scrimReset ..
  | .connectionEnableWrite .. | .read .. | .uploadSegment .. | .domainStart .. | .domainEnd .. | .cancel ..
  | .transferTimeout .. | .restoreDefaultsDone ..
  | .longOperationCancel .. | .cancellationDone .. | .eventPop .. | .eventLogMark .. | .eventLogRewind ..
  | .eventLogRelease .. | .powerOnReset .. | .ocxoClkMissing .. | .resetNLow .. | .pinReset .. | .pllLock ..
  | .watchdogExpiry .. | .watchdogWarning .. | .warmReset .. | .idleCommand .. | .runCommand ..
  | .stillCommand .. | .dormantCommand .. | .dormantWake .. | .railMeasure .. | .portDieRailFault ..
  | .portDieRailReturn .. | .tapInstruction .. | .regulationHoldsAgain .. | .firstWindowStart .. => true

end Sys2Proof
end

