-- ==== Sys2Proof/Tests/Slice0.lean ====
section
/-! SUPPORT. Small tests: terms that WellFormed refuses, single steps whose result the spec gives, and for every
statement with hypotheses a state and operands that meet them. -/

namespace Sys2Proof.Tests

set_option maxRecDepth 100000
set_option Elab.async false

open Sys2Proof Sys2Proof.Machine Sys2Proof.Claim

/-! ### States and operands -/

/-- A request from the north. -/
def rq : Req := ⟨7, false, false⟩

/-- A hub that is up in Idle, 0.25 s after reset. -/
def up : State :=
  { State.reset with power := { Power.reset with phase := .up }, dict := [], gov := { Gov.reset with ticks := 100000000 } }

/-- A port is UP. -/
def portUp (s : State) (k : Nat) : State :=
  (s.setE (0x3510 + k) 2 3).setPort k { s.port k with window := 2048, step := .final, rate := 1 }

/-- An enumerated hub, position 5 of chain 1, with ports N and S UP. -/
def hub : State := ((((portUp (portUp up 0) 2).setE 0x3500 1 1).setE 0x1018 3 0x45).setE 0x1018 1 1).setE 0x1018 2 5

/-- A member of a ladder pair in a role, its T port UP. -/
def twin (role : Nat) : State := { (portUp hub 4) with twin := { Twin.reset with heard := some 100 } }.setE 0x3600 1 role

/-- A gap marker held in the Hopper. -/
def gapRec : Rec := Rec.of 1 ([0x10] ++ zeros 47) 64 (some 0) 0 1 0 0 [] 0

/-- A Hopper queue with two gap markers, one of them sent. -/
def queue2 : HQueue := { HQueue.reset with
  recs := [gapRec, gapRec], release := 5, read := 6, front := 6, marks := [(3, 6)] }

/-- The hub with that queue. -/
def filled (s : State) : State := s.setHq 2 queue2

/-- A queue with two records and a mark between them. -/
def marked : MarkQueue := ((((MarkQueue.empty).push (zeros 16)).push (zeros 16)).pop 16).2.mark 3

/-- What a step leaves. -/
def after (c : Instr) (s : State) : State := match exec c s with | .next t => t | _ => s

/-! ### Ill-formed commands are refused -/

theorem test_wf_data : (Instr.write rq 0x2680 1 249 true (List.replicate 249 0)).wf = false := by decide +kernel
theorem test_wf_value : (Instr.coefficientsWrite rq 0 (List.replicate 65536 0)).wf = false := by
  simp only [Instr.wf, valueFits, List.length_replicate]; decide
theorem test_wf_setting : (Instr.portSettingWrite rq 0 .sense 256).wf = false := by decide +kernel
theorem test_wf_iepe : (Instr.iepeSettingWrite rq 0 .highPass 256).wf = false := by decide +kernel
theorem test_wf_train : (Instr.trainReceived .N ⟨⟨false, 0, false, false, false, false, false, false, false, 0, 0, 0⟩, 0, 0, true, true, 0, false⟩).wf = false := by
  decide +kernel
theorem test_wf_words : (Instr.twinRaw []).wf = false ∧ (Instr.twinRaw (List.replicate 128 0)).wf = false ∧
    (Instr.twinRaw (List.replicate 127 0)).wf = true := by decide +kernel
theorem test_wf_record : (Instr.record 0 (zeros 49)).wf = false ∧ (Instr.record 0 (zeros 64)).wf = true := by decide +kernel
theorem test_wf_copy : (Instr.copy 0 0 0 (zeros 7)).wf = false ∧ (Instr.copy 0 0 0 (zeros 1009)).wf = false ∧
    (Instr.copy 0 0 0 (zeros 1008)).wf = true := by decide +kernel
theorem test_wf_scrim : (Instr.scrimMessage (zeros 18)).wf = false ∧ (Instr.scrimMessage (zeros 21)).wf = false ∧
    (Instr.scrimMessage (zeros 36)).wf = true := by decide +kernel
theorem test_wf_errors : (Instr.imageTestDone [⟨0, false, .check, 0⟩]).wf = false ∧ (Instr.start true [⟨6, true, .check, 0⟩]).wf = true ∧
    (Instr.persistDone ⟨2, 0, false, .check, 0⟩).wf = false ∧ (Instr.imageInstallDone ⟨2, 0, false, .check, 0⟩).wf = false := by decide +kernel
theorem test_wf_good : (Instr.write rq 0x2680 1 1 true [3]).wf = true := by decide +kernel

/-! ### The whole hub -/

theorem wit_StepRunsFront : { up with pending := [.ppsPulse, .planStart] }.pending = Instr.ppsPulse :: [.planStart] := rfl

theorem wit_TickAdvancesTime : up.pending = [] ∧ up.nextDeferred = none ∧ up.power.phase ≠ .awaitPll ∧
    State.reset.pending = [] ∧ State.reset.nextDeferred = none ∧ State.reset.power.phase = .awaitPll := by decide +kernel

theorem wit_StepKeepsInvariant : hub.Inv := by
  unfold State.Inv State.canonical State.withinRoom; decide +kernel

theorem wit_NotUpNothingHappens : State.reset.isUp = false ∧ standing .planStart = false := by decide +kernel

/-! ### SERVICE -/

theorem wit_NamedWriteIsWrite : target (.setTime rq 1 5) = some (rq, (0x2302 : BitVec 16).toNat, (5 : BitVec 8).toNat, toBytes 12 5) ∧
    (toBytes 12 5).length < 65536 ∧ up.waits = false := by decide +kernel

theorem wit_WriteStores : plain (0x2681 : BitVec 16).toNat (2 : BitVec 8).toNat ∧ (toBytes 12 5).length < 65536 ∧
    accepted up rq (0x2681 : BitVec 16).toNat (2 : BitVec 8).toNat (toBytes 12 5) = true := by
  unfold plain; decide +kernel

theorem wit_WriteRefused_object : opens up rq (writeBytes rq 0x1001 1 [5]) = true ∧ objAt 0x1001 = none ∧
    (opened up rq 0x1001 1 [5]).writeTest false 0x1001 1 [5] ≠ 0 := by decide +kernel

theorem wit_WriteRefused_subindex : opens up rq (writeBytes rq 0x2300 0xFE [5]) = true ∧ (objAt 0x2300).isSome = true ∧
    rowAt 0x2300 0xFE = none ∧ (opened up rq 0x2300 0xFE [5]).writeTest false 0x2300 0xFE [5] ≠ 0 := by decide +kernel

theorem test_write_read_only : (after (.write rq 0x2301 9 8 true (zeros 8)) up).e 0x1300 3 = 0x03000002 := by decide +kernel

/-- A hub in a warm reset; one whose deferred requests are 8; one with 8 open transactions. -/
def warming : State := { up with power := { up.power with trans := .warm false } }
def warmFull : State := { warming with power := { warming.power with deferred := List.replicate 8 (.read rq 0x1000 0) } }
def txn (x : Xfer) : Txn := ⟨x, 0x2C00, 1, false, [1], 0⟩
def open7 (x : Xfer) : State := { up with svc := ⟨[(7, txn x)], []⟩ }
def open8 : State := { up with svc := ⟨(List.range 8).map (fun k => (k + 8, txn .executing)), []⟩ }

theorem wit_RequestsGuarded_waits : request (.read rq 0x1018 1) = some (rq, 0x1018, 1, readBytes rq 0x1018 1) ∧
    warming.isUp = true ∧ warming.waits = true ∧ warming.power.deferred.length < 8 ∧
    warmFull.isUp = true ∧ warmFull.waits = true ∧ 8 ≤ warmFull.power.deferred.length := by decide +kernel

theorem wit_RequestsGuarded_reserved : request (.read ⟨7, false, true⟩ 0x1018 1) =
    some (⟨7, false, true⟩, 0x1018, 1, readBytes ⟨7, false, true⟩ 0x1018 1) ∧
    up.isUp = true ∧ up.waits = false ∧ (Req.mk 7 false true).reservedSet = true := by decide +kernel

theorem wit_RequestsGuarded_repeat :
    (let s := { up with svc := ⟨[], [(7, readBytes rq 0x1018 1, [9])]⟩ }
     s.isUp = true ∧ s.waits = false ∧ rq.reservedSet = false ∧
     s.svc.stored.find? (fun e => decide (e.1 = rq.txn.toNat ∧ e.2.1 = readBytes rq 0x1018 1)) =
       some (rq.txn.toNat, readBytes rq 0x1018 1, [9])) := by decide +kernel

theorem wit_RequestsGuarded_opens : opensTransaction (.read rq 0x1018 1) = true ∧
    (let b := readBytes rq 0x1018 1
     let s := open7 .executing
     s.isUp = true ∧ through s rq b = true ∧ (s.svc.txns.lookup rq.txn.toNat).isSome = true ∧
     open8.isUp = true ∧ through open8 rq b = true ∧ (open8.svc.txns.lookup rq.txn.toNat).isSome = false ∧
     8 ≤ open8.svc.txns.length) := by decide +kernel

theorem wit_ReadsAnswer_value : ∃ row, rowAt 0x1018 3 = some row ∧ row.acc ≠ .wo ∧ row.ty ≠ .domain ∧
    opens up rq (readBytes rq 0x1018 3) = true ∧ up.derived 0x1018 3 = none ∧ clearMask 0x1018 3 = [] ∧
    up.isFree 0x1018 3 = false ∧ isPop 0x1018 3 = false :=
  ⟨(rowAt 0x1018 3).get (by decide +kernel), by decide +kernel⟩

theorem wit_ReadsAnswer_writeOnly : (rowAt 0x1600 4).map Row.acc = some .wo ∧ opens up rq (readBytes rq 0x1600 4) = true := by decide +kernel

theorem wit_ReadsAnswer_pops :
    (let s := { up with log := marked }
     opens s rq (readBytes rq 0x1600 1) = true ∧ (s.log.pop 32).1.length ≤ 248 ∧
     opens up rq (readBytes rq 0x2E07 0x0D) = true ∧ up.sailOwner 7 = none ∧ ((up.sailRun 7).queue.pop 16).1.length ≤ 248) := by decide +kernel

/-- A running Sail stream: its queue is not popped. -/
def sailStream : State := ((up.setE 0x4000 1 2).setE 0x4000 2 3).setStream 0 Stream.reset

theorem wit_PopsGiveTheOldest : marked.base ≤ marked.read ∧ marked.items[marked.read - marked.base]? = some (zeros 16) ∧
    MarkQueue.empty.base ≤ MarkQueue.empty.read ∧ MarkQueue.empty.items[MarkQueue.empty.read - MarkQueue.empty.base]? = none := by decide +kernel

theorem wit_SegmentsMove_read :
    (let s := { up with blobs := [(ekey 0x2C00 1, zeros 249)] }
     let v := (s.takeService (readBytes rq 0x2C00 1)).readValue 0x2C00 1
     opens s rq (readBytes rq 0x2C00 1) = true ∧ v.1 = 0 ∧ 248 < v.2.1.length) := by decide +kernel

theorem wit_SegmentsMove_upload :
    (let b := fun (t : Bool) => reqBytes 0x03 rq 0x2C00 1 t false 0 []
     through (open7 (.upload (zeros 300) 248 false none)) rq (b true) = true ∧
     (open7 (.upload (zeros 300) 248 false none)).svc.txns.lookup rq.txn.toNat = some (txn (.upload (zeros 300) 248 false none)) ∧
     (zeros 300).length ≤ 248 + 248 ∧ 248 + 248 < (zeros 497).length ∧
     through (open7 (.upload (zeros 497) 248 false none)) rq (b true) = true ∧
     through (open7 (.upload (zeros 300) 300 true (some [4]))) rq (b true) = true) := by decide +kernel

theorem wit_SegmentsMove_download :
    (let b := fun (t l : Bool) (d : List Byte) => reqBytes 0x04 rq 0x2C00 1 t l d.length d
     let s := open7 (.download 3 [1, 2] false [2])
     opens up rq (reqBytes 0x02 rq 0x2C00 1 false false 3 [1, 2]) = true ∧ [1, 2].length ≤ 3 ∧
     s.svc.txns.lookup rq.txn.toNat = some (txn (.download 3 [1, 2] false [2])) ∧
     through s rq (b true false [3]) = true ∧ ([1, 2] ++ [3]).length ≤ 3 ∧
     through s rq (b true true [3]) = true ∧ ([1, 2] ++ [3]).length = 3 ∧
     through s rq (b true false [3, 4]) = true ∧ 3 < ([1, 2] ++ [3, 4]).length ∧
     through s rq (b true true []) = true ∧ ([1, 2] ++ ([] : List Nat)).length < 3 ∧
     through s rq (b false false [2]) = true ∧ through s rq (b false false [5]) = true) := by decide +kernel

theorem wit_SegmentsMove_none : up.svc.txns.lookup rq.txn.toNat = none ∧
    through up rq (reqBytes 0x03 rq 0x2C00 1 true false 0 []) = true ∧
    through up rq (reqBytes 0x04 rq 0x2C00 1 true false 1 [1]) = true := by decide +kernel

theorem wit_TransfersMoveAndEnd_start :
    (let b := fun (n : Nat) => reqBytes 0x05 rq 0x1500 0x10 false false 4 (toBytes 4 n)
     opens up rq (b 4194304) = true ∧ up.domainOpen = false ∧ opens up rq (b 1) = true ∧
     (let s := { up with svc := ⟨[(8, txn (.domain 9 [] 0 false))], []⟩ }
      through s rq (b 1) = true ∧ s.domainOpen = true)) := by decide +kernel

theorem wit_TransfersMoveAndEnd_segment :
    (let b := fun (l : Bool) (n : Nat) => reqBytes 0x06 rq 0x1500 0x10 false l n [1]
     let s := open7 (.domain 9 [] 7 false)
     s.svc.txns.lookup rq.txn.toNat = some (txn (.domain 9 [] 7 false)) ∧
     through s rq (b false 6) = true ∧ 6 ≠ 7 ∧ through s rq (b false 7) = true ∧ (7 + 1) % 8 = 0 ∧
     through (open7 (.domain 9 [] 6 false)) rq (b true 6) = true ∧
     through (open7 (.domain 9 [] 6 false)) rq (b false 6) = true ∧ (6 + 1) % 8 ≠ 0 ∧
     through (open7 (.domain 9 [] 6 true)) rq (b false 6) = true) := by decide +kernel

theorem wit_TransfersMoveAndEnd_end :
    (let b := fun (c : Nat) => reqBytes 0x07 rq 0x1500 0x10 false false 4 (toBytes 4 c)
     let s := open7 (.domain 2 [1, 2] 1 true)
     s.svc.txns.lookup rq.txn.toNat = some (txn (.domain 2 [1, 2] 1 true)) ∧ [1, 2].length = 2 ∧
     through s rq (b (BitVec.ofNat 32 (crc32C [1, 2])).toNat) = true ∧ crc32C [1, 2] = (BitVec.ofNat 32 (crc32C [1, 2])).toNat ∧
     through s rq (b 0) = true ∧ crc32C [1, 2] ≠ 0) := by decide +kernel

theorem wit_TransfersMoveAndEnd_cancel :
    (let b := reqBytes 0x09 rq 0x2C00 1 false false 0 []
     through (open7 (.domain 9 [] 6 false)) rq b = true ∧ Xfer.domain 9 [] 6 false ≠ .executing ∧
     (open7 (.domain 9 [] 6 false)).svc.txns.lookup rq.txn.toNat = some (txn (.domain 9 [] 6 false)) ∧
     through (open7 .executing) rq b = true ∧ (open7 .executing).svc.txns.lookup rq.txn.toNat = some (txn .executing) ∧
     through up rq b = true ∧ up.svc.txns.lookup rq.txn.toNat = none) := by decide +kernel

theorem wit_TransfersMoveAndEnd_timeout :
    (let s := { (open7 (.domain 9 [] 6 false)) with gov := { Gov.reset with ticks := up.e 0x1300 5 * 400000 } }
     s.isUp = true ∧ s.svc.txns.lookup (7 : BitVec 8).toNat = some (txn (.domain 9 [] 6 false)) ∧
     (txn (.domain 9 [] 6 false)).since + s.e 0x1300 5 * 400000 ≤ s.gov.ticks) := by decide +kernel

/-! ### Queues with marks -/

/-- The event log and every queue with records and mark 3. -/
def marks : State := { (filled hub) with log := marked, sails := [(2, { SailRun.reset with queue := marked })] }

theorem wit_LogAndSailMarks : (∃ p, marks.log.markAt (3 : BitVec 8).toNat = some p) ∧ marks.log.markAt (4 : BitVec 8).toNat = none ∧
    accepted marks rq 0x1600 4 (toBytes 1 1) = true ∧
    (∀ v ∈ [3, 4], accepted marks rq 0x1600 5 (toBytes 1 v) = true ∧ accepted marks rq 0x1600 6 (toBytes 1 v) = true) ∧
    (∀ sub ∈ [0x10, 0x11, 0x12], accepted marks rq 0x2E02 sub (toBytes 1 3) = true) ∧
    (marks.sailRun 2).queue.markAt 3 ≠ none ∧ (marks.sailRun 2).queue.markAt 4 = none ∧ (marks.sailRun 2).armDue = false :=
  ⟨⟨1, by decide +kernel⟩, by decide +kernel⟩

theorem wit_HopperMarks :
    (let x := marks.hq 2
     (∀ sub ∈ [8, 9, 10], accepted marks rq 0x3412 sub (toBytes 1 3) = true) ∧ x.marks.lookup 3 = some 6 ∧
     accepted marks rq 0x3412 9 (toBytes 1 0) = true ∧ accepted marks rq 0x3412 9 (toBytes 1 4) = true ∧
     accepted marks rq 0x3412 10 (toBytes 1 4) = true ∧ x.marks.lookup 4 = none ∧
     accepted marks rq 0x3412 12 (toBytes 4 6) = true ∧ x.position 6 ≤ x.front ∧
     accepted marks rq 0x3412 12 (toBytes 4 7) = true ∧ x.front < x.position 7 ∧
     accepted marks rq 0x3412 11 (toBytes 4 5) = true ∧ x.position 5 < x.release + 2 ^ 31 ∧ x.position 5 < x.front ∧
     accepted marks rq 0x3412 11 (toBytes 4 6) = true ∧ x.position 6 < x.release + 2 ^ 31 ∧ x.front ≤ x.position 6 ∧
     accepted marks rq 0x3412 11 (toBytes 4 4) = true ∧ x.release + 2 ^ 31 ≤ x.position 4) := by decide +kernel

/-- A Sail whose queue a stream owns. -/
theorem wit_ReadsAnswer_owned :
    (let s := (((up.setE 0x4000 1 2).setE 0x4000 2 1).setE 0x4000 3 2)
     s.sailOwner 2 ≠ none ∧ opens s rq (readBytes rq 0x2E02 0x0D) = true) := by decide +kernel

/-! ### Long operations -/

/-- An operation reads a state. -/
def running (op st : Nat) : State := hub.setE (0x1400 + op) 2 st

/-- A hub whose flash is ready. -/
def ready (s : State) : State := s.setE 0x1500 1 1

/-- An image of a type, of two words in one raw block. -/
def imageOf (y : Nat) : List Byte :=
  let content := toBytes 4 1 ++ toBytes 4 2
  let head := toBytes 4 y ++ toBytes 4 8 ++ toBytes 4 1 ++ toBytes 4 (crc32C content) ++ toBytes 4 9 ++ zeros 8
  let block := [3, 0x10] ++ zeros 2 ++ zeros 4 ++ toBytes 2 2 ++ [0, 32] ++ zeros 20 ++ toBytes 2 56 ++ zeros 2 ++ toBytes 8 (2 ^ 64 - 1) ++ content
  head ++ toBytes 4 (crc32C head) ++ block ++ toBytes 4 (crc32C block)

def image : List Byte := imageOf 1

/-- The start arguments of each operation, and a hub on which it runs. -/
def argsOf (code : Nat) : List Byte := if code = 0x12 then toBytes 4 1 else if code = 0x30 then [2] else []
def at_ (code : Nat) : State :=
  (if code = 0x21 then hub.setE 0x1200 2 1 else if code = 0x40 then twin 5 else hub).setE (0x1400 + code) 2 1

theorem wit_OperationsStart_refused :
    (∀ code ∈ [0x10, 0x11, 0x12, 0x13, 0x20, 0x21, 0x30, 0x40],
      accepted (at_ code) rq (0x1400 + code) 1 (argsOf code) = true ∧
      (at_ code).startTest code 0 ≠ 0) := by decide +kernel

theorem wit_OperationsStart_flash :
    accepted (ready hub) rq 0x1410 1 [] = true ∧ (ready hub).startTest 0x10 0 = 0 ∧
    accepted hub rq 0x1411 1 [] = true ∧ hub.startTest 0x11 0 = 0 ∧
    accepted (ready hub) rq 0x1412 1 (toBytes 4 1) = true ∧ (ready hub).startTest 0x12 (ofBytes (toBytes 4 1)) = 0 ∧
    accepted (ready hub) rq 0x1412 1 (toBytes 4 6) = true ∧ (ready hub).startTest 0x12 (ofBytes (toBytes 4 6)) = 0 := by decide +kernel

theorem wit_OperationsStart_install :
    (let s := { ready hub with flash := { Flash.reset with staged := some image } }
     accepted (ready hub) rq 0x1413 1 [] = true ∧ (ready hub).startTest 0x13 (ofBytes []) = 0 ∧
     decodeImage ((ready hub).flash.staged.getD []) = .inl (4, 0xFFFF) ∧
     accepted s rq 0x1413 1 [] = true ∧ s.startTest 0x13 (ofBytes []) = 0 ∧
     decodeImage (s.flash.staged.getD []) = .inr (1, 9, toBytes 4 1 ++ toBytes 4 2)) ∧
    (let s := { ready hub with flash := { Flash.reset with staged := some (imageOf 7) } }
     accepted s rq 0x1413 1 [] = true ∧ s.startTest 0x13 (ofBytes []) = 0 ∧
     decodeImage (s.flash.staged.getD []) = .inr (7, 9, toBytes 4 1 ++ toBytes 4 2)) := by decide +kernel

/-- A hub of the pair whose partner is a matching standby that is not paired. -/
def mayPair (k : Nat) : State :=
  let s := (twin k).setE 0x2690 1 0
  { s with twin := { Twin.reset with partner := some 1, product := some s.product, energy := some 0, partnerIdle := true, heard := some 100 } }

/-- A tone on one of the dies, in the middle of its hold phase. -/
def sounding (s : State) : State :=
  s.setTone 1 { Tone.reset with chan := some 300, freq := 1000, hold := 4, periods := 9, holdFrom := 8, holdAt := some 5 }

/-- One that has fallen. -/
def fallen (s : State) : State :=
  s.setTone 1 { Tone.reset with chan := some 300, freq := 1000, periods := 30, holdFrom := 8, fallFrom := some 12, fallAt := some 9 }

theorem wit_OperationsStart_others :
    accepted hub rq 0x1420 1 [] = true ∧ hub.startTest 0x20 (ofBytes []) = 0 ∧
    (let s := hub.setE 0x1200 2 1
     accepted s rq 0x1421 1 [] = true ∧ s.startTest 0x21 (ofBytes []) = 0 ∧
     accepted (sounding s) rq 0x1421 1 [] = true ∧ (sounding s).startTest 0x21 (ofBytes []) = 0 ∧ ((sounding s).tone 1).chan ≠ none) ∧
    accepted hub rq 0x1430 1 [2] = true ∧ ofBytes [2] = 2 ∧ hub.startTest 0x30 2 = 0 ∧
    (let s := mayPair 5
     accepted s rq 0x1440 1 [] = true ∧ s.startTest 0x40 (ofBytes []) = 0) := by decide +kernel

theorem wit_OperationsCancelAndEnd_cancel :
    (∀ op ∈ [LongOp.persist, .restoreDefaults, .imageTest, .imageInstall, .planCheck, .soundingSweep, .laneTest, .twinPair],
      accepted (running (longOpCode op) 1) rq (0x1400 + longOpCode op) 5 (toBytes 1 1) = true ∧
      (running (longOpCode op) 1).e (0x1400 + longOpCode op) 2 = 1 ∧
      accepted hub rq (0x1400 + longOpCode op) 5 (toBytes 1 1) = true ∧ hub.e (0x1400 + longOpCode op) 2 ≠ 1 ∧
      (running (longOpCode op) 2).isUp = true ∧ (running (longOpCode op) 2).e (0x1400 + longOpCode op) 2 = 2) ∧
    (hub.tone 0).chan = none ∧ (hub.tone 1).chan = none ∧ (running 0x30 2).testedPort = none ∧
    hub.power.trans = .none ∧ ((sounding (running 0x21 1)).tone 1).chan ≠ none ∧
    accepted (sounding (running 0x21 1)) rq 0x1421 5 (toBytes 1 1) = true := by decide +kernel

theorem wit_OperationsCancelAndEnd_done :
    (let s := { (running 0x10 1) with flash := { Flash.reset with snapshot := some [(1, []), (2, [])] } }
     s.isUp = true ∧ s.e 0x1410 2 = 1 ∧ s.flash.snapshot = some [(1, []), (2, [])] ∧
     ([(1, []), (2, [])].map (Prod.fst : Nat × List (Nat × List Byte) → Nat)).Nodup) ∧
    (running 0x11 1).isUp = true ∧ (running 0x11 1).e 0x1411 2 = 1 ∧ (running 0x12 1).e 0x1412 2 = 1 ∧
    (let s := { (running 0x13 1) with flash := { Flash.reset with install := some (1, ⟨9, []⟩) } }
     s.isUp = true ∧ s.e 0x1413 2 = 1 ∧ s.flash.install = some (1, ⟨9, []⟩)) ∧
    (running 0x20 1).isUp = true ∧ (running 0x20 1).e 0x1420 2 = 1 ∧ (running 0x20 1).power.trans = .none ∧
    (running 0x20 1).checkFault = none ∧ (running 0x20 1).e 0x1420 3 ≤ 1000 := by decide +kernel

/-! ### The Governor -/

theorem wit_TimeValuesHold : (rowAt (0x2302 : BitVec 16).toNat (5 : BitVec 8).toNat).map Row.ty = some .time96 ∧
    (let v : BitVec 96 := BitVec.ofNat 96 (1000000000 * 2 ^ 16)
     1000000000 ≤ v.toNat / 2 ^ 16 % 2 ^ 30 ∧ opens hub rq (writeBytes rq 0x2302 5 (toBytes 12 v.toNat)) = true) := by decide +kernel

theorem wit_GovernorModeKeepsTime : (hub.setE 0x1200 2 1).e 0x1200 2 ≠ 0 ∧
    opens (hub.setE 0x1200 2 1) rq (writeBytes rq 0x2300 1 (toBytes 1 0)) = true ∧
    (∀ v ∈ [0, 1], accepted hub rq 0x2300 1 (toBytes 1 v) = true) ∧ (∀ k ∈ List.range 4, 0 ≤ hub.fine k) := by decide +kernel

/-- A hub whose domains 0 to 3 are in a state, servo off. -/
def domains (st : Nat) : State := (List.range 4).foldl (fun s d => s.setE (0x2301 + d) 7 st) (hub.setE 0x2300 2 0)

theorem wit_IncrementWriteKeepsTime : ∀ d ∈ [0, 3], accepted (domains 1) rq (0x2301 + d) 3 (toBytes 8 (0x28000 * 2 ^ 32 + 1)) = true := by decide +kernel

/-- A hub with a pending step of one domain. -/
def stepping (d : Nat) (q : StepReq) : State := hub.setDom d { hub.dom d with step := some q }

theorem wit_StepsRequested :
    accepted (domains 0) rq 0x2301 5 (toBytes 12 5) = true ∧ accepted hub rq 0x2304 6 (toBytes 8 5) = true ∧ ((domains 0).dom 0).step = none ∧
    stepAllowed (domains 0) 0 ((domains 0).stepSize 0 (.setTo (ofTime96 5))) ∧ stepAllowed hub 3 (hub.stepSize 3 (.by 5)) ∧
    (let s := stepping 3 (.by 5)
     accepted s rq 0x2304 6 (toBytes 8 5) = true ∧ (s.dom 3).step ≠ none) ∧
    (let s := hub.setE 0x2304 7 1
     let x := (s.e 0x2300 3 + 1) * 65536
     accepted s rq 0x2304 6 (toBytes 8 x) = true ∧ (s.dom 3).step = none ∧ ¬stepAllowed s 3 (s.stepSize 3 (.by x)) ∧
     stepAllowed s 3 (s.stepSize 3 (.by (s.e 0x2300 3 * 65536 : Nat)))) := by
  unfold stepAllowed; decide +kernel

theorem wit_StepApplied : (stepping 0 (.by 5)).power.phase ≠ .awaitPll ∧ ((stepping 0 (.by 5)).dom 0).step = some (.by 5) ∧
    stepAllowed (stepping 0 (.by 5)) 0 5 ∧ ((stepping 3 (.setTo 7)).dom 3).step = some (.setTo 7) ∧
    stepAllowed (stepping 3 (.setTo 7)) 3 (7 - (stepping 3 (.setTo 7)).time 3) ∧
    ((stepping 3 (.half 7)).dom 3).step = some (.half 7) ∧ stepAllowed (stepping 3 (.half 7)) 3 (rhe 7 1) := by
  unfold stepAllowed; decide +kernel

theorem wit_GovernorSettings : accepted (domains 1) rq 0x2300 2 (toBytes 1 1) = true ∧ accepted (domains 3) rq 0x2300 2 (toBytes 1 0) = true ∧
    accepted (domains 5) rq 0x2304 0x0D (toBytes 1 1) = true ∧ (domains 5).e 0x2304 7 = 5 ∧
    accepted (domains 1) rq 0x2304 0x0D (toBytes 1 1) = true ∧ (domains 1).e 0x2304 7 ≠ 5 := by decide +kernel

/-- A timing frame of domain 0 from master 7. -/
def timing : TimingMsg := ⟨0, false, false, 0, 5, 100, 7, 0⟩

theorem wit_TimingFrames : hub.isUp = true ∧ hub.consumes = true ∧ (domains 1).consumes = true ∧ hub.up (portIdx .N) = true ∧ portIdx .N = hub.timingPort ∧
    hub.chainDomain timing.domain.toNat = true ∧ hub.e 0x2301 7 ≠ 5 ∧
    hub.up (portIdx .S) = true ∧ portIdx .S ∈ hub.downstream ∧ hub.e 0x3500 1 = 1 ∧ portIdx .N ∉ hub.downstream ∧
    (domains 1).isUp = true ∧ (domains 1).chainDomain (0 : Fin 4) = true ∧ (domains 1).e 0x2301 7 ≠ 0 ∧
    Tbl.get 0 (domains 1).gov.nextSync 0 ≤ (domains 1).gov.ticks := by decide +kernel

theorem wit_MeasurementReported :
    (let s := ((domains 1).setE 0x2301 0x0C 7).setDom 0 { Dom.reset with xchg := some ⟨1, 2, 5, some 4⟩ }
     s.isUp = true ∧ s.consumes = true ∧ s.up (portIdx .N) = true ∧ portIdx .N = s.timingPort ∧ s.chainDomain timing.domain.toNat = true ∧
     s.e (0x2301 + timing.domain.toNat) 7 ≠ 5 ∧ s.e (0x2301 + timing.domain.toNat) 0x0C = timing.master.toNat ∧ timing.master.toNat ≠ 0 ∧
     (s.dom timing.domain.toNat).xchg = some ⟨1, 2, timing.seq.toNat, some 4⟩) := by decide +kernel

theorem wit_HoldoverAndPps :
    (let s := (domains 3).setDom 0 { Dom.reset with lastValid := some 0 }
     s.power.phase ≠ .awaitPll ∧ s.gov.ticks < 1 + s.e 0x2300 6 * 400000000 ∧
     { s with gov := { s.gov with ticks := s.e 0x2300 6 * 400000000 } }.syncLost 0 = true) ∧
    hub.power.phase ≠ .awaitPll ∧ hub.pins.ocxoRdy ≠ !hub.pins.ocxoRdy ∧
    (let s := (domains 1).setE 0x2307 1 1
     { s with gov := { s.gov with ticks := 0 } }.ppsDue = true) := by decide +kernel

/-! ### Inputs, excitation and blanking -/

/-- A fitted hub: the energy class and the excitation voltages are known; port 3 is a voltage port, channel 12 an IEPE
channel of port 3. -/
def fitted : State := ((hub.setE 0x2690 1 0).setE 0x2690 2 20000).setE 0x2690 3 20000
def voltage : State := fitted.setE 0x2603 1 1
def isOn (s : State) (g : Nat) : State := s.setXport g { XPort.reset with on := true }

theorem wit_InputSettings_channels : accepted (hub.setE 0x2603 1 3) rq 0x240C 1 (toBytes 1 4) = true ∧ accepted hub rq 0x25FF 1 (toBytes 1 0) = true ∧
    (∀ sub ∈ [2, 3, 4, 5], accepted hub rq 0x240C sub (toBytes 1 1) = true) ∧
    accepted (hub.setE 0x2790 1 1) rq 0x240C 3 (toBytes 1 1) = true ∧
    accepted hub rq 0x240C 8 (toBytes 1 1) = true ∧ accepted hub rq 0x240C 0x11 (toBytes 1 0) = true ∧
    accepted hub rq 0x240C 0x14 (toBytes 1 1) = true := by decide +kernel

theorem wit_InputSettings_ports :
    (let s := isOn voltage 3
     (∀ x ∈ [(2, 5000), (3, 600), (5, 10000), (6, 1000), (7, 5000)], accepted s rq 0x2603 x.1 (toBytes 2 x.2) = true) ∧
     accepted s rq 0x2603 4 (toBytes 1 0) = true ∧ accepted s rq 0x240C 10 (toBytes 2 3000) = true ∧ accepted s rq 0x240C 11 (toBytes 1 1) = true ∧
     (s.setE 0x2603 2 5000).overClass 3 = false ∧ (s.xport 3).on = true ∧ (s.setE 0x2603 2 5000).enableTest 3 = none) ∧
    (let s := voltage.setE 0x2690 1 4
     accepted s rq 0x2603 2 (toBytes 2 8000) = true ∧ (s.setE 0x2603 2 (ofBytes (toBytes 2 8000))).overClass 3 = true) := by decide +kernel

theorem wit_InputSettings_mode :
    (let s := (fitted.setE 0x2690 1 4).setE 0x2603 2 8000
     accepted s rq 0x2603 1 (toBytes 1 1) = true ∧ (s.setE 0x2603 1 1).overClass 3 = true ∧
     accepted s rq 0x2603 1 (toBytes 1 0) = true ∧ (s.setE 0x2603 1 0).overClass 3 = false) ∧
    accepted voltage rq 0x2690 6 (toBytes 2 1000) = true ∧ voltage.dieTotal 0 ≤ 1000 * 1000000 ∧ voltage.dieTotal 1 ≤ 1000 * 1000000 ∧
    (let s := (List.range 7).foldl (fun s g => isOn (s.setE (0x2600 + g) 1 1) g) fitted
     accepted s rq 0x2690 6 (toBytes 2 1000) = true ∧ 1000 * 1000000 < s.dieTotal 0) := by decide +kernel

theorem wit_OutputEnable : accepted voltage rq 0x2603 9 (toBytes 1 0) = true ∧ accepted voltage rq 0x2603 9 (toBytes 1 1) = true ∧
    (voltage.xport 3).on = false ∧ voltage.enableTest 3 = none ∧ voltage.mayDrive = true ∧ voltage.railOut 3 = false ∧
    (voltage.xport 3).deferred = false ∧
    accepted (isOn voltage 3) rq 0x2603 9 (toBytes 1 1) = true ∧ ((isOn voltage 3).xport 3).on = true ∧
    (let s := voltage.setXport 3 { XPort.reset with deferred := true }
     accepted s rq 0x2603 9 (toBytes 1 1) = true ∧ (s.xport 3).on = false ∧ s.enableTest 3 = none ∧ (s.xport 3).deferred = true) ∧
    (let s := { voltage with power := { voltage.power with railA := true } }
     accepted s rq 0x2603 9 (toBytes 1 1) = true ∧ s.enableTest 3 = none ∧ s.railOut 3 = true) ∧
    (let s := voltage.setE 0x1200 2 2
     accepted s rq 0x2603 9 (toBytes 1 1) = true ∧ s.enableTest 3 = none ∧ s.mayDrive = false) ∧
    (let s := (hub.setE 0x2603 1 1).setE 0x2690 1 0xFF
     accepted s rq 0x2603 9 (toBytes 1 1) = true ∧ (s.xport 3).on = false ∧ s.enableTest 3 = some (0x05000003, some 6)) := by decide +kernel

theorem wit_PortAndIepeEvents :
    (let s := voltage.setXport 3 { XPort.reset with discharging := true }
     (s.xport 3).discharging = true ∧ s.isUp = true ∧ (s.xport 3).dischargeFail = false ∧ (s.xport 3).settleTo ≤ s.now) ∧
    (let s := isOn voltage 3
     (s.xport 3).on = true ∧ s.e 0x2603 1 = 1 ∧ (s.xport 3).foldback = false) ∧
    (voltage.setXport 3 { XPort.reset with foldback := true }).isUp = true ∧ hub.power.phase ≠ .awaitPll ∧
    (let s := ((isOn fitted 3).setE 0x2603 1 3).setE 0x240C 1 4
     s.isUp = true ∧ (s.xport (12 / 4)).on = true ∧ s.e 0x2603 1 = 3 ∧ s.e 0x240C 1 = 4 ∧ (s.chan 12).iepeFolded = false ∧
     (1999 : BitVec 16).toNat < 2000 ∧ 2000 ≤ (2000 : BitVec 16).toNat ∧
     ((s.setChan 12 { s.chan 12 with iepeFolded := true }).chan 12).iepeFolded = true) := by decide +kernel

theorem wit_BlankingTimes : hub.isUp = true ∧
    (let s := { hub with blanks := [(3, ⟨none, some 0⟩)] }
     s.isUp = true ∧ (Tbl.get (Blank.mk none none) s.blanks 3).hangEnd = some 0 ∧ 0 ≤ s.now) ∧
    (let s := (hub.setE 0x2688 1 1).setE 0x2688 3 5
     let s := { s with gov := { s.gov with ticks := 0 } }
     s.isUp = true ∧ s.windowStart 7 s.now = some 0 ∧ s.now < 0 + ((s.e 0x2688 3 * 65536 : Nat) : Int)) ∧
    (∀ a, hub.windowStart 7 hub.now = some a → a + ((hub.e 0x2688 3 * 65536 : Nat) : Int) ≤ hub.now) := by
  refine ⟨by decide +kernel, by decide +kernel, by decide +kernel, fun a h => ?_⟩
  rw [show hub.windowStart 7 hub.now = none by decide +kernel] at h
  cases h

theorem wit_BudgetAndSeal : hub.isUp = true ∧ (0x1234 : BitVec 16).toNat ≠ hub.e 0x3810 1 ∧ (0 : BitVec 16).toNat = hub.e 0x3810 1 ∧
    (0x1234 : BitVec 16).toNat / 4096 % 8 ≠ hub.e 0x3810 1 / 4096 % 8 ∧ hub.power.classChanged = false := by decide +kernel

/-! ### The sample plan, wire faults, Sounding and the Millstones -/

/-- Group 3 has a rotation of one entry and a period of 100 slots, in a running plan. -/
def plan (g : Group) : State :=
  (((((hub.setE 0x2703 1 1).setE 0x2703 2 100).setE 0x2790 1 1).setE 0x1200 2 1)).setGroup 3 g

/-- The group waits for the EVT input 1. -/
def evtPlan (g : Group) : State := (plan g).setE 0x2703 3 2

theorem wit_PlanStarts :
    (let s := { ((plan Group.reset).setE 0x2790 1 0) with power := { hub.power with trans := .start } }
     s.isUp = true ∧ s.startDue = true ∧ 3 < s.groupCount ∧ 0 < s.e 0x2703 1 ∧ s.e 0x2703 3 = 0 ∧
     (s.setE 0x2703 3 2).startDue = true) := by decide +kernel

theorem wit_RotationsAndConversions_rotation :
    (let s := plan { Group.reset with nextStart := some 0 }
     s.isUp = true ∧ s.rotationDue 3 = some 0 ∧ (s.group 3).fresh = false ∧
     (plan { Group.reset with nextStart := some 0, fresh := true }).rotationDue 3 = some 0 ∧ s.role ≠ 3 ∧ (s.group 3).missing = [] ∧
     (s.setE 0x3600 1 3).rotationDue 3 = some 0 ∧ (s.setE 0x3600 1 3).role = 3) := by decide +kernel

theorem wit_RotationsAndConversions_conversion :
    (let s := plan { Group.reset with origin := some 0 }
     s.isUp = true ∧ (s.group 3).origin = some 0 ∧ s.nextEntry 3 0 = some 0 ∧ entryKind ((s.entries 3).getD 0 0) = 0 ∧
     (s.group 3).second = false ∧ s.scheduled 3 0 0 false ≤ s.now ∧ s.railOut 3 = false ∧ (s.group 3).buf.length < 64 ∧
     (s.group 3).missing = [] ∧ (s.group 3).trim = none ∧ (s.chan 12).hold = 0 ∧ (s.xport 3).discharging = false ∧
     (let s := { s with power := { s.power with railA := true } }
      s.railOut 3 = true ∧ s.nextEntry 3 0 = some 0) ∧
     (let s := s.setE 0x2703 5 1
      s.interleaved 3 = true ∧ s.scheduled 3 0 0 true ≤ s.now)) := by decide +kernel

/-- A last raw sample of a channel. -/
def raw12 : Raw := ⟨12, 0, false, false, 0, 0, false, 5, 10, 10, false, []⟩

theorem wit_RotationsAndConversions_check :
    (let s := ((plan { Group.reset with origin := some 0 }).setE 0x2703 0x11 0x8000).setE 0x240C 0x11 1
     let s := s.setChan 12 { s.chan 12 with lastRaw := some 5 }
     s.isUp = true ∧ (s.group 3).origin = some 0 ∧ s.nextEntry 3 0 = some 0 ∧ entryKind ((s.entries 3).getD 0 0) ≠ 0 ∧
     (s.group 3).second = false ∧ s.scheduled 3 0 0 false ≤ s.now ∧ s.listening = false ∧ s.railOut 3 = false ∧
     entryChan 3 ((s.entries 3).getD 0 0) = 12 ∧ (s.chan 12).lastRaw ≠ none ∧ s.blanked 12 s.now = false) := by decide +kernel

theorem wit_EvtBursts_pulse :
    (let s := (evtPlan Group.reset).setE 0x2781 1 3
     s.isUp = true ∧ s.e 0x2781 1 = 3 ∧ s.e 0x2781 2 ≤ (s.e 0x2781 3) ∧ (s.e 0x2781 3) < 2 ^ 32 ∧ s.inBurst 1 = false ∧ s.triggered 1 ≠ [] ∧
     s.planState = 1 ∧ 0 < s.e 0x2781 2 ∧ ({ s with evtFire := [(1, 0)] }).inBurst 1 = true) := by decide +kernel

theorem wit_EvtBursts_burst :
    (let s := { (evtPlan Group.reset) with evtFire := [(1, 0)] }
     s.isUp = true ∧ s.evtFire.lookup (1 : Fin 4).val = some 0 ∧ 0 ≤ s.now ∧ s.planState = 1 ∧ 3 ∈ s.triggered 1 ∧
     (s.setE 0x2790 1 2).planState ≠ 1) ∧
    (let s := evtPlan { Group.reset with origin := some 0, entry := 1 }
     s.isUp = true ∧ s.planState = 1 ∧ s.e 0x2703 3 ≠ 0 ∧ (s.group 3).burstLeft = 0 ∧ (s.group 3).origin = some 0 ∧
     s.nextEntry 3 0 = none ∧ 0 + s.e 0x2703 2 * (200 * 65536) ≤ s.now) := by decide +kernel

theorem wit_GapsStopsRecords :
    (let s := plan { Group.reset with missing := [⟨12, 3, [7]⟩], buf := List.replicate 63 raw12 }
     s.isUp = true ∧ (s.group 3).missing = [⟨12, 3, [7]⟩] ∧ (s.group 3).buf.length < 64) ∧
    (let s := (plan { Group.reset with stopping := true }).setE 0x2790 1 2
     s.isUp = true ∧ s.planState = 2 ∧ (s.group 3).stopping = true ∧ s.rotationDone 3 = true ∧ (s.group 3).buf = []) ∧
    (let s := (plan { Group.reset with buf := [raw12] }).setMill 12 { Mill.reset with running := true }
     s.isUp = true ∧ (s.group 3).buf = raw12 :: [] ∧ (s.group 3).missing = [] ∧ s.role ≠ 3 ∧ raw12.gap = false ∧
     (s.mill raw12.chan).running = true) ∧
    (let s := (plan { Group.reset with buf := [raw12] }).setE 0x3600 1 3
     s.isUp = true ∧ (s.group 3).buf = raw12 :: [] ∧ s.role = 3) ∧
    (plan Group.reset).isUp = true ∧ ((plan Group.reset).group 3).buf = [] ∧ (plan Group.reset).planState ≠ 2 := by decide +kernel

theorem wit_SoundingSteps :
    (let s := fallen (running 0x21 1)
     s.isUp = true ∧ (s.tone (dieIdx .B)).chan = some 300 ∧ (s.tone 1).fallFrom = some 12 ∧ 12 + 8 ≤ (s.tone 1).periods ∧
     300 ∉ (s.tone 1).todo ∧ (s.tone 1).cancelled = false ∧
     ((s.setTone 1 { s.tone 1 with cancelled := true }).tone 1).cancelled = true ∧ s.e 0x1421 2 = 1 ∧ (s.tone 1).todo = [] ∧
     (s.tone (1 - dieIdx .B)).chan = none ∧ (s.tone 0).todo = []) ∧
    (let s := sounding (running 0x21 1)
     s.tonePeriodDue (dieIdx .B) = true ∧ s.tonePeriodDue (dieIdx .A) = false) := by decide +kernel

/-- Three taps; user code lengths that have a canonical code. -/
def taps : List Byte := toBytes 3 5 ++ toBytes 3 6 ++ toBytes 3 5
def lengths : List Byte := [0x43] ++ zeros 16

theorem wit_SetsAndTablesWritten_sets : accepted hub rq 0x2C1F 1 taps = true ∧ accepted hub rq 0x2C1F 7 (toBytes 1 1) = true ∧
    hub.setUsers 31 = 0 ∧
    (let s := (hub.setE 0x280C 4 31).setMill 12 { Mill.reset with running := true }
     accepted s rq 0x2C1F 1 taps = true ∧ s.setUsers 31 ≠ 0) ∧
    accepted hub rq 0x2BFF 0x19 (zeros 96) = true := by decide +kernel

theorem wit_SetsAndTablesWritten_tables : accepted hub rq 0x3207 1 (zeros 17) = true ∧ badLengths (zeros 17) = true ∧
    accepted hub rq 0x3207 1 lengths = true ∧ badLengths lengths = false ∧ hub.tableUsers 7 = 0 ∧
    accepted hub rq 0x3207 5 (toBytes 1 1) = true ∧
    (let s := ((hub.setE 0x4000 0x12 1).setE 0x4000 13 23).setStream 0 { Stream.reset with produced := true }
     accepted s rq 0x3207 1 lengths = true ∧ s.tableUsers 7 ≠ 0) := by decide +kernel

/-! ### Sail, the angle grids and the streams -/

theorem wit_AllocateArmFlipSuspend_allocate : accepted hub rq 0x3100 2 (toBytes 1 1) = true ∧ hub.freeStream = some 0 ∧
    (hub.setE 0x4000 1 1).freeStream = some 1 := by decide +kernel

/-- Sail 2 in a mode, on both edges, its gate the Arm command. -/
def sailing (m : Nat) : State := (((hub.setE 0x2E02 1 1).setE 0x2E02 2 m).setE 0x2E02 3 3).setE 0x2E02 5 0x10

/-- With its run as given. -/
def sailingWith (m : Nat) (x : SailRun) : State := (sailing m).setSail 2 x

theorem wit_AllocateArmFlipSuspend_arm :
    (let s := sailing 2
     accepted s rq 0x2E02 0x0C (toBytes 1 1) = true ∧ s.e 0x2E02 5 = 0x10 ∧ s.e 0x2E02 1 ≠ 0 ∧ s.e 0x2E02 2 = 2 ∧ (s.sailRun 2).armed = false ∧
     (s.sailRun 2).queue.occupancy + s.e 0x2E02 8 + 1 ≤ 1024) ∧
    (let s := sailingWith 2 { SailRun.reset with queue := { MarkQueue.empty with items := List.replicate 1024 (zeros 16) } }
     accepted s rq 0x2E02 0x0C (toBytes 1 1) = true ∧ ¬((s.sailRun 2).queue.occupancy + s.e 0x2E02 8 + 1 ≤ 1024)) ∧
    accepted hub rq 0x2E02 0x0C (toBytes 1 1) = true ∧ hub.e 0x2E02 1 = 0 := by decide +kernel

theorem wit_AllocateArmFlipSuspend_grid : accepted ((hub.setE 0x2F03 7 2).setE 0x1200 2 1) rq 0x2F03 0x0E (toBytes 1 1) = true ∧
    (let s := hub.setE 0x2F03 0x10 3
     accepted s rq 0x2F03 0x0F (toBytes 1 1) = true ∧ s.e 0x2F03 0x10 = 3 ∧ s.streamsOfGrid 3 = []) ∧
    accepted (hub.setE 0x2F03 0x10 6) rq 0x2F03 0x0F (toBytes 1 0) = true := by decide +kernel

theorem wit_SailMeasures_edge :
    (let s := sailing 1
     s.isUp = true ∧ s.e 0x2E02 1 ≠ 0 ∧ sailMode s 2 = 1 ∧ bit (s.e 0x2E02 3) 0 = true ∧ s.e 0x2E02 4 ≤ 1 ∧ (s.sailRun 2).lastStamped = none ∧
     s.stopUsers 2 true = [] ∧ (∀ a ∈ List.range 4, 2 ∉ [s.e (0x2F00 + a) 2, s.e (0x2F00 + a) 6, s.e (0x2F00 + a) 10]) ∧ s.sailOwner 2 = none ∧
     (s.sailRun 2).armed = false) ∧
    (let s := sailingWith 1 { SailRun.reset with armed := true }
     (s.sailRun 2).armed = true ∧ (s.sailRun 2).queue.items.length < 1024) ∧
    (hub.e 0x2E02 1 = 0) ∧ 1 < ((sailing 1).setE 0x2E02 4 2).e 0x2E02 4 ∧
    (let s := sailingWith 1 { SailRun.reset with lastStamped := some (100000000 * 512 - 409) }
     5 * ((s.gov.ticks : Int) * 512 - 0 - (100000000 * 512 - 409)) < 2048) := by decide +kernel

theorem wit_SailMeasures_gate :
    (let s := (sailing 2).setE 0x2E13 1 1
     let s := s.setE 0x2E02 5 3
     s.isUp = true ∧ bit s.pins.gate 3 ≠ true ∧ bit s.pins.gate 3 = false ∧ s.e 0x2E13 1 = 1 ∧ sailMode s 2 = 2 ∧ s.e 0x2E02 5 = 3 ∧
     (s.sailRun 2).armed = false ∧ (s.sailRun 2).queue.items.length + s.e 0x2E02 8 + 1 ≤ 1024) ∧ hub.e 0x2E13 1 = 0 := by decide +kernel

theorem wit_SailMeasures_timeout :
    (let s := (sailingWith 2 { SailRun.reset with armed := true }).setE 0x2E02 9 1
     s.isUp = true ∧ s.sailTimedOut 2 = true ∧ s.e 0x2E02 5 ≠ 0xFF ∧ s.sailOwner 2 = none ∧ sailMode s 2 = 2 ∧
     (s.sailRun 2).queue.items.length + 1 + (s.sailRun 2).stops.length ≤ 1024) ∧
    (let s := (sailingWith 1 { SailRun.reset with armed := true }).setE 0x2E02 9 1
     s.isUp = true ∧ s.sailTimedOut 2 = true ∧ sailMode s 2 = 1) := by decide +kernel

theorem wit_SailMeasures_window :
    (let s := sailingWith 3 { SailRun.reset with winAt := some 5 }
     s.isUp = true ∧ s.windowDone 2 = some 5 ∧ s.sailOwner 2 = none ∧ (s.sailRun 2).queue.items.length + 2 ≤ 1024) ∧
    hub.windowDone 2 = none ∧
    (let s := sailingWith 3 { SailRun.reset with winDue := some 5 }
     (s.sailRun 2).winDue = some 5 ∧ 3 ≤ sailMode s 2 ∧ 5 ≤ s.now) := by decide +kernel

theorem wit_SailMeasures_calibration : { (sailing 1) with sailCal := true }.calibrationDue 2 (50 : BitVec 16).toInt = true ∧
    hub.isUp = true ∧ hub.sailCal = false := by decide +kernel

/-- Grid 1 with two teeth that came 1 µs apart, long ago. -/
def geared (st : Nat) : State :=
  let e := fun (c : Int) => (⟨0, c, true, false⟩ : SailEdge)
  let s := ((hub.setE 0x2F01 3 60).setE 0x2F01 0x10 st)
  s.setGrid 1 { s.grid 1 with teeth := [⟨e 409600, 2, false⟩, ⟨e 204800, 1, false⟩], revs := [(1, 0, 0)] }

theorem wit_GridsLoseTheirTeeth : (∀ st ∈ [2, 3], (geared st).isUp = true ∧ (geared st).toothLate 1 = true ∧
      ((geared st).setE 0x2F01 12 10).stoodStill 1 = true) ∧ (geared 3).streamsOfGrid 1 = [] := by decide +kernel

/-! ### Screed, the Hopper and the Ledger -/

theorem wit_RegionsWatched : hub.isUp = true ∧ 2 ≤ Tbl.get 0 { hub.power with lowRuns := [(2, 2)] }.lowRuns 2 ∧
    ((filled hub).hq 2).at? (((filled hub).hq 2).position (9 : BitVec 32).toNat) = none ∧
    (let r : Rec := Rec.of 1 ([1] ++ zeros 63) 64 (some 3) 0 1 0 0 [] 64
     let s := hub.setHq 2 { HQueue.reset with recs := [r], release := 5, read := 5, front := 5 }
     (s.hq 2).at? ((s.hq 2).position (5 : BitVec 32).toNat) = some r ∧ (r.kind = 1 ∨ r.kind = 2) ∧ r.stream = some 3 ∧
     r.replaced = false ∧ s.role ≠ 4 ∧ r.badCopies.contains ((6 : Fin 7).val, !true) = false) ∧
    (let r := { Rec.of 1 ([1] ++ zeros 63) 64 (some 3) 0 1 0 0 [] 64 with replaced := true }
     let s := hub.setHq 2 { HQueue.reset with recs := [r], release := 5, read := 5, front := 5 }
     (s.hq 2).at? ((s.hq 2).position (5 : BitVec 32).toNat) = some r ∧ r.replaced = true) := by decide +kernel

/-- Stream 3 with one closed block of one value. -/
def blocked : State :=
  let o : Out := ⟨5, 0, 0, [], ⟨0, 0, 0⟩, none⟩
  ({ hub with hop := { hub.hop with restartDue := none } }.setE 0x2790 1 1).setStream 3 { Stream.reset with produced := true, closed := [⟨7, [o], 0, false, false⟩] }

theorem wit_BlockEncoded :
    (let s := blocked
     let b : Block := ⟨7, [⟨5, 0, 0, [], ⟨0, 0, 0⟩, none⟩], 0, false, false⟩
     s.isUp = true ∧ s.planState = 1 ∧ s.listening = false ∧ s.hop.blocked = false ∧
     (s.streams.lookup (3 : Fin 16384).val).map Stream.closed = some [b] ∧ s.refStreams 3 = [] ∧ s.hop.gaps.lookup 3 = none ∧
     (s.stream 3).sourceChange = none ∧ (s.stream 3).stopAt = none ∧ s.yStreams = [] ∧
     s.rawSizeOf 3 b ≤ s.hop.free ∧ 0 < s.hop.freeEntries ∧ 0 < b.outs.length ∧ b.outs.length < 0xFFFFFFFF ∧ b.first < 2 ^ 32 ∧
     (let h := { s.hop with queues := [(5, { HQueue.reset with recs := [{ gapRec with space := s.hop.free }] })] }
      h.free < s.rawSizeOf 3 b ∧ h.blocked = false)) := by decide +kernel

theorem wit_BlockCheckCoversBlock : hub.legacy 3 = false := by decide +kernel

/-! ### Leat and Weir -/

/-- A run of TRAIN sets. -/
def train (f : TrainSet → TrainSet) (count : Nat) (idle : Bool) : TrainRun :=
  ⟨f ⟨false, 3, true, true, false, false, false, false, false, 2, 5, 10⟩, count, 0, true, true, 20000, idle⟩

/-- Port S at a step of its training, in a port state. -/
def training (step : TrainStep) (st : Nat) : State :=
  (hub.setE 0x3512 2 st).setPort 2 { LPort.reset with step := step, rate := 2, sets := 64 }

theorem wit_PortsTrain_train : (∀ st ∈ [1, 2, 4], ∀ x ∈ [TrainStep.start, .seen, .go, .high, .final, .idle],
      (training x st).isUp = true ∧ (training x st).powered (portIdx .S) = true ∧ ((training x st).port 2).step = x ∧
      ((training x st).port 2).testing = 0 ∧ 64 ≤ ((training x st).port 2).sets ∧ (training x st).power.trans = .none ∧
      (training x st).up (portIdx .S) = false) ∧
    (let m := train (fun t => { t with resume := true }) 64 true
     m.lock0 = true ∧ m.lock1 = true ∧ m.skewPs.toNat ≤ 20000 ∧ 64 ≤ m.count ∧ m.set.seen = true ∧ m.set.go = true ∧ m.idle = true ∧
     m.set.agreed.toNat = ((training .go 2).port 2).rate ∧ m.set.resume = true ∧ (train id 16 false).idle = false ∧
     (train id 16 false).set.resume = false ∧ min (hub.ownMax 2) m.set.maxRate.toNat ≠ 0) ∧
    (let m := train (fun t => { t with maxRate := 0 }) 16 false
     16 ≤ m.count ∧ min (hub.ownMax 2) m.set.maxRate.toNat = 0) ∧
    hub.e 0x3512 2 = 3 ∧ (hub.port 2).testing = 0 ∧ (train (fun t => { t with resume := true }) 1 false).set.resume = true ∧
    (train id 1 false).set.testStart = false ∧ hub.powered (portIdx .NX) = false ∧ hub.up (portIdx .NX) = false := by decide +kernel

theorem wit_PortsTrain_fail :
    (let s := training .high 2
     s.isUp = true ∧ s.rateFailed 2 = true ∧ s.powered 2 = true) ∧
    (let s := training .high 4
     s.retrainFailed 2 = true ∧ s.powered 2 = true ∧ s.carries 2 = false ∧ s.carries 0 = true ∧ (s.hq 7).relPend = none) ∧
    hub.up 2 = true ∧ ((hub.setPort 2 { hub.port 2 with stalls := 8 }).port 2).stalls = 8 ∧
    (let s := (hub.setE 0x3510 2 4).setPort 0 { LPort.reset with rate := 2 }
     s.retrainFailed 0 = true ∧ s.powered 0 = true ∧ s.carries 0 = true) := by decide +kernel

/-- Port S under a lane test; operation LANE_TEST reads a state. -/
def testing (k op : Nat) : State :=
  ((hub.setE 0x1430 2 op).setE 0x3512 2 5).setPort 2 { LPort.reset with testing := k, sets := 64 }

theorem wit_PortsTrain_test :
    (testing 1 1).isUp = true ∧ (testing 1 1).powered 2 = true ∧ ((testing 1 1).port 2).testing = 1 ∧
    (train (fun t => { t with testAccept := true }) 1 false).set.testAccept = true ∧
    hub.powerState = 0 ∧ hub.untested = true ∧ (train (fun t => { t with testStart := true }) 1 false).set.testStart = true ∧
    (testing 1 1).testRefused 2 = true ∧ (testing 1 2).testRefused 2 = true ∧
    (testing 2 1).testEnds 2 false = true ∧ (testing 3 0).testEnds 2 true = true ∧ (testing 2 2).testEnds 2 false = true ∧
    (testing 2 1).up 2 = false ∧ (testing 2 1).powered 2 = true ∧ 64 ≤ ((testing 2 1).port 2).sets ∧ ((testing 2 1).port 2).step ≠ .idle ∧
    (testing 2 1).e 0x1430 2 = 1 ∧ (testing 2 2).e 0x1430 2 = 2 := by decide +kernel

theorem wit_PortEnableWrites : accepted hub rq 0x3511 1 (toBytes 1 1) = true ∧ accepted hub rq 0x3511 1 (toBytes 1 0) = true ∧
    accepted hub rq 0x3514 1 (toBytes 1 1) = true ∧ hub.e 0x3511 1 = 0 ∧ hub.e 0x3514 1 = 0 ∧ hub.pins.chainEnd = false ∧ hub.e 0x3510 1 = 1 ∧
    accepted hub rq 0x3510 1 (toBytes 1 1) = true ∧ accepted hub rq 0x3510 1 (toBytes 1 0) = true ∧ (hub.hq 7).relPend = none := by decide +kernel

/-- A frame as received. -/
def received (ftype : Nat) (south : Bool) (id len hop : Nat) : List Byte :=
  (Frame.mk ftype south false false false 0 id 0 0 (zeros len)).bytes hop

/-- A frame on its way to a hub, as it is read from its bytes. -/
def heard (ftype : Nat) (south : Bool) (id len hop : Nat) : Frame := Frame.ofBytes (received ftype south id len hop)

theorem wit_FramesMove_frame : hub.isUp = true ∧ hub.up (portIdx .N) = true ∧ hub.up (portIdx .S) = true ∧ hub.e 0x3500 1 = 1 ∧
    (let b := received 3 true 0x45 8 0
     20 ≤ b.length ∧ crc32 (b.take (b.length - 4)) = ofBytes (b.drop (b.length - 4)) ∧ ofBytes ((b.drop 8).take 2) = (Frame.ofBytes b).payload.length ∧
     ofBytes ((b.drop 2).take 2) = (hub.port 0).rxNext ∧ (Frame.ofBytes b).ftype = 3 ∧ lengthOk 3 8 = true ∧ hub.isMine (Frame.ofBytes b) = true ∧
     (Frame.ofBytes b).broadcast = false ∧ (Frame.ofBytes b).hubOrigin = false) ∧
    (let f := heard 3 true 0x46 8 0
     hub.isMine f = false ∧ f.neighbour = false ∧ hub.onward f.south ≠ none ∧ lengthOk 3 9 = false) ∧
    (let b := received 3 true 0x46 8 65535
     1 ≤ ((hub.port 0).rxNext + 65536 - ofBytes ((b.drop 2).take 2)) % 65536 ∧
     ((hub.port 0).rxNext + 65536 - ofBytes ((b.drop 2).take 2)) % 65536 ≤ 32768 ∧ (hub.port 0).nakAt = none) ∧
    (let b := received 3 true 0x46 8 1
     32768 < ((hub.port 0).rxNext + 65536 - ofBytes ((b.drop 2).take 2)) % 65536) ∧
    (heard 4 true 0x46 28 0).ftype = 4 ∧ (heard 4 true 0x46 28 0).message ≠ 3 ∧ (portUp up 0).onward true = none ∧
    (let f : Frame := ⟨4, true, false, true, false, 0, 0, 0, 0, [0x30] ++ zeros 27⟩
     f.message = 3) ∧
    (hub.setE 0x3500 1 2).isUp = true ∧ (hub.setE 0x3500 1 2).up 0 = true := by decide +kernel

theorem wit_FramesMove_unknown :
    (let g : Frame := ⟨3, true, false, false, false, 0, 0x45, 0, 0, [8] ++ zeros 7⟩
     let s := { hub with leat := { hub.leat with inbox := [heard 3 true 0x45 8 0, g] } }
     s.waits = false ∧ g.unknownRequest = true ∧ warming.waits = true ∧
     ({ g with payload := [1] ++ zeros 7 }).unknownRequest = false) := by decide +kernel

/-- Port N holds a frame not yet acknowledged. -/
def unacknowledged (resend : Nat) : State :=
  hub.setPort 0 { hub.port 0 with replay := [(0, ⟨3, true, false, false, true, 0, 0x45, 0, 0, zeros 8⟩, 0)], resend := resend, txNext := 1 }

theorem wit_FramesMove_ack : (unacknowledged 0).isUp = true ∧ (unacknowledged 0).up (portIdx .N) = true ∧
    (unacknowledged 0).port 0 = { (unacknowledged 0).port 0 with replay := (0, ⟨3, true, false, false, true, 0, 0x45, 0, 0, zeros 8⟩, 0) :: [] } ∧
    0 + 8000 ≤ (unacknowledged 0).gov.ticks ∧
    (let seq : Checked := ⟨0, 0xFFFF⟩
     let window : Checked := ⟨512, 0xFDFF⟩
     seq.inv = ~~~seq.value ∧ window.inv = ~~~window.value) := by decide +kernel

theorem wit_FramesMove_boundary :
    hub.up 1 = false ∧ (State.reset.isUp = false ∧ State.reset.power.phase ≠ .dormant) ∧
    (let s := hub.setPort 0 { hub.port 0 with timing := [⟨0, 1, 0, 5, 0⟩] }
     s.isUp = true ∧ s.up 0 = true ∧ (s.port 0).timing = ⟨0, 1, 0, 5, 0⟩ :: [] ∧
     (((s.openBoundary 0).creditStall 0).port 0).share s.gov.ticks 48 = true) ∧
    (let s := hub.setPort 0 { hub.port 0 with ackDue := true }
     (s.port 0).timing = [] ∧ (s.port 0).ackDue = true ∧ (((s.openBoundary 0).creditStall 0).port 0).share s.gov.ticks 10 = true) ∧
    hub.ownSamples 2 = false ∧ hub.readAhead 0 ⟨0, none⟩ = hub ∧
    (let x := (unacknowledged 1).port 0
     let f : Frame := ⟨3, true, false, false, true, 0, 0x45, 0, 0, zeros 8⟩
     x.timing = [] ∧ 0 < x.resend ∧ x.replay[x.replay.length - x.resend]? = some (0, f, 0) ∧ x.sentSince + f.size ≤ 64 * x.window ∧
     sharedType f.ftype = true ∧ ((offered (unacknowledged 1) 0).port 0).share hub.gov.ticks f.size = true) ∧
    (let f : Frame := ⟨3, true, false, false, true, 0, 0x45, 0, 0, zeros 8⟩
     let s := hub.post 0 f
     (s.port 0).timing = [] ∧ (s.port 0).resend = 0 ∧ (s.port 0).control = [f] ∧ (s.port 0).fits f = true ∧
     ((offered s 0).port 0).share s.gov.ticks f.size = true) := by decide +kernel

theorem wit_FramesMove_samples :
    (let s := (hub.setHq 2 { queue2 with read := 5 }).setE 0x3500 6 100
     s.isUp = true ∧ s.up 0 = true ∧ (s.port 0).timing = [] ∧ (s.port 0).resend = 0 ∧ (s.port 0).control = [] ∧ s.e 0x3500 1 ≠ 2 ∧
     (∀ q ∈ List.range 4, (s.port q).fwd = []) ∧ s.ownSamples 0 = true ∧ s.turnQueue = some (2, 0) ∧
     (s.port 0).fits ⟨1, false, false, false, true, 2, 0, 0, 0, List.replicate (s.payloadSize 2) 0⟩ = true ∧ (s.hq 2).relPend = none ∧
     s.ownSamples 2 = false ∧ s.readAhead 0 ⟨0, none⟩ = s) := by decide +kernel

/-- A CREDIT frame that releases through record 5 of queue 2. -/
def credit : CreditMsg := ⟨100, 4, false, 0, 0, ⟨#[0, 0, 5, 0, 0, 0, 0, 0], rfl⟩⟩

theorem wit_HostFrames_credit :
    (let s := filled hub
     s.isUp = true ∧ s.e 0x3500 1 ≠ 2 ∧ s.hop.waiting = [] ∧ s.hop.lost = none ∧ s.yStreams = [] ∧ s.e 0x3500 0x0B < 2 ^ 32 ∧ s.sends = true ∧
     (s.hq 2).position 6 ≤ (s.hq 2).front ∧ (s.hq 2).front < (s.hq 2).position 7) := by decide +kernel

theorem wit_HostFrames_enumeration :
    (let s := portUp (portUp up 0) 2
     s.isUp = true ∧ s.up (portIdx .N) = true ∧ s.up (portIdx .S) = true ∧ s.e 0x3500 1 = 0 ∧ (63 : BitVec 8).toNat ≤ 63 ∧ 63 < (64 : BitVec 8).toNat) ∧
    (let s := after (.assign .N ⟨false, false, true, 3, 4⟩) (portUp (portUp up 0) 2)
     s.e 0x3500 1 = 1 ∧ s.leat.chain = some 3 ∧ s.leat.position = some 4 ∧ s.leat.ladder = false ∧ s.flagged 0x3500 4 8 = true ∧
     s.up (portIdx .N) = true ∧ s.isUp = true ∧ s.e 0x3500 1 ≠ 2 ∧ s.power.trans = .none) ∧
    hub.leat.chain ≠ some 3 ∧ (hub.setE 0x3500 1 2).isUp = true ∧ (hub.setE 0x3500 1 2).up 0 = true ∧
    (let s := hub.setPort 0 { hub.port 0 with fwd := [⟨6, true, true, false, false, 0, 0, 0, 0, [4, 0, 0, 0, 0, 0, 0, 0]⟩] }
     { s with leat := { s.leat with resetAt := some s.gov.ticks } }.resetDue = false) ∧ (hub.hq 7).relPend = none := by decide +kernel

theorem wit_HostFrames_reset :
    (let s := { hub with leat := { hub.leat with resetAt := some 0 } }
     s.isUp = true ∧ s.resetDue = true) := by decide +kernel

/-! ### Twin operation -/

/-- An active of a ready pair. -/
def paired : State := { (twin 4) with twin := { (twin 4).twin with partner := some 3 } }

theorem wit_RoleCommands_swap : accepted paired rq 0x3600 3 (toBytes 1 1) = true ∧ accepted paired rq 0x3600 3 (toBytes 1 2) = true ∧
    paired.role = 4 ∧ paired.twin.partner = some 3 ∧ bit paired.twin.partnerStatus 2 = false ∧ paired.twin.swapAt = none ∧
    (let s := { (twin 3) with twin := { (twin 3).twin with partner := some 4 } }
     accepted s rq 0x3600 3 (toBytes 1 1) = true ∧ s.role = 3 ∧ s.twin.partner = some 4 ∧ s.flagged 0x3600 2 2 = false ∧ s.twin.swapAt = none) ∧
    accepted (twin 3) rq 0x3600 3 (toBytes 1 1) = true ∧ (twin 3).role = 3 ∧
    accepted (twin 5) rq 0x3600 3 (toBytes 1 2) = true ∧ (twin 5).role = 5 ∧
    (let s := { paired with twin := { paired.twin with swapAt := some 5 } }
     accepted s rq 0x3600 3 (toBytes 1 1) = true ∧ s.twin.swapAt ≠ none) := by decide +kernel

theorem wit_RoleCommands_stepDown : accepted paired rq 0x3600 3 (toBytes 1 3) = true ∧ paired.twin.partner = some 3 ∧
    accepted (twin 5) rq 0x3600 3 (toBytes 1 3) = true ∧ (twin 5).twin.partner = none ∧
    (let s := { (twin 5) with twin := { Twin.reset with partner := some 1 } }
     accepted s rq 0x3600 3 (toBytes 1 3) = true ∧ s.up 4 = true ∧ s.twin.partner = some 1 ∧ 1 ∉ [3, 4, 5]) := by decide +kernel

theorem wit_TwinReceives_heartbeat : (twin 3).isUp = true ∧ (twin 3).up 4 = true ∧ (twin 3).role ≠ 0 ∧ (twin 3).role = 3 ∧
    (let s := { (twin 5).setE 0x1440 2 1 with twin := { Twin.reset with ended := true } }
     s.isUp = true ∧ s.up 4 = true ∧ s.e 0x3500 1 ≠ 2 ∧ s.twin.ended = true ∧ s.running 0x40 = true) ∧
    (let s := { (twin 5) with twin := { Twin.reset with swapped := true } }
     s.role = 5 ∧ s.twin.swapped = true ∧ s.feeds = true) ∧ (twin 3).e 0x3500 1 ≠ 2 ∧ (twin 3).power.trans = .none ∧
    (twin 3).twin.seam = none ∧ (twin 3).twin.anchors.lookup 3 = none ∧
    field (BitVec.ofNat 64 (3 * 2 ^ 40 + 3 * 2 ^ 55)).toNat 40 3 = 3 ∧ field (BitVec.ofNat 64 (12 * 2 ^ 55)).toNat 40 3 = 0 ∧
    (let s := { (evtPlan Group.reset).setE 0x2703 0x24 0 with twin := { Twin.reset with anchors := [(3, 5)] } }
     s.twin.anchors.lookup 3 = some 5 ∧ s.trigger 3 ≠ 0 ∧ s.e 0x2703 0x24 ≠ 1) ∧
    (let s := { (plan Group.reset) with twin := { Twin.reset with anchors := [(3, 5)] } }
     s.trigger 3 = 0 ∧ s.contiguous 3 5 5 = true) ∧ (((twin 3).setMill 12 { Mill.reset with running := true }).mill 12).running = true ∧
    (twin 3).twin.anchorIn = none := by decide +kernel

/-- A ready standby with one closed block of stream 3, that its active may commit. -/
def standby : State :=
  (twin 3).setStream 3 { Stream.reset with closed := [⟨7, [⟨5, 0, 0, [], ⟨0, 0, 0⟩, none⟩], 0, false, false⟩] }

/-- Its block and the COMMIT that names it. -/
def ownBlock : Block := ⟨7, [⟨5, 0, 0, [], ⟨0, 0, 0⟩, none⟩], 0, false, false⟩
def commitOf (r : Rec) : CommitItem :=
  ⟨0, BitVec.ofNat 8 r.kind, BitVec.ofNat 16 r.bytes.length, BitVec.ofNat 32 (standby.hq 0).commit, BitVec.ofNat 32 r.check⟩

theorem wit_TwinReceives_commit :
    (twin 3).matching ⟨0, 1, 64, 0, 5⟩ = none ∧ (twin 3).matching ⟨0, 1, 64, 0, 0⟩ = none ∧
    ((plan Group.reset).setE 0x3600 1 3).planState = 1 ∧
    (let s := standby
     let r := s.recordOfBlock 3 ownBlock
     s.isUp = true ∧ s.role = 3 ∧ s.up 4 = true ∧ s.e 0x3500 1 ≠ 2 ∧ s.matching (commitOf r) = some (3, ownBlock, r) ∧
     wrap32 (s.hq (commitOf r).queue).commit = (commitOf r).record.toNat ∧ s.yStreams = [] ∧ (s.stream 3).stopAt = none ∧
     s.matching { commitOf r with record := 9 } ≠ none ∧ wrap32 (s.hq 0).commit ≠ (9 : BitVec 32).toNat) := by
  decide +kernel

theorem wit_TwinReceives_others : (∀ k ∈ [1, 2, 4, 5], (twin k).isUp = true ∧ (twin k).role = k ∧ (twin k).up 4 = true) ∧
    (twin 4).mirrors = true ∧ (twin 5).mirrors = false ∧ (twin 4).hop.waiting = [] ∧ (twin 4).hop.lost = none ∧ (twin 4).yStreams = [] ∧
    (twin 3).powerState = 0 ∧ (twin 3).planState = 0 ∧ ((twin 3).setE 0x1200 2 2).powerState = 2 ∧
    (let s := (plan Group.reset).setE 0x3600 1 3
     s.powerState = 1 ∧ s.planState = 1 ∧ s.usedGroups ≠ []) ∧
    (let s := { (twin 3) with twin := { Twin.reset with partner := some 5 } }
     s.role = 3 ∧ s.powerState = 0 ∧ s.twin.partner = some 5 ∧ s.twin.seam = none) ∧
    (twin 2).hq 0 = HQueue.reset ∧ recordLength ([0x10] ++ zeros 47) = some 48 ∧ 48 ≤ ([0x10] ++ zeros 47).length ∧
    recordLength ([0x10] ++ zeros 7) = some 48 ∧ ([0x10] ++ zeros 7).length < 48 ∧
    (mayPair 1).role = 1 ∧ (mayPair 1).mayPair = true ∧ (mayPair 2).role = 2 ∧ (mayPair 2).mayPair = true ∧ (twin 2).mayPair = false ∧
    ((mayPair 2).hq 5).recs = [] ∧ 5 ∉ (mayPair 2).twin.based ∧
    (let s := { (twin 2) with twin := { Twin.reset with based := [5] } }
     s.role = 2 ∧ 5 ∈ s.twin.based ∧ wrap32 (s.hq 5).commit = 0) ∧
    (standby.streams.lookup 3).isSome = true ∧ ((standby.stream 3).closed.filter (fun b => decide (b.first = (7 : BitVec 32).toNat))) = [ownBlock] ∧
    0 < ownBlock.outs.length ∧ standby.hop.gaps.lookup 3 = none := by decide +kernel

theorem wit_TwinActs_heartbeat : hub.heartbeatDue = false ∧ (twin 5).heartbeatDue = true ∧
    (∀ k ∈ [1, 2, 3, 4, 5], (twin k).role ≠ 0 ∧ (twin k).silence = true ∧ (twin k).isUp = true) ∧
    ((twin 5).setE 0x1440 2 1).pairing = true ∧ (twin 0).role = 0 := by decide +kernel

theorem wit_TwinActs_role :
    (let s := fun (k : Nat) (x : Int) => { (twin k) with twin := { (twin k).twin with swapAt := some x } }
     (∀ k ∈ [1, 3, 4], (s k 5).role ≠ 0 ∧ (s k 5).twin.swapAt = some 5 ∧ 5 ≤ (s k 5).now) ∧ (s 3 (hub.now + 1)).now < hub.now + 1) ∧
    (let s := { (twin 1) with twin := { Twin.reset with roleWait := some 5 } }
     s.isUp = true ∧ s.roleReady = true) ∧
    (let s := { (twin 5) with gov := { Gov.reset with ticks := 800000100 } }
     s.isUp = true ∧ s.partnerGone = true) := by decide +kernel

theorem wit_TwinActs_others : ((voltage.setXport 3 { XPort.reset with deferred := true }).xport 3).deferred = true ∧
    voltage.enableTest 3 = none ∧ (voltage.setE 0x2603 9 1).e 0x2603 9 ≠ 0 ∧ (voltage.xport 3).waitRun = false ∧
    (∀ h ∈ voltage.allPorts, (voltage.xport h).deferred = false) ∧ hub.listening = false ∧
    (let s := { (twin 5) with gov := { Gov.reset with ticks := 1440000000000 * 5000 } }
     s.role ≠ 0 ∧ s.e 0x3600 8 ≤ sat32 (s.e 0x3600 7 + (s.gov.ticks - s.gov.hourTick) / 1440000000000)) ∧
    (twin 5).e 0x3600 7 < (twin 5).e 0x3600 8 ∧ (twin 3).listening = true ∧ (twin 3).planState = 0 ∧
    (let s := (plan Group.reset).setE 0x3600 1 3
     s.listening = true ∧ s.planState = 1 ∧ s.usedGroups ≠ []) := by decide +kernel

/-! ### Safety functions and Scrim -/

/-- A hub whose safety functions run. -/
def safe : State := { hub with safeOn := true }

theorem wit_SafetyCommands : accepted safe rq 0x380F 6 (toBytes 1 1) = true ∧ (safe.input 15).ack = none ∧
    (let s := safe.setInput 15 { SafeIn.reset with ack := some 9 }
     accepted s rq 0x380F 6 (toBytes 1 1) = true ∧ (s.input 15).ack ≠ none) ∧
    accepted safe rq 0x3827 0x0B (toBytes 1 1) = true ∧ (safe.trip 7).ack = none ∧
    (let s := safe.setTrip 7 { TripRun.reset with ack := some 9 }
     accepted s rq 0x3827 0x0B (toBytes 1 1) = true ∧ (s.trip 7).ack ≠ none) ∧
    accepted (safe.setE 0x3B3F 3 0x1234) rq 0x3B3F 1 (toBytes 1 1) = true ∧ accepted safe rq 0x3B3F 1 (toBytes 1 0) = true ∧
    accepted safe rq 0x3B3F 0x0B (toBytes 1 1) = true ∧ (safe.setE 0x3B3F 1 1).e 0x3B3F 1 = 1 ∧ safe.e 0x3B3F 1 ≠ 1 ∧
    accepted ((safe.setE 0x3B3F 1 1).setE 0x3B3F 3 0x1234) rq 0x3B3F 0x0B (toBytes 1 1) = true := by decide +kernel

/-- Trip 2 enabled, in a state. -/
def tripped (st : Nat) : State := (safe.setE 0x3822 1 1).setE 0x3822 9 st

theorem wit_SafetyTicks : safe.isUp = true ∧ safe.safeOn = true ∧ (tripped 0).tripOn 2 = true ∧ (tripped 1).tripState 2 = 1 ∧
    ((tripped 1).trip 2).parked = false ∧ ((tripped 0).trip 2).parked = false ∧ safe.tripOn 2 = false ∧ (safe.input 15).ack = none := by decide +kernel

theorem wit_TripsDemand :
    (let s := { (tripped 1).setE 0x3810 4 8 with svc := ⟨[(7, txn .executing)], []⟩ }
     let s := s.setTrip 2 { TripRun.reset with ack := some 7 }
     s.isUp = true ∧ s.safeOn = true ∧ (s.trip 2).ack = some 7 ∧ s.svc.txns.lookup 7 = some (txn .executing) ∧ (txn .executing).xfer = .executing ∧
     (s.trip 2).parked = false ∧
     (∀ i ∈ List.range 16, (s.input i).ack = none) ∧ (∀ m ∈ List.range 8, m ≠ 2 → (s.trip m).ack = none) ∧
     (after (.safetyTick ⟨0, 0, 0, 0⟩ false) s).flagged 0x3810 4 3 = true) := by decide +kernel

theorem wit_SafetyEvents :
    (let s := (safe.setE 0x380F 1 1).setInput 15 { SafeIn.reset with disagree := 100 * safe.e 0x380F 3 }
     s.isUp = true ∧ s.safeOn = true ∧ (s.setE 0x380F 5 1).disagrees 15 = true ∧ 100 * s.e 0x380F 3 ≤ (s.input 15).disagree) ∧
    (let s := (tripped 0).setTrip 2 { TripRun.reset with diffB := 2 }
     s.isUp = true ∧ s.safeOn = true ∧ s.readbackDiffers 2 true = true ∧ s.tripState 2 ≠ 3) ∧
    (let s := { (tripped 0).setE 0x3822 5 1 with pins := { safe.pins with toa := 255, tob := 255 } }
     s.pulseDue 2 false = true ∧ s.pulses = true ∧ s.tripOn 2 = true ∧ s.tripState 2 = 0 ∧ (s.trip 2).pulseA = none) ∧
    (let s := (safe.setE 0x3AFF 1 1).setE 0x3AFF 0x0A 1
     s.cmpOn 255 = true ∧ s.cmpStale 255 = true ∧
     (s.setCmp 255 { CmpRun.reset with inside := 0 }).cmpOn 255 = true) := by decide +kernel

/-- Connection 2 consumes connection 9 of its peer, identity 0x1234, 2 data bytes, in a state. -/
def consuming (st seq : Nat) : State :=
  (((((safe.setE 0x3B02 1 1).setE 0x3B02 3 0x1234).setE 0x3B02 7 2).setE 0x3B02 4 9).setE 0x3B02 8 st).setE 0x3B02 0x0C seq

/-- Its message with a sequence. -/
def message (seq : Nat) : List Byte := scrimBytes 9 0x1234 seq safe.now [1, 2]

theorem wit_ScrimRuns_produce :
    (let s := (safe.setE 0x3B3F 1 1).setE 0x3B3F 2 1
     s.isUp = true ∧ s.produceDue 63 = true ∧ s.hubId = some 0x45 ∧ s.onward s.ownSouth = some 0) ∧
    (let s := { ((up.setE 0x3B3F 1 1).setE 0x3B3F 2 1) with safeOn := true }
     s.produceDue 63 = true ∧ s.hubId = none) := by decide +kernel

theorem wit_ScrimRuns_message : safe.isUp = true ∧ safe.consumes = true ∧ (consuming 2 0).consumes = true ∧ safe.consumers (ofBytes ((message 1).take 1)) = [] ∧
    (consuming 2 0).consumers (ofBytes ((message 1).take 1)) = [2] ∧ (consuming 2 0).e 0x3B02 8 = 2 ∧
    (consuming 2 0).scrimFault 2 (message 1) = none ∧ ofBytes (((message 1).drop 2).take 2) = ((consuming 2 0).e 0x3B02 0x0C + 1) % 65536 ∧
    (consuming 2 65535).scrimFault 2 (message 0) = none ∧ ofBytes (((message 0).drop 2).take 2) = ((consuming 2 65535).e 0x3B02 0x0C + 1) % 65536 ∧
    (consuming 2 1).scrimFault 2 (message 1) ≠ some 5 ∧ (consuming 2 1).scrimFault 2 (message 1) ≠ some 1 ∧
    ofBytes (((message 1).drop 2).take 2) = (consuming 2 1).e 0x3B02 0x0C ∧
    (consuming 2 0).scrimFault 2 ((message 1).take 20) = some 5 ∧ (consuming 2 0).scrimFault 2 ((message 1).set 16 9) = some 1 ∧
    ofBytes (((message 3).drop 2).take 2) ≠ ((consuming 2 0).e 0x3B02 0x0C + 1) % 65536 ∧
    (let s := { (consuming 2 0) with gov := { safe.gov with ticks := 10000000000 } }
     s.scrimFault 2 (message 1) = some 3) := by decide +kernel

theorem wit_ScrimRuns_opening : (consuming 1 0).e 0x3B02 8 = 1 ∧ (consuming 1 0).scrimFault 2 (message 1) = none ∧
    ((consuming 1 0).scrim 2).reference = none ∧
    (((consuming 1 0).setScrim 2 { ScrimRun.reset with reference := some 65535 }).scrim 2).reference.map (fun r => (r + 1) % 65536) = some 0 ∧
    (consuming 1 0).scrimFault 2 [] ≠ none ∧
    (let s := (consuming 2 0).setScrim 2 { ScrimRun.reset with lastAt := some 0 }
     s.isUp = true ∧ s.scrimLate 2 = true) := by decide +kernel

/-! ### Power, start, reset and rails -/

theorem wit_PowerCommands_refused :
    (let s := hub.setE 0x1200 2 4
     (∀ v ∈ [0, 1, 2], accepted s rq 0x1200 1 (toBytes 1 v) = true) ∧ accepted (s.setE 0x1200 11 1) rq 0x1200 1 (toBytes 1 3) = true ∧ s.e 0x1200 2 = 4) ∧
    (let s := hub.setE 0x1200 0x0E 2
     accepted s rq 0x1200 1 (toBytes 1 1) = true ∧ s.e 0x1200 2 = 0) ∧
    (let s := { hub.setE 0x1200 11 1 with power := { hub.power with trans := .check 9 } }
     accepted s rq 0x1200 1 (toBytes 1 2) = true ∧ accepted s rq 0x1200 1 (toBytes 1 3) = true ∧ s.power.trans = .check 9) := by decide +kernel

theorem wit_PowerCommands_stop :
    (let s := plan Group.reset
     accepted s rq 0x1200 1 (toBytes 1 0) = true ∧ accepted s rq 0x1200 1 (toBytes 1 2) = true ∧ s.e 0x1200 2 = 1 ∧ s.planState = 1 ∧ s.runAwaited = false ∧
     s.usedGroups ≠ [] ∧ (∀ n ∈ List.range 8, s.comparatorTrip n = false)) := by decide +kernel

/-- A Run command has passed, and its start instant is to come. -/
def startPending : State := { hub.setE 0x1200 2 1 with power := { hub.power with trans := .start } }

theorem wit_PowerCommands_giveUp : accepted startPending rq 0x1200 1 (toBytes 1 0) = true ∧ startPending.e 0x1200 2 = 1 ∧
    startPending.planState = 0 ∧ startPending.runAwaited = false := by decide +kernel

/-- Trip 2 has a comparator term. -/
def watching : State := (tripped 0).setE 0x3822 0x10 (2 * 8192)

theorem wit_PowerCommands_still : accepted (hub.setE 0x1200 2 2) rq 0x1200 1 (toBytes 1 0) = true ∧
    accepted watching rq 0x1200 1 (toBytes 1 2) = true ∧ watching.e 0x1200 2 ≠ 4 ∧ watching.comparatorTrip 2 = true ∧ watching.e 0x1200 8 = 0 ∧
    (let s := watching.setE 0x1200 8 1
     accepted s rq 0x1200 1 (toBytes 1 2) = true ∧ s.e 0x1200 2 = 0 ∧ s.planState = 0 ∧ s.e 0x1200 8 = 1) := by decide +kernel

theorem wit_PowerCommands_dormant :
    (let s := (filled hub).setE 0x1200 11 1
     accepted s rq 0x1200 1 (toBytes 1 3) = true ∧ s.hop.held ≠ [] ∧ s.e 0x1200 9 = 0 ∧ s.e 0x1200 2 ≠ 4 ∧
     accepted (s.setE 0x1200 9 1) rq 0x1200 1 (toBytes 1 3) = true) ∧
    accepted (hub.setE 0x1200 11 1) rq 0x1200 1 (toBytes 1 3) = true ∧ hub.hop.held = [] := by decide +kernel

theorem wit_PowerCommands_resets : accepted hub rq 0x1200 3 (toBytes 1 1) = true ∧ hub.planState = 0 ∧ hub.streams = [] ∧
    accepted (plan Group.reset) rq 0x1200 3 (toBytes 1 1) = true ∧ (plan Group.reset).usedGroups ≠ [] ∧
    accepted (twin 5) rq 0x1200 4 (toBytes 1 1) = true ∧ hub.power.replay = false ∧ (plan Group.reset).power.replay = false ∧
    (let s := { hub with power := { hub.power with replay := true } }
     accepted s rq 0x1200 3 (toBytes 1 1) = true ∧ s.power.replay = true) := by decide +kernel

/-- A hub in a phase. -/
def phased (p : Phase) : State := { hub with power := { hub.power with phase := p } }

theorem wit_HardResets : State.reset.power.phase = .awaitPll ∧ State.reset.pins.resetN = true ∧ State.reset.power.tapHold = false ∧
    (phased .held).power.phase = .held ∧ (phased .held).power.tapHold = false ∧
    (let s := { (phased .held) with power := { (phased .held).power with tapHold := true } }
     s.power.tapHold = true ∧ s.pins.resetN = true) ∧
    hub.isUp = true ∧ (phased .dormant).wakes .nSignal = true ∧ (phased .dormant).wakes .wakeN = true ∧
    (((phased .dormant).setE 0x1200 0x0B 7).setE 0x1200 0x0A (toTime96 hub.now)).wakes .wakeTime = true ∧
    hub.power.phase ≠ .awaitPll := by decide +kernel

theorem wit_StartBringsUp : State.reset.power.phase ≠ .awaitStart ∧ (phased .awaitStart).power.phase = .awaitStart ∧
    bit { State.reset.pins with sealSw := 0x9234 }.sealSw 15 = true := by decide +kernel

/-- Readings with every core rail alike; with one apart. -/
def rails (hop : BitVec 16) : RailReading := ⟨800, 800, hop, 800, 800, 300, 300, 300⟩

theorem wit_RailsWatched : hub.isUp = true ∧ hub.role ≠ 4 ∧ (twin 4).role = 4 ∧ (twin 4).isUp = true ∧
    railsNear (rails 800) = true ∧ railsNear (rails 1100) = false ∧
    (let s := { (plan Group.reset) with power := { hub.power with skewBad := 1 } }
     1 ≤ s.power.skewBad ∧ s.powerState = 1 ∧ s.planState = 1 ∧ s.usedGroups ≠ []) ∧
    { hub.power with skewGood := 9 }.skewGood = 9 ∧ hub.mayDrive = true ∧ (twin 3).mayDrive = false ∧
    3 ∈ (isOn voltage 3).portsOf 0 ∧ ((isOn voltage 3).xport 3).on = true ∧ 3 ∉ (isOn voltage 3).portsOf 1 := by decide +kernel

/-- R395: with no comparator enabled the reaction times stand as they are. -/
theorem idle_reactions : (opened hub rq 0x1200 1 (toBytes 1 1)).reactions = opened hub rq 0x1200 1 (toBytes 1 1) := by decide +kernel

theorem wit_PowerCommands_run : accepted hub rq 0x1200 1 (toBytes 1 1) = true ∧ hub.e 0x1200 2 = 0 ∧
    (opened hub rq 0x1200 1 (toBytes 1 1)).runTests.1 = 0 := by
  unfold State.runTests; rw [idle_reactions]; decide +kernel

theorem wit_PowerCommands_runRefused :
    (let s := hub.setE 0x1200 0x0E 2
     accepted s rq 0x1200 1 (toBytes 1 1) = true ∧ s.e 0x1200 2 = 0 ∧ (opened s rq 0x1200 1 (toBytes 1 1)).runTests.1 ≠ 0) ∧
    accepted ((twin 5).setE 0x1440 2 1) rq 0x1200 1 (toBytes 1 1) = true ∧ ((twin 5).setE 0x1440 2 1).pairing = true := by decide +kernel

/-! ### Worked examples of the spec -/

/-- R6: the check values of Table 00-6 over "123456789". -/
def digits : List Byte := [0x31, 0x32, 0x33, 0x34, 0x35, 0x36, 0x37, 0x38, 0x39]
theorem test_crc : crc32 digits = 0xCBF43926 ∧ crc32C digits = 0xE3069283 := by decide +kernel

/-- Table 00-4: 1,204 s + 500,000,000 ns + 0x8000 frac, as TIME96 of Table 02-1. -/
theorem test_time96 : toTime96 ((1204 * 1000000000 + 500000000) * 65536 + 0x8000) = 1204 * 2 ^ 48 + 500000000 * 2 ^ 16 + 0x8000 := by decide +kernel

/-- The examples of R145's rounding. -/
theorem test_rhe : rhe 5 1 = 2 ∧ rhe 7 1 = 4 ∧ rhe (-5) 1 = -2 ∧ rhe (-7) 1 = -4 := by decide +kernel

/-- R147's example: code +1,000 on range 3. -/
theorem test_common_scale : commonOf 1000 3 = 4000 ∧ commonOf 1000 3 * 64 = 256000 := by decide +kernel

/-- The strain block of chapter 10: code words of Table 10-9, the dynamic table's bytes, and R282's bits. -/
def strain : List Nat := [4, 3, 3, 2, 2, 3, 5, 6, 6] ++ List.replicate 25 0
def residue (e : Int) : Token := .lit (zigzag e)
theorem test_dynamic_lengths :
    (let counts := [(0, 20), (1, 30), (2, 50), (4, 70), (8, 50), (16, 25), (32, 8), (64, 2), (128, 1)]
     (dynamicLengths (counts.flatMap (fun p => List.replicate p.2 (Token.lit p.1)))).take 9 = strain.take 9) := by decide +kernel
theorem test_table_bytes : tableBytes strain = [0x43, 0x32, 0x23, 0x56, 0x60] ++ zeros 12 ∧ kraft strain = 2 ^ 15 := by decide +kernel
theorem test_residue_bits : (tableSection 24 strain [residue 0, residue (-1), residue 2, residue (-6)]).map packBits = some [0xE8, 0x0B] := by
  decide +kernel

/-- The first words of the 0960 block of chapter 17, and their residues. -/
theorem test_word16 : (word16 0x01234500, word16 0x0123C000, word16 0x01228000) = ((291, false), (292, false), (290, false)) ∧
    (residues 16 1 [291, 292, 290] []).map zigzag = [582, 2, 3] ∧ stamp32 (1204 * fuSec) = 1409157120 := by decide +kernel

/-- The hop of chapter 02: an offset of 30.000 ns, a mean of 1.020 ns (here in picoseconds: the arithmetic of R48). -/
theorem test_hop : rne ((31224 - (-29184)) - 2 * 204) 2 = 30000 ∧ rne (31224 + (-29184)) 2 = 1020 := by decide +kernel

/-- The hull-stress hub of chapter 03: VEXC needed, and the planned dissipation of a port in nW. -/
theorem test_hull_stress :
    (let s := ((((hub.setE 0x2690 1 1).setE 0x2690 2 7000).setE 0x2600 1 1).setE 0x2600 2 4000).setE 0x2600 5 10000
     s.vexcNeed 0 = 6000 ∧ s.overClass 0 = false ∧ s.dissipation 0 = 30000000 ∧ s.enableTest 0 = none ∧
     (s.setE 0x2690 1 4).overClass 0 = true) := by decide +kernel

/-! ### Single steps -/

/-- R29: a reserved bit of a TIME96 that is written reads 0. -/
theorem test_time96_clean : (after (.write rq 0x2681 2 12 true (toBytes 12 (2 ^ 48 - 2 ^ 46 + 5))) hub).e 0x2681 2 = 5 := by decide +kernel

/-- R38: a step within Jump threshold pends, a larger one is refused with 0x04000003. -/
theorem test_offset_adjust : ((after (.offsetAdjust rq 3 5) hub).dom 3).step = some (.by 5) ∧
    (after (.offsetAdjust rq 3 (BitVec.ofNat 64 65601536)) (hub.setE 0x2304 7 1)).e 0x1300 3 = 0x04000003 := by decide +kernel

/-- R420: a wrong length is refused with 0x04000001, an unknown object with 0x02000001. -/
theorem test_write_codes : (after (.write rq 0x2681 2 3 true (zeros 3)) hub).e 0x1300 3 = 0x04000001 ∧
    (after (.write rq 0x1001 1 1 true (zeros 1)) hub).e 0x1300 3 = 0x02000001 := by decide +kernel

/-- R345: Credit limit moves ahead to the value of a CREDIT frame, never back. -/
theorem test_credit : (after (.credit credit) hub).e 0x3500 6 = 100 ∧
    (after (.credit credit) (hub.setE 0x3500 6 200)).e 0x3500 6 = 200 := by decide +kernel

/-- R302, R304: what a CREDIT frame releases is gone. -/
theorem test_release : ((after (.credit credit) (filled hub)).hq 2).release = 6 := by decide +kernel

/-- R347: a hub assigned position 4 of chain 3 has hub ID 196 (R24). -/
theorem test_assign : (after (.assign .N ⟨false, false, true, 3, 4⟩) (portUp (portUp up 0) 2)).e 0x1018 3 = 196 := by decide +kernel

/-- R340: a frame whose check fails is counted; R343: a sound one owes an ACK. -/
theorem test_frame : (after (.frameReceived .N [1, 2, 3] false) hub).e 0x3510 9 = 1 ∧
    ((after (.frameReceived .N (received 3 true 0x45 8 0) false) hub).port 0).ackDue = true := by decide +kernel

/-- R359: 100 µs without a heartbeat make a ready standby take over. -/
theorem test_silence : (after .heartbeatSilence (twin 3)).e 0x3600 1 = 5 := by decide +kernel

/-- R406: an OPEN connection accepts the message that follows, and fails with cause 2 at one that does not. -/
theorem test_scrim : (after (.scrimMessage (message 1)) (consuming 2 0)).e 0x3B02 0x0C = 1 ∧
    (after (.scrimMessage (message 3)) (consuming 2 0)).e 0x3B02 9 = 2 := by decide +kernel

/-- R379: a level is accepted once it has stood for its debounce ticks. -/
theorem test_debounce :
    (let s := safe.setInput 15 { SafeIn.reset with levelA := true, ticksA := 4 }
     (after (.debounceAccept 15 false) (s.setE 0x380F 2 4)).flagged 0x380F 5 0 = true ∧
     (after (.debounceAccept 15 false) (s.setE 0x380F 2 5)).flagged 0x380F 5 0 = false) := by decide +kernel

/-- R458: Idle from Still reads power state 0 at once; R462: a hub in Dormant with WAKE_N enabled wakes. -/
theorem test_power : (after (.idleCommand rq) (hub.setE 0x1200 2 2)).e 0x1200 2 = 0 ∧
    (after (.dormantWake .wakeN) (phased .dormant)).power.phase = .awaitStart := by decide +kernel

/-- R30's second field of a tick: a domain at 2.5 ns a tick moves by 163,840 fraction units. -/
theorem test_tick : (match step hub with | .next t => t.time 0 - hub.time 0 | _ => 0) = 163840 := by decide +kernel

end Sys2Proof.Tests
end

section
/-! How a host write is answered, and the Governor's time values (R30, R33, R416 to R420). -/

namespace Sys2Proof.Claim

open Sys2Proof.Machine

variable {s t u : State}

/-! ### What a state keeps of another -/

theorem Part.same_refl (s : State) (p : Part) : p.same s s := by
  cases p <;> rfl

theorem Part.same_trans {p : Part} (h : p.same s t) (h' : p.same t u) : p.same s u := by
  cases p <;> exact Eq.trans h' h

theorem Kept.refl (s : State) (l : List Part) : Kept s s l := fun p _ => Part.same_refl s p

theorem Kept.trans {l : List Part} (h : Kept s t l) (h' : Kept t u l) : Kept s u l :=
  fun p hp => Part.same_trans (h p hp) (h' p hp)

theorem Kept.mono {l l' : List Part} (h : Kept s t l) (hl : l ⊆ l') : Kept s t l' :=
  fun p hp => h p (fun hm => hp (hl hm))

theorem Entries.refl (s : State) (own : Nat → Nat → Prop) : Entries s s own := fun _ _ _ _ => rfl

theorem Entries.trans {own : Nat → Nat → Prop} (h : Entries s t own) (h' : Entries t u own) : Entries s u own :=
  fun i j hj hn => (h' i j hj hn).trans (h i j hj hn)

theorem Entries.mono {own own' : Nat → Nat → Prop} (h : Entries s t own) (ho : ∀ i j, own i j → own' i j) :
    Entries s t own' :=
  fun i j hj hn => h i j hj (fun hm => hn (ho i j hm))

end Sys2Proof.Claim

namespace Sys2Proof.Machine

open Sys2Proof.Claim

variable {s t u : State}

/-! ### What a change of one field keeps -/

theorem kept_setE (s : State) (i j v : Nat) : Kept s (s.setE i j v) [.dict] := by
  intro p hp
  cases p with
  | dict => exact absurd List.mem_cons_self hp
  | _ => rfl

theorem entries_setE (s : State) {i j : Nat} (v : Nat) {own : Nat → Nat → Prop} (hj : j < 256) (ho : own i j) :
    Entries s (s.setE i j v) own := by
  intro k l hl hn
  refine State.e_setE_other s v (fun hk => hn ?_)
  obtain ⟨rfl, rfl⟩ := (ekey_inj hl hj).1 hk
  exact ho

theorem kept_svc (s : State) (x : Svc) : Kept s { s with svc := x } [.svc] := by
  intro p hp
  cases p with
  | svc => exact absurd List.mem_cons_self hp
  | _ => rfl

theorem kept_leat (s : State) (x : Leat) : Kept s { s with leat := x } [.leat] := by
  intro p hp
  cases p with
  | leat => exact absurd List.mem_cons_self hp
  | _ => rfl

theorem kept_gov (s : State) (x : Gov) : Kept s { s with gov := x } [.gov] := by
  intro p hp
  cases p with
  | gov => exact absurd List.mem_cons_self hp
  | _ => rfl

/-! ### Sending a response (R341, R413) -/

/-- Entries that decide which port an own frame leaves through, and under which hub ID (R340 to R342). -/
def routeEntry (i j : Nat) : Prop :=
  (i = 0x3500 ∧ (j = 1 ∨ j = 4)) ∨ (i = 0x1018 ∧ j = 3) ∨ ((0x3510 ≤ i ∧ i < 0x3514) ∧ j = 2)

theorem routeEntry_not_serviceEntry {i j : Nat} (h : routeEntry i j) : ¬serviceEntry i j := by
  unfold routeEntry at h
  unfold serviceEntry
  omega

theorem routeEntry_lt {i j : Nat} (h : routeEntry i j) : j < 256 := by
  unfold routeEntry at h
  omega

/-- What is sent depends on Leat and on the entries of the route alone. -/
theorem sendResponse_leat_congr (south : Bool) (b : List Byte) (hl : t.leat = s.leat)
    (hr : ∀ i j, routeEntry i j → t.e i j = s.e i j) :
    (t.sendResponse south b).leat = (s.sendResponse south b).leat := by
  have hstatus : t.e 0x3500 4 = s.e 0x3500 4 := hr _ _ (by unfold routeEntry; omega)
  have hplaced : t.e 0x3500 1 = s.e 0x3500 1 := hr _ _ (by unfold routeEntry; omega)
  have hname : t.e 0x1018 3 = s.e 0x1018 3 := hr _ _ (by unfold routeEntry; omega)
  have hup : ∀ p < 4, t.up p = s.up p := fun p hp => by
    unfold State.up
    rw [hr (lp p) 2 (by unfold routeEntry lp; omega)]
  have hid : t.hubId = s.hubId := by
    unfold State.hubId
    rw [hplaced, hname]
  have hredirect : t.redirect (!south) = s.redirect (!south) := by
    unfold State.redirect State.flagged
    rw [hstatus]
  have honward : ∀ d, t.onward d = s.onward d := fun d => by
    cases d <;> simp [State.onward, hup, hl]
  unfold State.sendResponse State.sendOwn
  rw [hid, hredirect, honward]
  split
  · exact hl
  · split
    · exact hl
    · simp only [State.post, State.setPort, State.port, hl]

theorem kept_sendResponse (s : State) (south : Bool) (b : List Byte) : Kept s (s.sendResponse south b) [.dict, .leat] := by
  unfold State.sendResponse State.sendOwn
  split
  · exact Kept.refl _ _
  · split
    · exact (kept_setE _ _ _ _).mono (by simp)
    · exact (kept_leat _ _).mono (by simp)

theorem entries_sendResponse (s : State) (south : Bool) (b : List Byte) :
    Entries s (s.sendResponse south b) serviceEntry := by
  unfold State.sendResponse State.sendOwn
  split
  · exact Entries.refl _ _
  · split
    · exact entries_setE _ _ (by omega) (.inr ⟨rfl, rfl⟩)
    · exact Entries.refl _ _

/-! ### Transactions (R416, R417) -/

theorem Tbl.lookup_put_same {α : Type} (l : List (Nat × α)) (n : Nat) (x : α) : (Tbl.put l n x).lookup n = some x := by
  induction l with
  | nil => simp [Tbl.put]
  | cons e l ih =>
    obtain ⟨k, v⟩ := e
    unfold Tbl.put
    split
    · simp
    · next hk =>
      split
      · simp
      · simpa [List.lookup_cons, beq_false_of_ne hk] using ih

theorem Tbl.lookup_drop_same {α : Type} (l : List (Nat × α)) (n : Nat) : (Tbl.drop l n).lookup n = none := by
  induction l with
  | nil => rfl
  | cons e l ih =>
    obtain ⟨k, v⟩ := e
    unfold Tbl.drop
    split
    · exact ih
    · next hk => simpa [List.lookup_cons, beq_false_of_ne hk] using ih

theorem kept_setTxns (s : State) (l : List (Nat × Txn)) : Kept s (s.setTxns l) [.dict, .svc] :=
  ((kept_svc s _).mono (by simp)).trans ((kept_setE _ _ _ _).mono (by simp))

theorem entries_setTxns (s : State) (l : List (Nat × Txn)) : Entries s (s.setTxns l) serviceEntry :=
  (Entries.refl s serviceEntry).trans
    (entries_setE { s with svc := { s.svc with txns := l } } _ (by omega) (.inl ⟨rfl, by simp⟩))

@[simp] theorem State.setTxns_svc (s : State) (l : List (Nat × Txn)) : (s.setTxns l).svc = { s.svc with txns := l } := rfl

theorem kept_complete (s : State) (txn : Nat) (south : Bool) (req resp : List Byte) :
    Kept s (s.complete txn south req resp) [.dict, .svc, .leat] :=
  (((kept_setTxns s _).mono (by simp)).trans ((kept_svc _ _).mono (by simp))).trans
    ((kept_sendResponse _ _ _).mono (by simp))

theorem entries_complete (s : State) (txn : Nat) (south : Bool) (req resp : List Byte) :
    Entries s (s.complete txn south req resp) serviceEntry :=
  (entries_setTxns s _).trans (entries_sendResponse { s.setTxns _ with svc := _ } south resp)

theorem complete_svc (s : State) (txn : Nat) (south : Bool) (req resp : List Byte) :
    (s.complete txn south req resp).svc =
      ⟨Tbl.drop s.svc.txns txn, (txn, req, resp) :: s.svc.stored.filter (fun e => decide (e.1 ≠ txn))⟩ :=
  kept_sendResponse _ south resp .svc (by simp)

theorem complete_leat (s : State) (txn : Nat) (south : Bool) (req resp : List Byte) :
    (s.complete txn south req resp).leat = (s.sendResponse south resp).leat :=
  sendResponse_leat_congr south resp rfl (fun i j hr =>
    entries_setTxns s _ i j (routeEntry_lt hr) (routeEntry_not_serviceEntry hr))

theorem kept_countAbort (s : State) (idx sub code : Nat) : Kept s (s.countAbort idx sub code) [.dict] :=
  ((kept_setE s _ _ _).trans (kept_setE _ _ _ _)).trans (kept_setE _ _ _ _)

theorem entries_countAbort (s : State) (idx sub code : Nat) : Entries s (s.countAbort idx sub code) serviceEntry := by
  have hcount : ∀ (s : State) (j v : Nat), j ∈ [2, 3, 4] → Entries s (s.setE 0x1300 j v) serviceEntry := fun s j v hj => by
    simp only [List.mem_cons, List.not_mem_nil, or_false] at hj
    refine entries_setE s v (by omega) ?_
    rcases hj with rfl | rfl | rfl <;> simp [serviceEntry]
  exact ((hcount _ 2 _ (by simp)).trans (hcount _ 3 _ (by simp))).trans (hcount _ 4 _ (by simp))

/-- Whatever its code, an answer completes its request; an abort is counted first. -/
theorem answerReq_eq_complete (s : State) (r : Req) (req : List Byte) (idx sub code : Nat) :
    ∃ x : State, Kept s x [.dict] ∧ Entries s x serviceEntry ∧
      s.answerReq r.txn.toNat r.south req idx sub code =
        x.complete r.txn.toNat r.south req (Claim.answerBytes r idx sub code) := by
  unfold State.answerReq Claim.answerBytes
  split
  · exact ⟨s, Kept.refl _ _, Entries.refl _ _, rfl⟩
  · exact ⟨s.countAbort idx sub code, kept_countAbort _ _ _ _, entries_countAbort _ _ _ _, rfl⟩

/-! ### The opening of a host write (R412, R416, R417) -/

/-- What `opens` says of a request. -/
theorem opens_iff {r : Req} {b : List Byte} : opens s r b = true ↔
    s.isUp = true ∧ s.e 0x3500 1 ≠ 2 ∧ s.waits = false ∧ r.reservedSet = false ∧
    (∀ e ∈ s.svc.stored, ¬(e.1 = r.txn.toNat ∧ e.2.1 = b)) ∧
    s.svc.txns.lookup r.txn.toNat = none ∧ s.svc.txns.length < 8 := by
  simp only [opens, State.consumes, Bool.and_eq_true, Bool.not_eq_true', decide_eq_true_eq, List.all_eq_true,
    Option.isNone_iff_eq_none, and_assoc]

/-- A request that opens a transaction reaches its own act. -/
theorem request_opening_of_opens {r : Req} {b : List Byte} (h : opens s r b = true) (i : Instr) (idx sub : Nat)
    (act : State → State) :
    s.request i r idx sub b (fun s => s.opening r idx sub act) = act (s.takeService b) := by
  obtain ⟨hup, hplaced, hwaits, hreserved, hstored, hfree, hroom⟩ := opens_iff.1 h
  have hwaits' : (s.takeService b).waits = false := hwaits
  have hstored' : (s.takeService b).svc.stored.find? (fun e => decide (e.1 = r.txn.toNat ∧ e.2.1 = b)) = none := by
    rw [List.find?_eq_none]
    exact fun e he => by simpa only [decide_eq_true_eq] using hstored e he
  have hfree' : (s.takeService b).svc.txns.lookup r.txn.toNat = none := hfree
  have hroom' : ¬8 ≤ (s.takeService b).svc.txns.length := Nat.not_le.2 hroom
  simp only [State.request, hup, hplaced, hwaits', hreserved, hstored', State.opening, hfree', hroom']
  rfl

/-- A host write that opens a transaction is tested and applied. -/
theorem hostWrite_of_opens {r : Req} {idx sub : Nat} {data : List Byte}
    (h : opens s r (writeBytes r idx sub data) = true) (i : Instr) :
    s.hostWrite i r idx sub data =
      (s.takeService (writeBytes r idx sub data)).writeNow r idx sub data (writeBytes r idx sub data) :=
  request_opening_of_opens h i idx sub _

/-- A WRITE whose data are the whole value is tested and applied in the same way. -/
theorem writeRequest_of_opens {r : Req} {idx sub : Nat} {data : List Byte}
    (h : opens s r (writeBytes r idx sub data) = true) (i : Instr) :
    s.writeRequest i r idx sub data.length true data =
      (s.takeService (writeBytes r idx sub data)).writeNow r idx sub data (writeBytes r idx sub data) := by
  refine (request_opening_of_opens h i idx sub _).trans ?_
  simp only [Bool.true_and, decide_true, if_true]
  rfl

theorem writeNow_of_refused {r : Req} {idx sub : Nat} {data : List Byte}
    (h : (opened s r idx sub data).writeTest false idx sub data ≠ 0) :
    (s.takeService (writeBytes r idx sub data)).writeNow r idx sub data (writeBytes r idx sub data) =
      (opened s r idx sub data).answer r.txn.toNat ((opened s r idx sub data).writeTest false idx sub data) :=
  if_pos h

theorem writeNow_of_applied {r : Req} {idx sub code : Nat} {data : List Byte}
    (h : (opened s r idx sub data).writeTest false idx sub data = 0)
    (ha : (opened s r idx sub data).applyWrite r.txn.toNat idx sub data = (some code, u)) :
    (s.takeService (writeBytes r idx sub data)).writeNow r idx sub data (writeBytes r idx sub data) =
      u.answer r.txn.toNat code := by
  unfold opened at h ha
  simp only [State.writeNow, h, ha, ne_eq, not_true_eq_false, if_false]

/-! ### The answer of a host write (R416, R417, R420) -/

theorem kept_opened (s : State) (r : Req) (idx sub : Nat) (data : List Byte) :
    Kept s (opened s r idx sub data) [.dict, .svc, .leat] :=
  ((kept_leat s _).mono (by simp)).trans ((kept_setTxns _ _).mono (by simp))

theorem entries_opened (s : State) (r : Req) (idx sub : Nat) (data : List Byte) :
    Entries s (opened s r idx sub data) serviceEntry :=
  entries_setTxns (s.takeService (writeBytes r idx sub data)) _

theorem opened_lookup (s : State) (r : Req) (idx sub : Nat) (data : List Byte) :
    (opened s r idx sub data).svc.txns.lookup r.txn.toNat =
      some ⟨.executing, idx, sub, r.south, writeBytes r idx sub data, s.gov.ticks⟩ :=
  Tbl.lookup_put_same _ _ _

/-- While the transaction of a write is open, its answer goes out under it. -/
theorem answer_of_opened {r : Req} {idx sub : Nat} {data : List Byte} (hsvc : u.svc = (opened s r idx sub data).svc)
    (code : Nat) : u.answer r.txn.toNat code =
      u.answerReq r.txn.toNat r.south (writeBytes r idx sub data) idx sub code := by
  unfold State.answer
  rw [hsvc, opened_lookup]
  rfl

theorem kept_answer {r : Req} {idx sub : Nat} {data : List Byte} (hsvc : u.svc = (opened s r idx sub data).svc)
    (code : Nat) : Kept u (u.answer r.txn.toNat code) [.dict, .svc, .leat] := by
  obtain ⟨x, hx, -, he⟩ := answerReq_eq_complete u r (writeBytes r idx sub data) idx sub code
  rw [answer_of_opened hsvc, he]
  exact (hx.mono (by simp)).trans (kept_complete _ _ _ _ _)

theorem entries_answer {r : Req} {idx sub : Nat} {data : List Byte} (hsvc : u.svc = (opened s r idx sub data).svc)
    (code : Nat) : Entries u (u.answer r.txn.toNat code) serviceEntry := by
  obtain ⟨x, -, hx, he⟩ := answerReq_eq_complete u r (writeBytes r idx sub data) idx sub code
  rw [answer_of_opened hsvc, he]
  exact hx.trans (entries_complete _ _ _ _ _)

theorem answered_answer {r : Req} {idx sub : Nat} {data : List Byte} (hsvc : u.svc = (opened s r idx sub data).svc)
    (code : Nat) : answered r idx sub data code (u.answer r.txn.toNat code) := by
  obtain ⟨x, -, -, he⟩ := answerReq_eq_complete u r (writeBytes r idx sub data) idx sub code
  rw [answer_of_opened hsvc, he, answered, complete_svc]
  exact ⟨Tbl.lookup_drop_same _ _, rfl⟩

theorem answer_leat {r : Req} {idx sub : Nat} {data : List Byte} (hsvc : u.svc = (opened s r idx sub data).svc)
    (code : Nat) : (u.answer r.txn.toNat code).leat = (u.sendResponse r.south (Claim.answerBytes r idx sub code)).leat := by
  obtain ⟨x, hk, hx, he⟩ := answerReq_eq_complete u r (writeBytes r idx sub data) idx sub code
  rw [answer_of_opened hsvc, he, complete_leat]
  exact sendResponse_leat_congr _ _ (hk .leat (by simp)) (fun i j hr =>
    hx i j (routeEntry_lt hr) (routeEntry_not_serviceEntry hr))

/-- The answer of a write whose effect has led from the opened transaction to `u`: what the effect moves is what the
host write moves, beside what every answer does. -/
theorem answers_of_effect {r : Req} {idx sub : Nat} {data : List Byte} {own : Nat → Nat → Prop} {parts : List Part}
    (code : Nat) (hsvc : u.svc = (opened s r idx sub data).svc) (hleat : u.leat = (opened s r idx sub data).leat)
    (hent : Entries (opened s r idx sub data) u (fun i j => own i j ∨ (i = 0x1500 ∧ j = 3)))
    (hroute : ∀ i j, own i j → ¬routeEntry i j)
    (hkept : Kept (opened s r idx sub data) u (.dict :: .flash :: parts))
    (hflash : { u.flash with dirty := [], since := [] } = { s.flash with dirty := [], since := [] }) :
    Answers s r idx sub data code own parts (u.answer r.txn.toNat code) := by
  have hk : Kept u (u.answer r.txn.toNat code) [.dict, .svc, .leat] := kept_answer hsvc code
  have hsent : sentTo s r idx sub data code (u.answer r.txn.toNat code) := by
    refine (answer_leat hsvc code).trans (sendResponse_leat_congr _ _ (hleat.trans rfl) (fun i j hr => ?_))
    have hown : ¬(own i j ∨ (i = 0x1500 ∧ j = 3)) := fun h => h.elim (fun ho => hroute i j ho hr)
      (fun he => by unfold routeEntry at hr; omega)
    exact (hent i j (routeEntry_lt hr) hown).trans
      (entries_opened s r idx sub data i j (routeEntry_lt hr) (routeEntry_not_serviceEntry hr))
  refine ⟨answered_answer hsvc code, hsent, ?_, ?_, ?_⟩
  · exact ((entries_opened s r idx sub data).mono (fun _ _ h => .inr (.inl h))).trans
      ((hent.mono (fun _ _ h => h.imp_right .inr)).trans
        ((entries_answer hsvc code).mono (fun _ _ h => .inr (.inl h))))
  · refine ((kept_opened s r idx sub data).mono (by simp)).trans
      ((hkept.mono (fun p hp => ?_)).trans (hk.mono (by simp)))
    rcases List.mem_cons.1 hp with rfl | hp
    · exact List.mem_cons_self
    · rcases List.mem_cons.1 hp with rfl | hp
      · exact List.mem_append_left parts (by decide)
      · exact List.mem_append_right _ hp
  · rw [show (u.answer r.txn.toNat code).flash = u.flash from hk .flash (by simp)]
    exact hflash

/-- A write that a test refuses is answered with the test's code and changes nothing. -/
theorem answers_of_refused (s : State) (r : Req) (idx sub : Nat) (data : List Byte) (code : Nat) :
    Answers s r idx sub data code noEntry [] ((opened s r idx sub data).answer r.txn.toNat code) :=
  answers_of_effect code rfl rfl (Entries.refl _ _) (fun _ _ h => h.elim) (Kept.refl _ _)
    (by rw [show (opened s r idx sub data).flash = s.flash from kept_opened s r idx sub data .flash (by simp)])

/-! ### Tests that refuse (R420) -/

theorem orElse_ne_zero_left {a b : Nat} (h : a ≠ 0) : orElse a b ≠ 0 := by
  simp [orElse, h]

theorem orElse_ne_zero_right {a b : Nat} (h : b ≠ 0) : orElse a b ≠ 0 := by
  unfold orElse
  split
  · exact h
  · assumption

/-- A value outside its range is refused. -/
theorem writeTest_ne_zero_of_inRange {idx sub : Nat} {data : List Byte} (b : Bool)
    (h : s.inRange idx sub (ofBytes data) = false) : s.writeTest b idx sub data ≠ 0 := by
  unfold State.writeTest
  refine orElse_ne_zero_right (orElse_ne_zero_right (orElse_ne_zero_right (orElse_ne_zero_right (orElse_ne_zero_right
    (orElse_ne_zero_left ?_)))))
  simp [refuseIf, h]

/-- R422: a host write of an entry that is written in Idle alone is refused in another power state. -/
theorem writeTest_ne_zero_of_rwIdle {idx sub : Nat} {data : List Byte} (hacc : accOf idx sub = .rwIdle)
    (hp : s.e 0x1200 2 ≠ 0) : s.writeTest false idx sub data ≠ 0 := by
  have hstate : s.stateTest idx sub ≠ 0 := by
    unfold State.stateTest
    refine orElse_ne_zero_right (orElse_ne_zero_right (orElse_ne_zero_left ?_))
    simp [refuseIf, hacc, State.powerState, hp]
  unfold State.writeTest
  exact orElse_ne_zero_right (orElse_ne_zero_right (orElse_ne_zero_right (orElse_ne_zero_left
    (orElse_ne_zero_left hstate))))

/-- R30: a TIME96 value whose nanoseconds field is too large lies outside the range of every entry of that type. -/
theorem inRange_time96 (s : State) {idx sub v : Nat} {row : Row} (hrow : rowAt idx sub = some row)
    (hty : row.ty = .time96) (hv : 1000000000 ≤ v / 2 ^ 16 % 2 ^ 30) : s.inRange idx sub v = false := by
  have hbad : time96Ok v = false := decide_eq_false (Nat.not_lt.2 hv)
  simp [State.inRange, hrow, hty, hbad]

/-! ### TIME96 values of the hub's own (R30) -/

theorem nanoseconds_lt (u : Nat) : u % fuSec / 65536 < 1000000000 :=
  Nat.div_lt_of_lt_mul (by rw [Nat.mul_comm]; exact Nat.mod_lt u (by decide))

/-- The fields of a TIME96 value do not overlap: the nanoseconds field holds the whole nanoseconds of the second. -/
theorem nanoseconds_of_fields (u : Nat) :
    (u / fuSec * 2 ^ 48 + u % fuSec / 65536 * 2 ^ 16 + u % 65536) / 2 ^ 16 % 2 ^ 30 = u % fuSec / 65536 := by
  have hns := nanoseconds_lt u
  omega

theorem toTime96_nanoseconds (x : Int) : toTime96 x / 2 ^ 16 % 2 ^ 30 < 1000000000 := by
  unfold toTime96
  rw [nanoseconds_of_fields]
  exact nanoseconds_lt _

/-! ### Time under a change of mode (R32, R33) -/

/-- A domain's time depends on the Governor, its mode and the domain's increment. -/
theorem fine_congr {k : Nat} (hg : t.gov = s.gov) (hm : t.e 0x2300 1 = s.e 0x2300 1)
    (hi : t.e (0x2301 + k) 3 = s.e (0x2301 + k) 3) : t.fine k = s.fine k := by
  simp only [State.fine, State.dom, State.inc, hg, hm, hi]

/-- The two states differ in the Governor at most in where the domains' times stand. -/
def SameButTime (s t : State) : Prop :=
  { t.gov with doms := [] } = { s.gov with doms := [] } ∧
  ∀ k, { t.dom k with counter := 0, offset := 0, atTick := 0 } = { s.dom k with counter := 0, offset := 0, atTick := 0 }

theorem SameButTime.of_gov_eq (h : t.gov = s.gov) : SameButTime s t := by
  simp [SameButTime, State.dom, h]

theorem SameButTime.trans (h : SameButTime s t) (h' : SameButTime t u) : SameButTime s u :=
  ⟨h'.1.trans h.1, fun k => (h'.2 k).trans (h.2 k)⟩

theorem SameButTime.ticks_eq (h : SameButTime s t) : t.gov.ticks = s.gov.ticks := by
  simpa using congrArg Gov.ticks h.1

theorem sameButTime_setDom {d : Nat} {x : Dom}
    (h : { x with counter := 0, offset := 0, atTick := 0 } = { s.dom d with counter := 0, offset := 0, atTick := 0 }) :
    SameButTime s (s.setDom d x) := by
  refine ⟨rfl, fun k => ?_⟩
  rw [State.setDom_dom]
  split
  · next hk => rw [hk]; exact h
  · rfl

theorem sameButTime_setFine (s : State) (d : Nat) (x : Int) : SameButTime s (s.setFine d x) := by
  unfold State.setFine
  dsimp only
  split
  · exact sameButTime_setDom rfl
  · exact sameButTime_setDom rfl

@[simp] theorem State.setFine_e (s : State) (d : Nat) (x : Int) (i j : Nat) : (s.setFine d x).e i j = s.e i j := by
  unfold State.setFine
  dsimp only
  split <;> rfl

theorem kept_setFine (s : State) (d : Nat) (x : Int) : Kept s (s.setFine d x) [.gov] := by
  unfold State.setFine
  dsimp only
  split
  · exact kept_gov s _
  · exact kept_gov s _

theorem setFine_fine_same (s : State) (d : Nat) (x : Int) : (s.setFine d x).fine d = x := by
  have hticks : (s.setFine d x).gov.ticks = s.gov.ticks := (sameButTime_setFine s d x).ticks_eq
  unfold State.fine
  rw [State.setFine_e, hticks]
  by_cases hm : s.e 0x2300 1 = 1
  · have hset : s.setFine d x = s.setDom d { s.dom d with
        offset := x - ((s.gov.ticks * incNominal : Nat) : Int), atTick := s.gov.ticks } := if_pos hm
    rw [if_pos hm, hset, State.setDom_dom_same]
    dsimp only
    rw [Int.sub_self, Int.mul_zero]
    omega
  · have hset : s.setFine d x = s.setDom d { s.dom d with counter := x } := if_neg hm
    rw [if_neg hm, hset, State.setDom_dom_same]

theorem setFine_fine_other (s : State) {d k : Nat} (x : Int) (h : k ≠ d) : (s.setFine d x).fine k = s.fine k := by
  have hdom : (s.setFine d x).dom k = s.dom k := by
    unfold State.setFine
    dsimp only
    split <;> simp [State.setDom_dom, h]
  have hticks : (s.setFine d x).gov.ticks = s.gov.ticks := (sameButTime_setFine s d x).ticks_eq
  simp only [State.fine, State.inc, State.setFine_e, hdom, hticks]

/-- A change of mode stores the mode, then gives each domain the time that it had. -/
theorem setMode_eq (s : State) (v : Nat) : s.setMode v =
    ((((s.setE 0x2300 1 v).setFine 0 (s.fine 0)).setFine 1 (s.fine 1)).setFine 2 (s.fine 2)).setFine 3 (s.fine 3) := rfl

theorem setMode_fine (s : State) (v : Nat) {k : Nat} (hk : k < 4) : (s.setMode v).fine k = s.fine k := by
  rw [setMode_eq]
  have : k = 0 ∨ k = 1 ∨ k = 2 ∨ k = 3 := by omega
  rcases this with rfl | rfl | rfl | rfl <;>
    simp [setFine_fine_same, setFine_fine_other]

theorem setMode_e (s : State) (v i j : Nat) : (s.setMode v).e i j = (s.setE 0x2300 1 v).e i j := by
  simp [setMode_eq]

theorem kept_setMode (s : State) (v : Nat) : Kept s (s.setMode v) [.dict, .gov] := by
  have hfine : ∀ (s : State) d x, Kept s (s.setFine d x) [.dict, .gov] := fun s d x => (kept_setFine s d x).mono (by simp)
  exact ((((kept_setE s _ _ _).mono (by simp)).trans (hfine _ _ _)).trans (hfine _ _ _)).trans
    ((hfine _ _ _).trans (hfine _ _ _))

theorem sameButTime_setMode (s : State) (v : Nat) : SameButTime s (s.setMode v) :=
  ((((SameButTime.of_gov_eq (State.setE_gov s 0x2300 1 v)).trans (sameButTime_setFine _ _ _)).trans
    (sameButTime_setFine _ _ _)).trans (sameButTime_setFine _ _ _)).trans (sameButTime_setFine _ _ _)

/-- What an accepted write of Governor mode does: R33's change of mode, and nothing to persist (class G). -/
theorem applyWrite_governorMode (s : State) (txn : Nat) (v : BitVec 8) :
    s.applyWrite txn 0x2300 1 (toBytes 1 v.toNat) = (s.setMode v.toNat).done := by
  have hval : ofBytes (toBytes 1 v.toNat) = v.toNat := ofBytes_toBytes_of_lt (by simpa using v.isLt)
  have hty : (rowAt 0x2300 1).any (fun r => decide (r.ty = .time96)) = false := by decide
  have hsurv : survOf (ekey 0x2300 1) ≠ .P := by decide
  simp [State.applyWrite, State.applyEntry, State.entryEffect, hval, hty, inRun, State.done, movesReactions,
    State.noteWrite, hsurv]

/-- R33: what the host finds once a write of Governor mode is answered. -/
theorem answer_governorMode (s : State) (r : Req) (v : BitVec 8) :
    let t := ((opened s r 0x2300 1 (toBytes 1 v.toNat)).setMode v.toNat).answer r.txn.toNat 0
    t.e 0x2300 1 = v.toNat ∧ (∀ k, k < 4 → t.fine k = s.fine k) ∧ SameButTime s t ∧
      Answers s r 0x2300 1 (toBytes 1 v.toNat) 0 (entry 0x2300 1) [.gov] t := by
  intro t
  let o := opened s r 0x2300 1 (toBytes 1 v.toNat)
  have hko : Kept s o [.dict, .svc, .leat] := kept_opened _ _ _ _ _
  have hkm : Kept o (o.setMode v.toNat) [.dict, .gov] := kept_setMode _ _
  have hsvc : (o.setMode v.toNat).svc = o.svc := hkm .svc (by simp)
  have hkt : Kept (o.setMode v.toNat) t [.dict, .svc, .leat] := kept_answer hsvc 0
  have heo : ∀ {i j}, j < 256 → i ≠ 0x1300 → i ≠ 0x3500 → o.e i j = s.e i j := fun hj h h' =>
    entries_opened s r _ _ _ _ _ hj (by simp [serviceEntry, h, h'])
  have het : ∀ {i j}, j < 256 → i ≠ 0x1300 → i ≠ 0x3500 → t.e i j = (o.setMode v.toNat).e i j := fun hj h h' =>
    entries_answer hsvc 0 _ _ hj (by simp [serviceEntry, h, h'])
  refine ⟨?_, fun k hk => ?_, ?_, ?_⟩
  · rw [het (by omega) (by omega) (by omega), setMode_e, State.e_setE_same]
  · calc t.fine k = (o.setMode v.toNat).fine k := fine_congr (hkt .gov (by simp))
          (het (by omega) (by omega) (by omega)) (het (by omega) (by omega) (by omega))
      _ = o.fine k := setMode_fine _ _ hk
      _ = s.fine k := fine_congr (hko .gov (by simp))
          (heo (by omega) (by omega) (by omega)) (heo (by omega) (by omega) (by omega))
  · exact ((SameButTime.of_gov_eq (hko .gov (by simp))).trans (sameButTime_setMode _ _)).trans
      (SameButTime.of_gov_eq (hkt .gov (by simp)))
  · have hflash : (o.setMode v.toNat).flash = s.flash :=
      (hkm .flash (by simp)).trans (hko .flash (by simp))
    refine answers_of_effect 0 hsvc (hkm .leat (by simp)) (fun i j hj hn => ?_) (fun i j h => ?_)
      (hkm.mono (by simp)) (by rw [hflash])
    · rw [setMode_e]
      exact entries_setE o _ (by omega) ⟨rfl, rfl⟩ i j hj (fun he => hn (.inl he))
    · obtain ⟨rfl, rfl⟩ := h
      simp [routeEntry]

end Sys2Proof.Machine

namespace Sys2Proof.Proofs

open Sys2Proof.Machine Sys2Proof.Claim

/-- Settles O19: the value fails the range test of R420 whatever entry of its type it is written to, and the encoding
of an instant has a nanoseconds field below one second. -/
theorem timeValuesHold : Obligations.TimeValuesHold := by
  unfold Obligations.TimeValuesHold
  refine ⟨fun s r idx sub v row hrow hty hv ho => ?_, toTime96_nanoseconds⟩
  have hval : ofBytes (toBytes 12 v.toNat) = v.toNat := ofBytes_toBytes_of_lt (by simpa using v.isLt)
  have hcode : (opened s r idx.toNat sub.toNat (toBytes 12 v.toNat)).writeTest false idx.toNat sub.toNat
      (toBytes 12 v.toNat) ≠ 0 :=
    writeTest_ne_zero_of_inRange _ (by rw [hval]; exact inRange_time96 _ hrow hty hv)
  refine ⟨_, _, hcode, ?_, answers_of_refused _ _ _ _ _ _⟩
  exact congrArg Host.Outcome.next ((writeRequest_of_opens ho _).trans (writeNow_of_refused hcode))

/-- Settles O20: the state test of R420 refuses the write outside Idle; in Idle each domain is given the time that it
had. -/
theorem governorModeKeepsTime : Obligations.GovernorModeKeepsTime := by
  unfold Obligations.GovernorModeKeepsTime
  intro s r v
  constructor
  · intro hp ho
    have hcode : (opened s r 0x2300 1 (toBytes 1 v.toNat)).writeTest false 0x2300 1 (toBytes 1 v.toNat) ≠ 0 :=
      writeTest_ne_zero_of_rwIdle (by decide) (by
        rwa [entries_opened s r _ _ _ 0x1200 2 (by omega) (by simp [serviceEntry])])
    refine ⟨_, _, hcode, ?_, answers_of_refused _ _ _ _ _ _⟩
    exact congrArg Host.Outcome.next ((hostWrite_of_opens ho _).trans (writeNow_of_refused hcode))
  · intro ha
    obtain ⟨ho, htest⟩ : opens s r (writeBytes r 0x2300 1 (toBytes 1 v.toNat)) = true ∧
        (opened s r 0x2300 1 (toBytes 1 v.toNat)).writeTest false 0x2300 1 (toBytes 1 v.toNat) = 0 := by
      simpa [accepted] using ha
    have happly := applyWrite_governorMode (opened s r 0x2300 1 (toBytes 1 v.toNat)) r.txn.toNat v
    refine ⟨_, congrArg Host.Outcome.next ((hostWrite_of_opens ho _).trans (writeNow_of_applied htest happly)), ?_⟩
    obtain ⟨hmode, hfine, ⟨hgov, hdom⟩, hans⟩ := answer_governorMode s r v
    exact ⟨hmode, hfine, hgov, hdom, hans⟩

end Sys2Proof.Proofs
end

section

/-! The block check of R266 and the place where a COMMIT item carries it (R358, R366). -/

namespace Sys2Proof.Machine

/-! ### The register of a CRC stays in 32 bits (R6) -/

theorem crcBit_lt {poly c : Nat} (hpoly : poly < 2 ^ 32) (hc : c < 2 ^ 32) : crcBit poly c < 2 ^ 32 := by
  have hhalf : c / 2 < 2 ^ 32 := by omega
  unfold crcBit
  split
  · exact Nat.xor_lt_two_pow hhalf hpoly
  · exact hhalf

theorem crcByte_lt {poly c : Nat} (hpoly : poly < 2 ^ 32) (hc : c < 2 ^ 32) (b : Byte) : crcByte poly c b < 2 ^ 32 := by
  have hb : b.toNat < 2 ^ 32 := by omega
  have hx : c ^^^ b.toNat < 2 ^ 32 := Nat.xor_lt_two_pow hc hb
  unfold crcByte
  iterate 8 refine crcBit_lt hpoly ?_
  exact hx

theorem crcRun_lt {poly init : Nat} (hpoly : poly < 2 ^ 32) (hinit : init < 2 ^ 32) (bs : List Byte) :
    crcRun poly init bs < 2 ^ 32 := by
  induction bs generalizing init with
  | nil => exact hinit
  | cons b bs ih => exact ih (crcByte_lt hpoly hinit b)

theorem crc32C_lt (bs : List Byte) : crc32C bs < 2 ^ 32 :=
  Nat.xor_lt_two_pow (crcRun_lt (by decide) (by decide) bs) (by decide)

/-! ### Bytes that end in their own check -/

/-- R266: the last four bytes are the CRC-32C of every byte before them. -/
def EndsInCheck (x : List Byte) : Prop :=
  4 ≤ x.length ∧ ofBytes (x.drop (x.length - 4)) = crc32C (x.take (x.length - 4))

theorem endsInCheck_append_crc32C (body : List Byte) : EndsInCheck (body ++ toBytes 4 (crc32C body)) := by
  have hlen : (body ++ toBytes 4 (crc32C body)).length - 4 = body.length := by simp [length_toBytes]
  refine ⟨by simp [length_toBytes], ?_⟩
  rw [hlen, List.drop_left, List.take_left, ofBytes_toBytes_of_lt (crc32C_lt body)]

theorem endsInCheck_rawBlock (h : Head) (b : Body) (fault : Bool) : EndsInCheck (rawBlock h b fault) :=
  endsInCheck_append_crc32C _

/-- The coded form is checked only once it is kept: where it gives up there are no bytes to check. -/
theorem endsInCheck_of_codedBlock {h : Head} {b : Body} {pred rawLen : Nat} {ys : Refs} {user : List Nat}
    {x : List Byte} (hx : codedBlock h b pred ys user rawLen = some x) : EndsInCheck x := by
  unfold codedBlock at hx
  extract_lets w ts dyn bits runs at hx
  clear_value bits
  split at hx
  case h_1 => cases hx
  case h_2 coded =>
    extract_lets sect len body at hx
    split at hx
    · cases hx
    · cases hx
      exact endsInCheck_append_crc32C body

/-- R264, R283, R286: whichever form a block is stored in, the raw form after a verify fault included, it ends in its
check. -/
theorem State.endsInCheck_encode {s : State} {n : Nat} (hn : s.legacy n = false) (b : Block) (verify : Nat) :
    EndsInCheck (s.encode n b verify).1 := by
  unfold State.encode
  rw [if_neg (by simp [hn])]
  split
  · exact endsInCheck_rawBlock _ _ _
  · extract_lets p u
    split
    · exact endsInCheck_rawBlock _ _ _
    case h_2 x hx =>
      split
      · exact endsInCheck_rawBlock _ _ _
      · exact endsInCheck_of_codedBlock hx

/-! ### The COMMIT item of a paired standby (R366) -/

/-- Code, length, queue, kind, record length and record number are the 10 bytes ahead of the check. -/
theorem Rec.item_check {r : Rec} (hkind : r.kind ≤ 2) (hlen : 4 ≤ r.bytes.length) (q num : Nat) :
    ((r.item q num true).drop 10).take 4 = r.bytes.drop (r.bytes.length - 4) := by
  have hcheck : (r.bytes.drop (r.bytes.length - 4)).length = 4 := by rw [List.length_drop]; omega
  have hitem : r.item q num true =
      (toBytes 1 2 ++ toBytes 1 16 ++ toBytes 1 q ++ toBytes 1 r.kind ++ toBytes 2 r.bytes.length ++ toBytes 4 num) ++
        (r.bytes.drop (r.bytes.length - 4) ++ zeros 2) := by
    simp [Rec.item, twinItem, hkind]
  rw [hitem, List.drop_left' (by simp [length_toBytes]), List.take_left' hcheck]

theorem State.blockRec_bytes (s : State) (n : Nat) (b : Block) (bytes : List Byte) (refs : List (Nat × Nat × Int)) :
    (s.blockRec n b bytes refs).bytes = bytes := rfl

/-- A record of a block is of kind 1, or 2 in the 0960 mode. -/
theorem State.blockRec_kind_le (s : State) (n : Nat) (b : Block) (bytes : List Byte) (refs : List (Nat × Nat × Int)) :
    (s.blockRec n b bytes refs).kind ≤ 2 := by
  change (if s.legacy n then 2 else 1) ≤ 2
  split <;> decide

end Sys2Proof.Machine

namespace Sys2Proof.Proofs

open Sys2Proof.Machine

/-- Settles O44: every form in which a block is stored is a body followed by the CRC-32C of that body, and the COMMIT
item has those four bytes behind its first ten. -/
theorem blockCheckCoversBlock : Obligations.BlockCheckCoversBlock := by
  unfold Obligations.BlockCheckCoversBlock
  intro s n b verify q num hn e x
  obtain ⟨hlen, hcheck⟩ : EndsInCheck x := State.endsInCheck_encode hn b verify
  exact ⟨hlen, hcheck, Rec.item_check (s.blockRec_kind_le n b x e.2.1) hlen q num⟩

end Sys2Proof.Proofs
end

section

/-! A safety tick and its trips: what a trip's turn may change, and when a trip demands (R379, R390, R391). -/

namespace Sys2Proof.Machine

open Sys2Proof.Claim

variable {s t u : State} {i j n m : Nat} {d : Bool}

/-! ### What a change of one field keeps -/

theorem kept_setInput (s : State) (i : Nat) (x : SafeIn) : Kept s (s.setInput i x) [.inputs] := by
  intro p hp
  cases p with
  | inputs => exact absurd List.mem_cons_self hp
  | _ => rfl

theorem kept_setCmp (s : State) (l : Nat) (x : CmpRun) : Kept s (s.setCmp l x) [.cmps] := by
  intro p hp
  cases p with
  | cmps => exact absurd List.mem_cons_self hp
  | _ => rfl

theorem kept_setTrip (s : State) (n : Nat) (x : TripRun) : Kept s (s.setTrip n x) [.trips] := by
  intro p hp
  cases p with
  | trips => exact absurd List.mem_cons_self hp
  | _ => rfl

theorem kept_pins (s : State) (x : Pins) : Kept s { s with pins := x } [.pins] := by
  intro p hp
  cases p with
  | pins => exact absurd List.mem_cons_self hp
  | _ => rfl

theorem flagged_flag_same (s : State) (i j k : Nat) (b : Bool) (l : Nat) :
    (s.flag i j k b).flagged i j l = if l = k then b else s.flagged i j l := by
  unfold State.flagged State.flag bit
  rw [State.e_setE_same, testBit_setBit]

theorem ekey_ne_of_sub {k : Nat} (hk : k < 256) (hne : j ≠ k) (hj : j < 256) : ekey i j ≠ ekey i k :=
  fun h => hne ((ekey_inj hj hk).1 h).2

/-! ### Answers (R416, R419) -/

theorem answerReq_kept (s : State) (txn : Nat) (south : Bool) (req : List Byte) (idx sub code : Nat) :
    Kept s (s.answerReq txn south req idx sub code) [.dict, .svc, .leat] := by
  unfold State.answerReq
  split
  · exact kept_complete _ _ _ _ _
  · exact ((kept_countAbort s idx sub code).mono (by simp)).trans (kept_complete _ _ _ _ _)

theorem answerReq_entries (s : State) (txn : Nat) (south : Bool) (req : List Byte) (idx sub code : Nat) :
    Entries s (s.answerReq txn south req idx sub code) serviceEntry := by
  unfold State.answerReq
  split
  · exact entries_complete _ _ _ _ _
  · exact (entries_countAbort s idx sub code).trans (entries_complete _ _ _ _ _)

/-- Whether or not an answer is owed, no more than SERVICE and Leat move. -/
theorem State.answer_kept (s : State) (txn code : Nat) : Kept s (s.answer txn code) [.dict, .svc, .leat] := by
  unfold State.answer
  split
  · exact Kept.refl _ _
  · split
    · exact answerReq_kept _ _ _ _ _ _ _
    · exact Kept.refl _ _

theorem State.answer_entries (s : State) (txn code : Nat) : Entries s (s.answer txn code) serviceEntry := by
  unfold State.answer
  split
  · exact Entries.refl _ _
  · split
    · exact answerReq_entries _ _ _ _ _ _ _
    · exact Entries.refl _ _

/-- R417, R419: a refusal that is owed is the newest of the stored responses. -/
theorem State.answer_stored_of_refused {txn code : Nat} {x : Txn} (hopen : s.svc.txns.lookup txn = some x)
    (hexec : x.xfer = .executing) (hcode : code ≠ 0) :
    (s.answer txn code).svc.stored.head? = some (txn, x.req, abortBytes txn x.idx x.sub code) := by
  simp only [State.answer, hopen, hexec, if_true, State.answerReq, hcode, if_false, State.refuse, complete_svc,
    List.head?_cons]

/-! ### The tick before the trips: inputs, comparators and acknowledges of inputs (R379) -/

/-- The tick up to its trips. -/
def State.beforeTrips (s : State) (p : SafetyPins) (mismatch : Bool) : State :=
  let s := { s with safeTicks := s.safeTicks + 1, pins := { s.pins with
    sia := p.sia.toNat, sib := p.sib.toNat, tfa := p.tfa.toNat, tfb := p.tfb.toNat } }
  let s := (List.range 16).foldl (fun s i => s.inputTick i (bit p.sia.toNat i) (bit p.sib.toNat i)) s
  let s := (Tbl.keys s.cmps).foldl State.cmpRefresh s
  let s := (List.range 16).foldl State.inputAck s
  if mismatch then s.safetyFault else s

theorem State.tick10_eq (s : State) (p : SafetyPins) (mismatch : Bool) :
    s.tick10 p mismatch = (List.range 8).foldl (fun s n => s.tripTick n p) (s.beforeTrips p mismatch) := rfl

/-- Inputs and comparators have moved, and no acknowledge of an input has come in. -/
structure InputsMove (s t : State) : Prop where
  kept : Kept s t [.dict, .inputs, .cmps, .safeTicks, .pins]
  ack : ∀ i, (s.input i).ack = none → (t.input i).ack = none

namespace InputsMove

theorem refl (s : State) : InputsMove s s := ⟨Kept.refl _ _, fun _ h => h⟩

theorem trans (h : InputsMove s t) (h' : InputsMove t u) : InputsMove s u :=
  ⟨h.kept.trans h'.kept, fun i hi => h'.ack i (h.ack i hi)⟩

theorem setE (h : InputsMove s t) (i j v : Nat) : InputsMove s (t.setE i j v) :=
  h.trans ⟨(kept_setE _ _ _ _).mono (by simp), fun _ hi => hi⟩

theorem setCmp (h : InputsMove s t) (l : Nat) (x : CmpRun) : InputsMove s (t.setCmp l x) :=
  h.trans ⟨(kept_setCmp _ _ _).mono (by simp), fun _ hi => hi⟩

theorem setInput (h : InputsMove s t) (i : Nat) {x : SafeIn} (hx : x.ack = (t.input i).ack) :
    InputsMove s (t.setInput i x) := by
  refine h.trans ⟨(kept_setInput _ _ _).mono (by simp), fun k hk => ?_⟩
  rw [State.setInput_input]
  split
  · next hki => rw [hx, ← hki, hk]
  · exact hk

theorem debounce (h : InputsMove s t) (i : Nat) (chB : Bool) : InputsMove s (t.debounce i chB) := by
  unfold State.debounce
  extract_lets x ticks
  split
  · exact h
  · split
    · exact h.setE _ _ _
    · exact h

theorem discrepancy (h : InputsMove s t) (i : Nat) : InputsMove s (t.discrepancy i) := by
  unfold State.discrepancy
  split
  · exact ((h.setE _ _ _).setE _ _ _).setE _ _ _
  · exact h

theorem inputTick (h : InputsMove s t) (i : Nat) (a b : Bool) : InputsMove s (t.inputTick i a b) := by
  unfold State.inputTick
  extract_lets x v w d y old z
  have hv : InputsMove s v := h.setInput i rfl
  have hy : InputsMove s y := ((hv.debounce i false).debounce i true).setE _ _ _
  have hz : InputsMove s z := hy.setInput i rfl
  exact (hz.discrepancy i).setE _ _ _

theorem cmpRefresh (h : InputsMove s t) (l : Nat) : InputsMove s (t.cmpRefresh l) := by
  unfold State.cmpRefresh State.cmpDemand
  dsimp only
  split
  · split
    · exact ((h.setCmp _ _).setE _ _ _).setE _ _ _
    · exact h.setCmp _ _
  · exact h

theorem safetyFault (h : InputsMove s t) : InputsMove s t.safetyFault := by
  unfold State.safetyFault
  split
  · exact h
  · exact (h.setE _ _ _).setE _ _ _

end InputsMove

theorem State.inputAck_of_none (h : (s.input i).ack = none) : s.inputAck i = s := by
  unfold State.inputAck
  rw [h]

/-- Where no acknowledge of an input waits, SERVICE and the trips come to their turn as they were. -/
theorem State.beforeTrips_inputsMove (p : SafetyPins) (mismatch : Bool) (hack : ∀ i, i < 16 → (s.input i).ack = none) :
    InputsMove s (s.beforeTrips p mismatch) := by
  unfold State.beforeTrips
  extract_lets pins v w x y
  have hv : InputsMove s v := by
    refine ⟨fun q hq => ?_, fun _ h => h⟩
    cases q with
    | safeTicks => simp at hq
    | pins => simp at hq
    | _ => rfl
  have hw : InputsMove s w :=
    List.foldlRecOn _ _ (motive := InputsMove s) hv (fun _ h _ _ => h.inputTick _ _ _)
  have hx : InputsMove s x :=
    List.foldlRecOn _ _ (motive := InputsMove s) hw (fun _ h _ _ => h.cmpRefresh _)
  have hy : InputsMove s y := by
    refine List.foldlRecOn _ _ (motive := InputsMove s) hx (fun b h i hi => ?_)
    rw [State.inputAck_of_none (h.ack i (hack i (List.mem_range.1 hi)))]
    exact h
  split
  · exact hy.safetyFault
  · exact hy

/-! ### What a trip's turn may move -/

/-- Entries that the turn of a trip writes: its state, status, count and Last trip, beside those of an answer. -/
def turnEntry (n i j : Nat) : Prop := entriesOf (tripr n) [9, 0x0A, 0x0C, 0x0D] i j ∨ serviceEntry i j

/-- Of the trips only the one named has moved; it is parked or not as it was, and no acknowledge of it has come in. -/
structure TurnMoves (n : Nat) (s t : State) : Prop where
  entries : Entries s t (turnEntry n)
  kept : Kept s t [.dict, .svc, .leat, .trips, .pins]
  other : ∀ m, m ≠ n → t.trip m = s.trip m
  parked : (t.trip n).parked = (s.trip n).parked
  ack : (s.trip n).ack = none → (t.trip n).ack = none

namespace TurnMoves

theorem refl (n : Nat) (s : State) : TurnMoves n s s :=
  ⟨Entries.refl _ _, Kept.refl _ _, fun _ _ => rfl, rfl, fun h => h⟩

theorem trans (h : TurnMoves n s t) (h' : TurnMoves n t u) : TurnMoves n s u :=
  ⟨h.entries.trans h'.entries, h.kept.trans h'.kept, fun m hm => (h'.other m hm).trans (h.other m hm),
    h'.parked.trans h.parked, fun hn => h'.ack (h.ack hn)⟩

theorem setE (s : State) {j : Nat} (v : Nat) (hj : j ∈ [9, 0x0A, 0x0C, 0x0D]) : TurnMoves n s (s.setE (tripr n) j v) := by
  have hlt : j < 256 := by
    simp only [List.mem_cons, List.not_mem_nil, or_false] at hj
    omega
  exact ⟨entries_setE _ _ hlt (.inl ⟨rfl, hj⟩), (kept_setE _ _ _ _).mono (by simp), fun _ _ => rfl, rfl, fun h => h⟩

theorem setTrip {x : TripRun} (hparked : x.parked = (s.trip n).parked) (hack : (s.trip n).ack = none → x.ack = none) :
    TurnMoves n s (s.setTrip n x) where
  entries := Entries.refl _ _
  kept := (kept_setTrip _ _ _).mono (by simp)
  other m hm := by rw [State.setTrip_trip, if_neg hm]
  parked := by rw [State.setTrip_trip_same, hparked]
  ack h := by rw [State.setTrip_trip_same, hack h]

theorem setPins (s : State) (x : Pins) : TurnMoves n s { s with pins := x } :=
  ⟨Entries.refl _ _, (kept_pins _ _).mono (by simp), fun _ _ => rfl, rfl, fun h => h⟩

theorem answer (s : State) (txn code : Nat) : TurnMoves n s (s.answer txn code) := by
  have hkept : Kept s (s.answer txn code) [.dict, .svc, .leat] := s.answer_kept txn code
  have htrip : ∀ m, (s.answer txn code).trip m = s.trip m := fun m => by
    unfold State.trip
    rw [show (s.answer txn code).trips = s.trips from hkept .trips (by simp)]
  exact ⟨(s.answer_entries txn code).mono (fun _ _ h => .inr h), hkept.mono (by simp), fun m _ => htrip m,
    by rw [htrip], fun h => by rw [htrip, h]⟩

end TurnMoves

/-- The part of a turn after the trip was evaluated: nothing is answered, the status goes on showing the demand, and a
trip that demands and is not HEALTHY does not become so. -/
structure TurnKeeps (n : Nat) (d : Bool) (s t : State) : Prop extends TurnMoves n s t where
  svc : t.svc = s.svc
  shown : s.flagged (tripr n) 0x0A 0 = d → t.flagged (tripr n) 0x0A 0 = d
  tripped : d = true → s.tripState n ≠ 0 → t.tripState n ≠ 0

namespace TurnKeeps

theorem refl (n : Nat) (d : Bool) (s : State) : TurnKeeps n d s s :=
  ⟨TurnMoves.refl _ _, rfl, fun h => h, fun _ h => h⟩

theorem trans (h : TurnKeeps n d s t) (h' : TurnKeeps n d t u) : TurnKeeps n d s u :=
  ⟨h.toTurnMoves.trans h'.toTurnMoves, h'.svc.trans h.svc, fun hs => h'.shown (h.shown hs),
    fun hd hs => h'.tripped hd (h.tripped hd hs)⟩

/-- A trip is given a state: HEALTHY only where it does not demand. -/
theorem setState (s : State) {v : Nat} (hv : d = true → v ≠ 0) : TurnKeeps n d s (s.setE (tripr n) 9 v) := by
  refine ⟨TurnMoves.setE _ _ (by simp), rfl, fun h => ?_, fun hd _ => ?_⟩
  · rwa [State.flagged, State.e_setE_other _ _ (ekey_ne_of_sub (by decide) (by decide) (by decide))]
  · rw [State.tripState, State.e_setE_same]
    exact hv hd

/-- Count and Last trip are written. -/
theorem setNote (s : State) {j : Nat} (v : Nat) (hj : j ∈ [0x0C, 0x0D]) : TurnKeeps n d s (s.setE (tripr n) j v) := by
  have hj' : j = 0x0C ∨ j = 0x0D := by simpa using hj
  have hne : ∀ k, k = 9 ∨ k = 0x0A → ekey (tripr n) k ≠ ekey (tripr n) j := fun k hk =>
    ekey_ne_of_sub (by omega) (by omega) (by omega)
  refine ⟨TurnMoves.setE _ _ (by simp [hj']), rfl, fun h => ?_, fun _ h => ?_⟩
  · rwa [State.flagged, State.e_setE_other _ _ (hne _ (.inr rfl))]
  · rwa [State.tripState, State.e_setE_other _ _ (hne _ (.inl rfl))]

/-- A bit of the status other than the demand is written. -/
theorem setStatus (s : State) {k : Nat} (b : Bool) (hk : k ≠ 0) : TurnKeeps n d s (s.flag (tripr n) 0x0A k b) := by
  refine ⟨TurnMoves.setE _ _ (by simp), rfl, fun h => ?_, fun _ h => ?_⟩
  · rwa [flagged_flag_same, if_neg (Ne.symm hk)]
  · rwa [State.tripState, State.flag, State.e_setE_other _ _ (ekey_ne_of_sub (by decide) (by decide) (by decide))]

theorem setTrip {x : TripRun} (hparked : x.parked = (s.trip n).parked) (hack : x.ack = (s.trip n).ack) :
    TurnKeeps n d s (s.setTrip n x) :=
  ⟨TurnMoves.setTrip hparked (fun h => hack.trans h), rfl, fun h => h, fun _ h => h⟩

theorem setPins (s : State) (x : Pins) : TurnKeeps n d s { s with pins := x } :=
  ⟨TurnMoves.setPins _ _, rfl, fun h => h, fun _ h => h⟩

theorem drivePin (s : State) (chB level : Bool) : TurnKeeps n d s (s.drivePin n chB level) := by
  unfold State.drivePin
  split
  · split
    · exact refl _ _ _
    · exact (setPins _ _).trans (setTrip rfl rfl)
  · split
    · exact refl _ _ _
    · exact (setPins _ _).trans (setTrip rfl rfl)

theorem drive (s : State) : TurnKeeps n d s (s.drive n) :=
  (drivePin s false _).trans (drivePin _ true _)

theorem pulseBit (s : State) : TurnKeeps n d s (s.pulseBit n) := setStatus _ _ (by decide)

/-- R391: once a trip has entered a de-energised state, the instant is noted and the pins follow. -/
theorem pinsFollow (s : State) (v : Nat) :
    TurnKeeps n d s (((s.setE (tripr n) 0x0D v).pulseBit n).drive n) :=
  ((setNote s v (by simp)).trans (pulseBit _)).trans (drive _)

theorem tripTo (s : State) {v : Nat} (hv : v ≠ 0) : TurnKeeps n d s (s.tripTo n v) := by
  unfold State.tripTo
  extract_lets u old w
  have hu : TurnKeeps n d s u := by
    unfold u
    split
    · exact setNote s _ (by simp)
    · exact refl _ _ _
  have hw : TurnKeeps n d s w := hu.trans (setTrip rfl rfl)
  exact (hw.trans (setState w (fun _ => hv))).trans (pinsFollow _ _)

theorem readbackFault (s : State) (chB : Bool) : TurnKeeps n d s (s.readbackFault n chB) := by
  have hflag : TurnKeeps n d s (s.flag (tripr n) 0x0A (if chB then 2 else 1) true) :=
    setStatus s true (by cases chB <;> decide)
  unfold State.readbackFault
  dsimp only
  split
  · exact hflag
  · exact hflag.trans (tripTo _ (by decide))

theorem readback (s : State) (chB tf : Bool) : TurnKeeps n d s (s.readback n chB tf) := by
  unfold State.readback
  extract_lets x pin since diff pulse width lastTick y
  have hset : ∀ a b : TripRun, a.parked = x.parked → a.ack = x.ack → b.parked = x.parked → b.ack = x.ack →
      TurnKeeps n d s (s.setTrip n (if chB then a else b)) := fun a b ha ha' hb hb' => by
    split
    · exact setTrip ha ha'
    · exact setTrip hb hb'
  have hy : TurnKeeps n d s y := hset _ _ rfl rfl rfl rfl
  split
  · exact hset _ _ rfl rfl rfl rfl
  · split
    · exact readbackFault _ _
    · split
      · split
        · exact hy.trans (readbackFault _ _)
        · exact hy
      · exact refl _ _ _

theorem startPulse (s : State) (chB : Bool) : TurnKeeps n d s (s.startPulse n chB) := by
  have hstart : ∀ x : TripRun, x.parked = (s.trip n).parked → x.ack = (s.trip n).ack →
      TurnKeeps n d s (((s.setTrip n x).pulseBit n).drive n) := fun x hp ha =>
    ((setTrip hp ha).trans (pulseBit _)).trans (drive _)
  unfold State.startPulse
  dsimp only
  split
  · split
    · exact hstart _ rfl rfl
    · exact refl _ _ _
  · split
    · exact hstart _ rfl rfl
    · exact refl _ _ _

theorem endPulse (s : State) (chB : Bool) : TurnKeeps n d s (s.endPulse n chB) := by
  unfold State.endPulse
  dsimp only
  split
  · split
    · refine TurnKeeps.trans ?_ (pulseBit _)
      split <;> exact setTrip rfl rfl
    · exact refl _ _ _
  · exact refl _ _ _

end TurnKeeps

theorem tripTo_tripState_ne_zero (s : State) (n : Nat) {v : Nat} (hv : v ≠ 0) : (s.tripTo n v).tripState n ≠ 0 := by
  unfold State.tripTo
  extract_lets u old w
  refine (TurnKeeps.pinsFollow (d := true) (w.setE (tripr n) 9 v) w.stamp).tripped rfl ?_
  rwa [State.tripState, State.e_setE_same]

/-! ### The turn of a trip -/

theorem State.tripAck_of_none {p : SafetyPins} (h : (s.trip n).ack = none) : s.tripAck n p = s := by
  unfold State.tripAck
  rw [h]

/-- An acknowledge that waits is taken up, its effect follows, and then it is answered. -/
theorem State.tripAck_of_some {txn : Nat} (p : SafetyPins) (h : (s.trip n).ack = some txn) :
    ∃ u, TurnMoves n s u ∧ u.svc = s.svc ∧ s.tripAck n p = u.answer txn (s.tripAckCode n p) := by
  have htaken : TurnMoves n s (s.setTrip n { s.trip n with ack := none }) := TurnMoves.setTrip rfl (fun _ => rfl)
  unfold State.tripAck
  rw [h]
  dsimp only
  refine ⟨_, ?_, ?_, rfl⟩
  · split
    · exact ((htaken.trans (.setE _ _ (by simp))).trans (.setE _ _ (by simp))).trans (.setE _ _ (by simp))
    · exact htaken
  · split <;> rfl

theorem State.tripAck_turnMoves (s : State) (n : Nat) (p : SafetyPins) : TurnMoves n s (s.tripAck n p) := by
  cases h : (s.trip n).ack with
  | none => rw [State.tripAck_of_none h]; exact TurnMoves.refl _ _
  | some txn =>
    obtain ⟨u, hu, -, he⟩ := State.tripAck_of_some p h
    rw [he]
    exact hu.trans (TurnMoves.answer _ _ _)

/-- R391: an evaluation shows the demand and then gives the trip the state of Table 14-3. -/
theorem State.tripEval_turnKeeps (s : State) (n : Nat) :
    TurnKeeps n (s.demands n) (s.flag (tripr n) 0x0A 0 (s.demands n)) (s.tripEval n) := by
  unfold State.tripEval
  extract_lets d u
  split
  · split
    · exact .tripTo _ (by decide)
    · exact .setState _ (fun _ => by decide)
  · split
    · exact .refl _ _ _
    · split
      · exact .tripTo _ (by decide)
      · split
        · exact .tripTo _ (by split <;> decide)
        · split
          · next hd => exact .setState _ (fun h => by simp [d, h] at hd)
          · exact .refl _ _ _

/-- R390, R391: a trip that demands and is not parked does not come out HEALTHY. -/
theorem State.tripEval_tripState_ne_zero (hd : s.demands n = true) (hp : (s.trip n).parked = false) :
    (s.tripEval n).tripState n ≠ 0 := by
  unfold State.tripEval
  extract_lets d u
  have hparked : ¬(u.trip n).parked = true := by simp [u, hp]
  split
  · split
    · exact tripTo_tripState_ne_zero _ _ (by decide)
    · simp [State.tripState]
  · split
    · exact tripTo_tripState_ne_zero _ _ (by decide)
    · split
      · exact tripTo_tripState_ne_zero _ _ (by split <;> decide)
      · next hstate => simpa [d, hd] using hstate

/-! ### When a trip demands (R390) -/

/-- SAFETY_FAULT, TICK_OVERRUN, SEAL_MISMATCH and SEAL_CHANGED are bits 1 to 4 of 0x3810.04. -/
theorem State.safetyFaulted_iff : s.safetyFaulted = true ↔ ∃ k ∈ [1, 2, 3, 4], s.flagged 0x3810 4 k = true := by
  simp only [State.safetyFaulted, State.flagged, bit, Nat.testBit_eq_decide_div_mod_eq, List.mem_cons, List.not_mem_nil,
    or_false, exists_eq_or_imp, exists_eq_left, decide_eq_true_eq]
  omega

theorem State.demands_iff : s.demands n = true ↔
    (let used := (List.range 32).filterMap (fun i => s.term (s.e (tripr n) (0x10 + i)))
     s.e (tripr n) 2 ≤ (used.filter (fun b => b == false)).length ∨ used.length < s.e (tripr n) 2 ∨
       ∃ k ∈ [1, 2, 3, 4], s.flagged 0x3810 4 k = true) := by
  have hused : (s.termWords n).filterMap s.term =
      (List.range 32).filterMap (fun i => s.term (s.e (tripr n) (0x10 + i))) := by
    rw [State.termWords, List.filterMap_map]
    rfl
  have hzero : (fun b : Bool => !b) = (fun b => b == false) := by
    funext b
    cases b <;> rfl
  simp only [State.demands, hused, hzero, Bool.or_eq_true, decide_eq_true_eq, ← State.safetyFaulted_iff]
  exact or_comm.trans (or_congr_right or_comm)

/-- Where the entries lie that decide whether a trip demands: the faults, Vote and the terms, and what the terms read of
inputs, comparators and connections. -/
def demandEntry (i j : Nat) : Prop :=
  0x3800 ≤ i ∧ (j = 1 ∨ j = 2 ∨ j = 4 ∨ j = 7 ∨ j = 8 ∨ (0x10 ≤ j ∧ j < 0x30) ∨ (0x3A00 ≤ i ∧ j = 0x0A))

theorem demandEntry_lt (h : demandEntry i j) : j < 256 := by
  unfold demandEntry at h
  omega

/-- No turn of a trip writes them. -/
theorem demandEntry_not_turnEntry (h : demandEntry i j) (hn : n < 8) : ¬turnEntry n i j := by
  unfold demandEntry at h
  simp only [turnEntry, entriesOf, serviceEntry, tripr, List.mem_cons, List.not_mem_nil, or_false]
  omega

/-- `t` has what decides whether a trip demands as `s` has it. -/
def SameDemands (s t : State) : Prop := t.blobs = s.blobs ∧ ∀ i j, demandEntry i j → t.e i j = s.e i j

theorem SameDemands.term_eq (h : SameDemands s t) (w : Nat) : t.term w = s.term w := by
  obtain ⟨hblobs, hent⟩ := h
  have hin : ∀ i j, j = 1 ∨ j = 4 → t.e (sin i) j = s.e (sin i) j := fun i j hj =>
    hent _ _ (by unfold demandEntry sin; omega)
  have hcmp : ∀ l j, j = 1 ∨ j = 0x0A → t.e (cmpr l) j = s.e (cmpr l) j := fun l j hj =>
    hent _ _ (by unfold demandEntry cmpr; omega)
  have hscrim : ∀ k j, j = 1 ∨ j = 2 ∨ j = 7 ∨ j = 8 → t.e (0x3B00 + k) j = s.e (0x3B00 + k) j := fun k j hj =>
    hent _ _ (by unfold demandEntry; omega)
  unfold State.term State.scrimBit
  simp (disch := decide) only [hin, hcmp, hscrim, hblobs]

theorem SameDemands.demands_eq (h : SameDemands s t) (n : Nat) : t.demands n = s.demands n := by
  have hterm : t.term = s.term := funext h.term_eq
  obtain ⟨-, hent⟩ := h
  have hwords : t.termWords n = s.termWords n :=
    List.map_congr_left (fun i hi => hent _ _ (by
      have hlt : i < 32 := List.mem_range.1 hi
      unfold demandEntry tripr
      omega))
  have hvote : t.e (tripr n) 2 = s.e (tripr n) 2 := hent _ _ (by unfold demandEntry tripr; omega)
  have hfaults : t.e 0x3810 4 = s.e 0x3810 4 := hent _ _ (by unfold demandEntry; omega)
  simp only [State.demands, State.safetyFaulted, hterm, hwords, hvote, hfaults]

theorem TurnMoves.sameDemands (h : TurnMoves n s t) (hn : n < 8) : SameDemands s t :=
  ⟨h.kept .blobs (by simp), fun i j hij => h.entries i j (demandEntry_lt hij) (demandEntry_not_turnEntry hij hn)⟩

/-! ### A whole turn, and the turns of the others -/

/-- After the acknowledge and the evaluation of a trip its pulses end, its pins are driven and read back, and its pulses
start (R393, R394). -/
theorem State.tripTick_turnKeeps (s : State) (n : Nat) (p : SafetyPins) :
    TurnKeeps n d ((s.tripAck n p).tripEval n) (s.tripTick n p) := by
  unfold State.tripTick
  extract_lets u v w x
  have hw : TurnKeeps n d u w := ((TurnKeeps.endPulse u false).trans (.endPulse _ true)).trans (.drive _)
  have hx : TurnKeeps n d u x := by
    unfold x
    split
    · exact (hw.trans (.readback _ _ _)).trans (.readback _ _ _)
    · exact hw
  exact (hx.trans (.startPulse _ _)).trans (.startPulse _ _)

/-- An evaluation moves what a turn may move and answers nothing. -/
theorem State.tripEval_turnMoves (s : State) (n : Nat) :
    TurnMoves n s (s.tripEval n) ∧ (s.tripEval n).svc = s.svc :=
  ⟨(TurnMoves.setE s _ (by simp)).trans (s.tripEval_turnKeeps n).toTurnMoves, (s.tripEval_turnKeeps n).svc⟩

theorem State.tripTick_turnMoves (s : State) (n : Nat) (p : SafetyPins) : TurnMoves n s (s.tripTick n p) :=
  ((s.tripAck_turnMoves n p).trans (State.tripEval_turnMoves _ n).1).trans
    (s.tripTick_turnKeeps (d := true) n p).toTurnMoves

/-- What a turn answers, it answers to its acknowledge. -/
theorem State.tripTick_svc (s : State) (n : Nat) (p : SafetyPins) : (s.tripTick n p).svc = (s.tripAck n p).svc :=
  (s.tripTick_turnKeeps (d := true) n p).svc.trans (State.tripEval_turnMoves _ n).2

/-- R390: the status shows the demand that the evaluation found. -/
theorem State.tripTick_shows (s : State) (p : SafetyPins) (hn : n < 8) :
    (s.tripTick n p).flagged (tripr n) 0x0A 0 = s.demands n := by
  have hsame : (s.tripAck n p).demands n = s.demands n := ((s.tripAck_turnMoves n p).sameDemands hn).demands_eq n
  rw [← hsame]
  exact (s.tripTick_turnKeeps n p).shown ((State.tripEval_turnKeeps _ n).shown (by rw [flagged_flag_same, if_pos rfl]))

theorem State.tripTick_tripState_ne_zero (p : SafetyPins) (hn : n < 8) (hd : s.demands n = true)
    (hp : (s.trip n).parked = false) : (s.tripTick n p).tripState n ≠ 0 := by
  have hack : TurnMoves n s (s.tripAck n p) := s.tripAck_turnMoves n p
  refine (s.tripTick_turnKeeps (d := true) n p).tripped rfl (State.tripEval_tripState_ne_zero ?_ ?_)
  · rw [(hack.sameDemands hn).demands_eq, hd]
  · rw [hack.parked, hp]

/-- R390, R391: an acknowledge that finds a demand is refused. -/
theorem State.tripTick_refuses {txn : Nat} {x : Txn} (p : SafetyPins) (hd : s.demands n = true)
    (hack : (s.trip n).ack = some txn) (hopen : s.svc.txns.lookup txn = some x) (hexec : x.xfer = .executing) :
    (s.tripTick n p).svc.stored.head? = some (txn, x.req, abortBytes txn x.idx x.sub 0x05000006) := by
  obtain ⟨u, -, hsvc, he⟩ := State.tripAck_of_some p hack
  have hcode : s.tripAckCode n p = 0x05000006 := if_pos hd
  rw [State.tripTick_svc, he, hcode]
  exact State.answer_stored_of_refused (by rw [hsvc, hopen]) hexec (by decide)

/-- Turns have passed, none of them trip `n`'s: what shows of it and decides its demand is as it was, and with no
acknowledge of another trip waiting nothing was answered. -/
structure OthersTurn (n : Nat) (s t : State) : Prop where
  same : SameDemands s t
  trip : t.trip n = s.trip n
  status : t.e (tripr n) 0x0A = s.e (tripr n) 0x0A
  state : t.tripState n = s.tripState n
  ack : ∀ m, (s.trip m).ack = none → (t.trip m).ack = none
  svc : (∀ m, m < 8 → m ≠ n → (s.trip m).ack = none) → t.svc = s.svc

namespace OthersTurn

theorem refl (n : Nat) (s : State) : OthersTurn n s s :=
  ⟨⟨rfl, fun _ _ _ => rfl⟩, rfl, rfl, rfl, fun _ h => h, fun _ => rfl⟩

theorem trans (h : OthersTurn n s t) (h' : OthersTurn n t u) : OthersTurn n s u where
  same := ⟨h'.same.1.trans h.same.1, fun i j hij => (h'.same.2 i j hij).trans (h.same.2 i j hij)⟩
  trip := h'.trip.trans h.trip
  status := h'.status.trans h.status
  state := h'.state.trans h.state
  ack m hm := h'.ack m (h.ack m hm)
  svc hs := (h'.svc (fun m hm hne => h.ack m (hs m hm hne))).trans (h.svc hs)

theorem tripTick (s : State) (p : SafetyPins) (hm : m < 8) (hne : m ≠ n) : OthersTurn n s (s.tripTick m p) := by
  have hturn : TurnMoves m s (s.tripTick m p) := s.tripTick_turnMoves m p
  have hown : ∀ j, ¬turnEntry m (tripr n) j := fun j h => by
    simp only [turnEntry, entriesOf, serviceEntry, tripr] at h
    omega
  refine ⟨hturn.sameDemands hm, hturn.other n hne.symm, hturn.entries _ _ (by decide) (hown _),
    hturn.entries _ _ (by decide) (hown _), fun k hk => ?_, fun hs => ?_⟩
  · by_cases hkm : k = m
    · rw [hkm] at hk ⊢
      exact hturn.ack hk
    · rw [hturn.other k hkm, hk]
  · rw [State.tripTick_svc, State.tripAck_of_none (hs m hm hne)]

theorem foldl (s : State) (p : SafetyPins) {l : List Nat} (hl : ∀ m ∈ l, m < 8 ∧ m ≠ n) :
    OthersTurn n s (l.foldl (fun s m => s.tripTick m p) s) :=
  List.foldlRecOn _ _ (motive := OthersTurn n s) (refl _ _)
    (fun b h m hm => h.trans (tripTick b p (hl m hm).1 (hl m hm).2))

theorem flagged_eq (h : OthersTurn n s t) (k : Nat) : t.flagged (tripr n) 0x0A k = s.flagged (tripr n) 0x0A k := by
  rw [State.flagged, State.flagged, h.status]

end OthersTurn

/-- A tick gives each trip one turn, between the turns of the others. -/
theorem State.tick10_turn (s : State) (p : SafetyPins) (mismatch : Bool) (hn : n < 8) :
    ∃ u, OthersTurn n (s.beforeTrips p mismatch) u ∧ OthersTurn n (u.tripTick n p) (s.tick10 p mismatch) := by
  obtain ⟨l, l', hsplit⟩ := List.append_of_mem (List.mem_range.2 hn)
  have hnodup : n ∉ l ++ l' := (List.nodup_cons.1 (List.perm_middle.nodup (hsplit ▸ List.nodup_range))).1
  have hmem : ∀ m ∈ l ++ l', m < 8 ∧ m ≠ n := fun m hm =>
    ⟨List.mem_range.1 (hsplit ▸ List.perm_middle.mem_iff.2 (List.mem_cons_of_mem n hm)), fun h => hnodup (h ▸ hm)⟩
  rw [State.tick10_eq, hsplit, List.foldl_append, List.foldl_cons]
  exact ⟨_, .foldl _ _ (fun m hm => hmem m (List.mem_append_left _ hm)),
    .foldl _ _ (fun m hm => hmem m (List.mem_append_right _ hm))⟩

/-- R390: after a tick the status of a trip shows whether it demands. -/
theorem State.tick10_shows (s : State) (p : SafetyPins) (mismatch : Bool) (hn : n < 8) :
    (s.tick10 p mismatch).flagged (tripr n) 0x0A 0 = (s.tick10 p mismatch).demands n := by
  obtain ⟨u, -, hafter⟩ := s.tick10_turn p mismatch hn
  calc (s.tick10 p mismatch).flagged (tripr n) 0x0A 0 = (u.tripTick n p).flagged (tripr n) 0x0A 0 := hafter.flagged_eq 0
    _ = u.demands n := u.tripTick_shows p hn
    _ = (u.tripTick n p).demands n := (((u.tripTick_turnMoves n p).sameDemands hn).demands_eq n).symm
    _ = (s.tick10 p mismatch).demands n := (hafter.same.demands_eq n).symm

/-- R390, R391: where a tick ends with a demand, the one acknowledge that waited was refused, and a trip that is not
parked is not HEALTHY. -/
theorem State.tick10_refuses {txn : Nat} {x : Txn} (p : SafetyPins) (mismatch : Bool) (hn : n < 8)
    (hd : (s.tick10 p mismatch).demands n = true) (hack : (s.trip n).ack = some txn)
    (hopen : s.svc.txns.lookup txn = some x) (hexec : x.xfer = .executing)
    (hinputs : ∀ i, i < 16 → (s.input i).ack = none) (htrips : ∀ m, m < 8 → m ≠ n → (s.trip m).ack = none) :
    (s.tick10 p mismatch).svc.stored.head? = some (txn, x.req, abortBytes txn x.idx x.sub 0x05000006) ∧
    ((s.trip n).parked = false → (s.tick10 p mismatch).tripState n ≠ 0) := by
  obtain ⟨u, hbefore, hafter⟩ := s.tick10_turn p mismatch hn
  have hmoves : InputsMove s (s.beforeTrips p mismatch) := State.beforeTrips_inputsMove p mismatch hinputs
  have htrip : ∀ m, (s.beforeTrips p mismatch).trip m = s.trip m := fun m => by
    unfold State.trip
    rw [show (s.beforeTrips p mismatch).trips = s.trips from hmoves.kept .trips (by simp)]
  have hacks : ∀ m, m < 8 → m ≠ n → ((s.beforeTrips p mismatch).trip m).ack = none := fun m hm hne => by
    rw [htrip, htrips m hm hne]
  have hturn : TurnMoves n u (u.tripTick n p) := u.tripTick_turnMoves n p
  have hdu : u.demands n = true := by
    rw [← (hturn.sameDemands hn).demands_eq, ← hafter.same.demands_eq, hd]
  have htu : u.trip n = s.trip n := hbefore.trip.trans (htrip n)
  have hsvc : u.svc = s.svc := (hbefore.svc hacks).trans (hmoves.kept .svc (by simp))
  have hleft : ∀ m, m < 8 → m ≠ n → ((u.tripTick n p).trip m).ack = none := fun m hm hne => by
    rw [hturn.other m hne, hbefore.ack m (hacks m hm hne)]
  constructor
  · rw [hafter.svc hleft]
    exact State.tripTick_refuses p hdu (by rw [htu, hack]) (by rw [hsvc, hopen]) hexec
  · intro hp
    rw [hafter.state]
    exact State.tripTick_tripState_ne_zero p hn hdu (by rw [htu, hp])

theorem exec_safetyTick (p : SafetyPins) (mismatch : Bool) (hup : s.isUp = true) (hsafe : s.safeOn = true) :
    exec (.safetyTick p mismatch) s = .next (s.tick10 p mismatch) := by
  change Host.Outcome.next (s.live s.safeOn _) = _
  rw [State.live, hup, hsafe, Bool.and_self, if_pos rfl]

end Sys2Proof.Machine

namespace Sys2Proof.Proofs

open Sys2Proof.Machine

/-- Settles O54: after the tick the status of a trip shows its demand, which is R390's condition; under a fault the trip
demands, so that its acknowledge is refused. -/
theorem tripsDemand : Obligations.TripsDemand := by
  unfold Obligations.TripsDemand
  intro s p mismatch hup hsafe
  refine ⟨_, exec_safetyTick p mismatch hup hsafe, fun n hn => ⟨?_, ?_⟩⟩
  · exact (congrArg (· = true) (s.tick10_shows p mismatch hn)).to_iff.trans State.demands_iff
  · intro txn x hfault hack hopen hexec hinputs htrips
    exact State.tick10_refuses p mismatch hn (State.demands_iff.2 (.inr (.inr hfault))) hack hopen hexec hinputs htrips

end Sys2Proof.Proofs
end
